-- ==== Sys2Proof/Word.lean ====
section
/-! DEFINITION. The names, numbers and messages the FC-64 speaks in: page classes, lanes, ports, refusal codes, sets carried
as bits, and the requests by their named fields (spec/00_scope.md, Conventions; spec/12_message_layouts.md). -/

namespace Sys2Proof

/-- One byte of a frame. -/
abbrev Byte := BitVec 8

/-- MONO or COLOUR (section 12.2: 0, 1). -/
inductive PageClass where
  | mono | colour
  deriving DecidableEq, Repr

/-- A pair of values kept apart per class (R1). -/
structure PerClass (α : Type) where
  mono : α
  colour : α
  deriving DecidableEq, Repr

namespace PerClass
/-- The value of one class. -/
def get {α : Type} (p : PerClass α) : PageClass → α
  | .mono => p.mono
  | .colour => p.colour
/-- The pair with one class replaced. -/
def set {α : Type} (p : PerClass α) (c : PageClass) (v : α) : PerClass α :=
  match c with
  | .mono => { p with mono := v }
  | .colour => { p with colour := v }
/-- One function on both classes. -/
def map {α β : Type} (f : α → β) (p : PerClass α) : PerClass β := ⟨f p.mono, f p.colour⟩
/-- One function of two pairs, class by class. -/
def zip {α β γ : Type} (f : α → β → γ) (p : PerClass α) (q : PerClass β) : PerClass γ :=
  ⟨f p.mono q.mono, f p.colour q.colour⟩
/-- The same value in both classes. -/
def both {α : Type} (v : α) : PerClass α := ⟨v, v⟩
/-- A test of both classes. -/
def all {α : Type} (f : α → Bool) (p : PerClass α) : Bool := f p.mono && f p.colour
end PerClass

/-- A colorant lane (section 12.2: 0 K, 1 C, 2 M, 3 Y). -/
inductive Lane where
  | k | c | m | y
  deriving DecidableEq, Repr

/-- The lane's code. -/
def Lane.code : Lane → Nat
  | .k => 0 | .c => 1 | .m => 2 | .y => 3

/-- The four lanes in the order every rule takes them: K, C, M, Y. -/
def Lane.all : List Lane := [.k, .c, .m, .y]

/-- A value for each lane. -/
structure PerLane (α : Type) where
  k : α
  c : α
  m : α
  y : α
  deriving DecidableEq, Repr

namespace PerLane
/-- The value of one lane. -/
def get {α : Type} (p : PerLane α) : Lane → α
  | .k => p.k | .c => p.c | .m => p.m | .y => p.y
/-- The value of one lane replaced. -/
def set {α : Type} (p : PerLane α) (l : Lane) (v : α) : PerLane α :=
  match l with
  | .k => { p with k := v }
  | .c => { p with c := v }
  | .m => { p with m := v }
  | .y => { p with y := v }
/-- The same value in each lane. -/
def each {α : Type} (v : α) : PerLane α := ⟨v, v, v, v⟩
end PerLane

/-- A lane of the fleet, named by its printer number and its letter (R106). -/
structure LaneName where
  printer : Nat
  lane : Lane
  deriving DecidableEq, Repr

/-- A set of lanes: bit i for lane code i (section 12.2). -/
abbrev LaneSet := BitVec 4
/-- A set of print groups: bit g for group g (section 12.2). -/
abbrev GroupSet := BitVec 16
/-- A set of condition kinds: bit k for kind code k (section 12.2). -/
abbrev KindSet := BitVec 8
/-- A set of notice kinds: bits 0..4 the tenant kinds, bits 5..9 the facility kinds (section 12.2). -/
abbrev NoticeSet := BitVec 16

/-- The five master ports. -/
inductive PortName where
  | t0 | t1 | t2 | t3 | f
  deriving DecidableEq, Repr

/-- All five ports, T0 to T3 and F. -/
def PortName.all : List PortName := [.t0, .t1, .t2, .t3, .f]

/-- The tenant a port belongs to; F belongs to the facility (R163). -/
def PortName.tenant : PortName → Option Nat
  | .t0 => some 0 | .t1 => some 1 | .t2 => some 2 | .t3 => some 3 | .f => none

/-- The port of a tenant (R163); a number above 3 names no tenant and reaches no port of its own. -/
def PortName.ofTenant : Nat → PortName
  | 0 => .t0 | 1 => .t1 | 2 => .t2 | _ => .t3

/-- Whether the port is one of the four tenant ports. -/
def PortName.isTenant (p : PortName) : Bool := p != .f

/-- The ten notice kinds (section 10.4). -/
inductive NoticeKind where
  | finished | dispatch | requeued | period | overrun
  | callout | order | supply | fleet | tenant
  deriving DecidableEq, Repr

/-- The bit of a notice kind (section 12.2). -/
def NoticeKind.code : NoticeKind → Nat
  | .finished => 0 | .dispatch => 1 | .requeued => 2 | .period => 3 | .overrun => 4
  | .callout => 5 | .order => 6 | .supply => 7 | .fleet => 8 | .tenant => 9

/-- The set of one notice kind. -/
def NoticeKind.only (k : NoticeKind) : NoticeSet := 1#16 <<< k.code

/-- The eight condition kinds (R93). -/
inductive ConditionKind where
  | jam | doorOpen | paperOut | hardware | unreachable | mismatch | meterFault | supplyOut
  deriving DecidableEq, Repr

/-- The code of a condition kind (section 12.2). -/
def ConditionKind.code : ConditionKind → Nat
  | .jam => 0 | .doorOpen => 1 | .paperOut => 2 | .hardware => 3
  | .unreachable => 4 | .mismatch => 5 | .meterFault => 6 | .supplyOut => 7

/-- The seven kinds that have a grace time, in the order of the table of R141. -/
def ConditionKind.graced : List ConditionKind :=
  [.jam, .doorOpen, .paperOut, .hardware, .unreachable, .mismatch, .meterFault]

/-- The kinds an agent reports with CONDITION (R93). -/
def ConditionKind.reportable : ConditionKind → Bool
  | .jam | .doorOpen | .paperOut | .hardware => true
  | .unreachable | .mismatch | .meterFault | .supplyOut => false

/-- The kinds that block a printer for every class (R93, R95). -/
def ConditionKind.blocks : ConditionKind → Bool
  | .jam | .doorOpen | .paperOut | .hardware | .unreachable | .mismatch => true
  | .meterFault | .supplyOut => false

/-- The set of one condition kind. -/
def ConditionKind.only (k : ConditionKind) : KindSet := 1#8 <<< k.code

/-- The refusal codes (section 10.3). -/
inductive RefusalCode where
  | notAttached | notAssigned | wrongPort | busy | malformed | outOfWindow | outOfRange
  | noSuchAccount | noSuchJob | noSuchPrinter | noSuchOrder | noSuchCallout | badState
  | tableFull | shareFull | accountLimit | badgeInUse | overlap | noGroup | clockNotSet
  deriving DecidableEq, Repr

/-- The number of a refusal code, 1..20 in table order (section 12.3). -/
def RefusalCode.code : RefusalCode → Nat
  | .notAttached => 1 | .notAssigned => 2 | .wrongPort => 3 | .busy => 4 | .malformed => 5
  | .outOfWindow => 6 | .outOfRange => 7 | .noSuchAccount => 8 | .noSuchJob => 9
  | .noSuchPrinter => 10 | .noSuchOrder => 11 | .noSuchCallout => 12 | .badState => 13
  | .tableFull => 14 | .shareFull => 15 | .accountLimit => 16 | .badgeInUse => 17
  | .overlap => 18 | .noGroup => 19 | .clockNotSet => 20

/-- The panel results (section 12.3); the last two and PRINTER_UNAVAILABLE are session results too (section 9.4). -/
inductive PanelResult where
  | ok | stale | gatewayAway | printerUnavailable | classUnavailable | policyLimit | printerBusy
  | insufficientSupply | tenantCeiling | quota | unknownBadge | accountSuspended
  deriving DecidableEq, Repr

/-- The number of a panel result, 0..11 (section 12.3). -/
def PanelResult.code : PanelResult → Nat
  | .ok => 0 | .stale => 1 | .gatewayAway => 2 | .printerUnavailable => 3 | .classUnavailable => 4
  | .policyLimit => 5 | .printerBusy => 6 | .insufficientSupply => 7 | .tenantCeiling => 8
  | .quota => 9 | .unknownBadge => 10 | .accountSuspended => 11

/-- The reasons of SESSION_CLOSE (section 12.3). -/
inductive CloseReason where
  | timeout | replaced | account | printer
  deriving DecidableEq, Repr

/-- The number of a session-close reason, 0..3. -/
def CloseReason.code : CloseReason → Nat
  | .timeout => 0 | .replaced => 1 | .account => 2 | .printer => 3

/-- The ten report kinds (section 9.2). -/
inductive ReportKind where
  | hello | status | condition | level | badge | select | sessionEnd | progress | jobEnd | installed
  deriving DecidableEq, Repr

/-- The floor kind code of a report, 1..10 (section 12.3). -/
def ReportKind.code : ReportKind → Nat
  | .hello => 1 | .status => 2 | .condition => 3 | .level => 4 | .badge => 5 | .select => 6
  | .sessionEnd => 7 | .progress => 8 | .jobEnd => 9 | .installed => 10

/-- The two policies of a tenant (R35). -/
inductive PolicyName where
  | day | afterHours
  deriving DecidableEq, Repr

/-- The units of a period timer (R24). -/
inductive TimerUnit where
  | minutes | hours
  deriving DecidableEq, Repr

/-- A printer's admin state (R82). -/
inductive AdminState where
  | inService | draining | outOfService
  deriving DecidableEq, Repr

/-- The outcome a JOB_END reports (R97). -/
inductive JobOutcome where
  | complete | aborted
  deriving DecidableEq, Repr

/-- A day number and a minute of day (section 12.2). -/
structure Time where
  day : Nat
  minute : Nat
  deriving DecidableEq, Repr

/-- The wall clock when it is set (R171). -/
structure Clock where
  day : Nat
  minute : Nat
  weekday : Nat
  deriving DecidableEq, Repr

/-- A job handle: table index and generation (00_scope, Handles). -/
structure Handle where
  index : Nat
  generation : Nat
  deriving DecidableEq, Repr

/-- A tenant's window of account indices, both ends included (R13). -/
structure Window where
  base : Nat
  limit : Nat
  deriving DecidableEq, Repr

/-- The limits an account is opened with, of one class (R5). -/
structure Limits where
  allowance : Nat
  overdraft : Nat
  carryCap : Nat
  deriving DecidableEq, Repr

/-- The optional limits of SET_ACCOUNT, of one class (R6). -/
structure LimitChanges where
  allowance : Option Nat
  overdraft : Option Nat
  carryCap : Option Nat
  deriving DecidableEq, Repr

/-- The optional fields of SET_POLICY (R36). -/
structure PolicyChanges where
  colourAllowed : Option Bool
  maxPages : Option Nat
  holdTime : Option Nat
  overdraftAllowed : Option Bool
  deriving DecidableEq, Repr

/-- The fields of SUBMIT (section 3.3). -/
structure Submission where
  owner : Nat
  label : Nat
  pages : PerClass Nat
  kClass : Nat
  colourClass : Option Nat
  groups : GroupSet
  deriving DecidableEq, Repr

/-- The fields of ENROL (R84): a type is given for a lane or it is not. -/
structure Enrolment where
  floor : Nat
  group : Nat
  colour : Bool
  types : PerLane (Option Nat)
  deriving DecidableEq, Repr

/-- The optional fields of SET_TYPE (R125). -/
structure TypeChanges where
  capacity : Option Nat
  reorder : Option Nat
  critical : Option Nat
  level : Option Nat
  quantity : Option Nat
  deriving DecidableEq, Repr

/-- One entry of SET_SCHEDULE (R174). -/
structure ScheduleEntry where
  weekday : Nat
  start : Nat
  finish : Nat
  deriving DecidableEq, Repr

/-- A LEVEL report's entry for one lane (section 6.6): a reading, absent or in percent, and the empty flag. -/
structure LaneReading where
  reading : Option Nat
  empty : Bool
  deriving DecidableEq, Repr

/-- The choice a SELECT carries (section 4.5). -/
inductive Choice where
  | all
  | handles (hs : List Handle)
  deriving DecidableEq, Repr

/-- The enumerated fields of requests and answers whose codes the spec does not state (section 12.3 states the others); their
codes are free values (log entry 33). -/
inductive CodeTable where
  | portState | portName | accountState | policy | timerUnit | timerState | jobState | endReason | adminState | presence
  | laneState | ordering | orderState | calloutKind | calloutState | resetCause
  deriving DecidableEq, Repr

/-- What every request command carries beside its fields: the port, the tag, and whether the frame's body passes the tests
R179 makes of its bytes: SUBMIT's length, and a defined code in every enumerated and yes/no field (log entry 7). -/
structure Head where
  port : PortName
  tag : Nat
  wellFormed : Bool
  deriving DecidableEq, Repr

/-- What every report command carries beside its fields: the address of the frame and whether its check sequence
agrees (R156, R178). -/
structure LinkFrame where
  address : Nat
  checkOk : Bool
  deriving DecidableEq, Repr

/-- A request by its named fields, as the request input queue holds it (R163). `unknown` is a request whose kind code is
not one of the request codes (R167, R179). A tenant number of a read request is carried on port F alone (R17). -/
inductive Request where
  | attach
  | detach
  | setNoticeMask (kinds : NoticeSet)
  | ackNotice (kinds : NoticeSet)
  | readNotices
  | readPorts
  | openAccount (index : Nat) (badge : Option Nat) (limits : PerClass Limits)
  | setAccount (index : Nat) (changes : PerClass LimitChanges)
  | setBadge (index badge : Nat)
  | clearBadge (index : Nat)
  | suspendAccount (index : Nat)
  | resumeAccount (index : Nat)
  | closeAccount (index : Nat)
  | adjustBalance (index : Nat) (cls : PageClass) (delta : Int)
  | readAccount (index : Nat)
  | readClosing (index : Nat)
  | readTenant (tenant : Nat)
  | assignTenant (tenant : Nat) (window : Option Window) (share : Nat) (groups : GroupSet)
  | setCeiling (tenant : Nat) (cls : PageClass) (ceiling : Option Nat)
  | closePeriod
  | setPolicy (policy : PolicyName) (changes : PolicyChanges)
  | readPeriod (tenant : Nat)
  | readPolicy (tenant : Nat)
  | setPeriodTimer (tenant : Nat) (unit : TimerUnit) (length : Nat)
  | startTimer (tenant : Nat)
  | stopTimer (tenant : Nat)
  | submit (job : Submission)
  | cancel (job : Handle)
  | listFinished
  | collect (job : Handle)
  | readJob (job : Handle)
  | listActive
  | setPanelTimeout (minutes : Nat)
  | enrol (printer : Nat) (fields : Enrolment)
  | unenroll (printer : Nat)
  | setAdmin (printer : Nat) (target : AdminState)
  | flushPrinter (printer : Nat)
  | setPrinterTimers (printer : Nat) (silence stall : Option Nat)
  | setWalkup (margin coverage : Option Nat)
  | clearCondition (printer : Nat) (kind : ConditionKind)
  | readPrinter (printer : Nat)
  | setWeights (k colour : Option (List Nat))
  | setEstimator (tolerance rebase : Option Nat)
  | readWeights
  | readLanes (printer : Nat)
  | setFactor (printer : Nat) (lane : Lane) (factor : Nat)
  | listUncounted
  | ackUncounted (printer : Nat) (lane : Lane)
  | setType (type : Nat) (changes : TypeChanges)
  | adjustStock (type onHand : Nat)
  | setLaneType (printer : Nat) (lane : Lane) (type : Nat)
  | ackOrder (number : Nat)
  | receiveOrder (number received : Nat)
  | cancelOrder (number : Nat)
  | readType (type : Nat)
  | listOrders
  | setGrace (kind : ConditionKind) (minutes : Nat)
  | setEscalation (minutes : Nat)
  | ackCallout (number : Nat)
  | clearHistory (printer : Nat) (kinds : KindSet)
  | listCallouts
  | readLink
  | clearStray (address : Option Nat)
  | setClock (day minute weekday : Nat)
  | setSchedule (entries : List ScheduleEntry)
  | clearAll
  | readClock
  | unknown (kind : Nat)
  deriving DecidableEq, Repr

/-- A request frame as the MPC queues it: tag, whether its bytes pass R179's tests, request (R163). -/
structure QueuedRequest where
  tag : Nat
  wellFormed : Bool
  request : Request
  deriving DecidableEq, Repr

/-- A frame arriving at a master port: whether it passes the check of R178, and what it carries. -/
structure RequestFrame where
  checkOk : Bool
  carried : QueuedRequest
  deriving DecidableEq, Repr

end Sys2Proof
end

