-- ==== Sys2Proof/Config.lean ====
section
/-! DEFINITION. What an implementation of the FC-64 fixes: sizes and bounds the spec states, its defaults, and the values it
leaves open (opaque constants: nothing in Lean can evaluate them). -/

namespace Sys2Proof.Config

/-- FREE VALUE (log entry 8): the part family code of ATTACH's answer (R164); the spec states no number. -/
opaque partFamilyCode : Nat
/-- FREE VALUE (log entry 8): the revision of ATTACH's answer (R164); the spec states no number. -/
opaque partRevision : Nat

/-- FREE VALUE (log entry 33): the width of an unsigned number in a request's body, 0, 1 or 2 for 1, 2 or 4 bytes, by the
request's kind code and the place of the field; section 12.2 leaves the width to layouts the spec does not give. -/
opaque requestWidth : Nat → Nat → Fin 3
/-- FREE VALUE (log entry 33): the width of an unsigned number in an answer's body, by the kind code of the request answered
and the place of the field. -/
opaque answerWidth : Nat → Nat → Fin 3
/-- FREE VALUE (log entry 33): the code of a value of an enumerated field whose codes the spec does not state. -/
opaque code : CodeTable → Nat → Byte
/-- FREE VALUE (log entry 33): how a request's field that may name no number (no window, no lane type, every address) is
spelled, by the kind code, the place of the field and the number it holds. -/
opaque spellsNone : Nat → Nat → Nat → Bool
/-- FREE VALUE (log entry 33): what a request body that ends before its fields do reads as beyond its end; R179 does not find
such a body malformed, tests none of the fields it does not carry, and no rule says what they hold. -/
opaque missingByte : Nat → Byte

/-- Accounts, R1. -/
def accounts : Nat := 1024
/-- Tenants, R13. -/
def tenants : Nat := 4
/-- Job entries, R40. -/
def jobs : Nat := 256
/-- Printers and floor-link addresses, R82, R155. -/
def printers : Nat := 64
/-- Cartridge types, R123. -/
def types : Nat := 32
/-- Live jobs an account may have, R47. -/
def accountJobs : Nat := 8
/-- Jobs a dispatch queue holds, R94. -/
def dispatchDepth : Nat := 4
/-- Requests a port's input queue holds, R163. -/
def requestDepth : Nat := 4
/-- Commands an address's command queue holds, R155. -/
def commandDepth : Nat := 8
/-- Orders the order queue holds, section 7.4. -/
def orderDepth : Nat := 16
/-- Callouts the callout queue holds, R139. -/
def calloutDepth : Nat := 32
/-- Entries a list request shows at most, R57, R120, R153. -/
def listLength : Nat := 16
/-- Interruptions after which a job fails, R99. -/
def interruptLimit : Nat := 3

/-- Balance range, R1. -/
def balanceMin : Int := -65535
/-- Balance range, R1. -/
def balanceMax : Int := 1048575
/-- Largest used count and tenant used, R1, R13. -/
def usedMax : Nat := 16777215
/-- Largest pages of a class in a request or a report, R40, R96. -/
def pagesMax : Nat := 9999
/-- Largest done figure, R40. -/
def doneMax : Nat := 19998
/-- Meter surplus range, R82. -/
def surplusMin : Int := -65535
/-- Meter surplus range, R82. -/
def surplusMax : Int := 65535
/-- Largest walk-up total, R82. -/
def walkupMax : Nat := 4294967295
/-- Largest stock count, R123. -/
def stockMax : Nat := 999
/-- Largest 16-bit number: tags, grants, order and callout numbers, day numbers. -/
def wordMax : Nat := 65535
/-- Minutes in a day. -/
def dayMinutes : Nat := 1440

/-- The default K weights (section 6.2). -/
def kWeights : List Nat := [1, 2, 3, 4, 6, 9, 13, 18]
/-- The default colour weights (section 6.2). -/
def colourWeights : List Nat := [1, 2, 4, 6, 9, 13, 19, 27]
/-- The default grace times in the order of R141. -/
def graceTimes : List Nat := [10, 5, 20, 0, 3, 0, 0]

end Sys2Proof.Config
end

