-- ==== Sys2Proof/Syntax.lean ====
section
/-! DEFINITION. The commands of the FC-64: one constructor for each row of spec/opcode_table.json, with the operands the
spec names. A request carries a `Head` (port, tag, form of the body), a report a `LinkFrame` (address, check sequence). -/

namespace Sys2Proof

/-- One command the FC-64 takes: a request, a report, a timer event, a reset or power event. -/
inductive Instr where
  -- Events at the master ports (R164 to R167)
  /-- REQUEST_FRAME_ARRIVAL, R166. -/
  | requestFrameArrival (port : PortName) (frame : RequestFrame)
  /-- PORT_LINK_UP, R164. -/
  | portLinkUp (port : PortName)
  /-- PORT_LINK_LOSS, R165. -/
  | portLinkLoss (port : PortName)
  -- Requests of the MPC
  /-- ATTACH, R164. -/
  | attach (h : Head)
  /-- DETACH, R165. -/
  | detach (h : Head)
  /-- SET_NOTICE_MASK, R169. -/
  | setNoticeMask (h : Head) (kinds : NoticeSet)
  /-- ACK_NOTICE, R169. -/
  | ackNotice (h : Head) (kinds : NoticeSet)
  /-- READ_NOTICES, R169. -/
  | readNotices (h : Head)
  /-- READ_PORTS, R170. -/
  | readPorts (h : Head)
  -- Account and tenant requests (chapter 1)
  /-- OPEN_ACCOUNT, R5. -/
  | openAccount (h : Head) (index : Nat) (badge : Option Nat) (limits : PerClass Limits)
  /-- SET_ACCOUNT, R6. -/
  | setAccount (h : Head) (index : Nat) (changes : PerClass LimitChanges)
  /-- SET_BADGE, R7. -/
  | setBadge (h : Head) (index badge : Nat)
  /-- CLEAR_BADGE, R7. -/
  | clearBadge (h : Head) (index : Nat)
  /-- SUSPEND_ACCOUNT, R9. -/
  | suspendAccount (h : Head) (index : Nat)
  /-- RESUME_ACCOUNT, R9. -/
  | resumeAccount (h : Head) (index : Nat)
  /-- CLOSE_ACCOUNT, R10. -/
  | closeAccount (h : Head) (index : Nat)
  /-- ADJUST_BALANCE, R11. -/
  | adjustBalance (h : Head) (index : Nat) (cls : PageClass) (delta : Int)
  /-- READ_ACCOUNT, R12. -/
  | readAccount (h : Head) (index : Nat)
  /-- READ_CLOSING, R12. -/
  | readClosing (h : Head) (index : Nat)
  /-- READ_TENANT, R17. -/
  | readTenant (h : Head) (tenant : Nat)
  /-- ASSIGN_TENANT, R15. -/
  | assignTenant (h : Head) (tenant : Nat) (window : Option Window) (share : Nat) (groups : GroupSet)
  /-- SET_CEILING, R16. -/
  | setCeiling (h : Head) (tenant : Nat) (cls : PageClass) (ceiling : Option Nat)
  -- Period and policy requests (chapter 2)
  /-- CLOSE_PERIOD, R29. -/
  | closePeriod (h : Head)
  /-- SET_POLICY, R36. -/
  | setPolicy (h : Head) (policy : PolicyName) (changes : PolicyChanges)
  /-- READ_PERIOD, R34. -/
  | readPeriod (h : Head) (tenant : Nat)
  /-- READ_POLICY, R39. -/
  | readPolicy (h : Head) (tenant : Nat)
  /-- SET_PERIOD_TIMER, R27. -/
  | setPeriodTimer (h : Head) (tenant : Nat) (unit : TimerUnit) (length : Nat)
  /-- START_TIMER, R28. -/
  | startTimer (h : Head) (tenant : Nat)
  /-- STOP_TIMER, R28. -/
  | stopTimer (h : Head) (tenant : Nat)
  -- Job requests (chapter 3)
  /-- SUBMIT, R46. -/
  | submit (h : Head) (job : Submission)
  /-- CANCEL, R52. -/
  | cancel (h : Head) (job : Handle)
  /-- LIST_FINISHED, R57. -/
  | listFinished (h : Head)
  /-- COLLECT, R58. -/
  | collect (h : Head) (job : Handle)
  /-- READ_JOB, R59. -/
  | readJob (h : Head) (job : Handle)
  /-- LIST_ACTIVE, R60. -/
  | listActive (h : Head)
  -- Panel and fleet requests (chapters 4 and 5)
  /-- SET_PANEL_TIMEOUT, R62. -/
  | setPanelTimeout (h : Head) (minutes : Nat)
  /-- ENROL, R84. -/
  | enrol (h : Head) (printer : Nat) (fields : Enrolment)
  /-- UNENROLL, R87. -/
  | unenroll (h : Head) (printer : Nat)
  /-- SET_ADMIN, R88. -/
  | setAdmin (h : Head) (printer : Nat) (target : AdminState)
  /-- FLUSH_PRINTER, R90. -/
  | flushPrinter (h : Head) (printer : Nat)
  /-- SET_PRINTER_TIMERS, R86. -/
  | setPrinterTimers (h : Head) (printer : Nat) (silence stall : Option Nat)
  /-- SET_WALKUP, R86. -/
  | setWalkup (h : Head) (margin coverage : Option Nat)
  /-- CLEAR_CONDITION, R93. -/
  | clearCondition (h : Head) (printer : Nat) (kind : ConditionKind)
  /-- READ_PRINTER, R105. -/
  | readPrinter (h : Head) (printer : Nat)
  -- Lane requests (chapter 6)
  /-- SET_WEIGHTS, R108. -/
  | setWeights (h : Head) (k colour : Option (List Nat))
  /-- SET_ESTIMATOR, R108. -/
  | setEstimator (h : Head) (tolerance rebase : Option Nat)
  /-- READ_WEIGHTS, R108. -/
  | readWeights (h : Head)
  /-- READ_LANES, R121. -/
  | readLanes (h : Head) (printer : Nat)
  /-- SET_FACTOR, R121. -/
  | setFactor (h : Head) (printer : Nat) (lane : Lane) (factor : Nat)
  /-- LIST_UNCOUNTED, R120. -/
  | listUncounted (h : Head)
  /-- ACK_UNCOUNTED, R120. -/
  | ackUncounted (h : Head) (printer : Nat) (lane : Lane)
  -- Stock requests (chapter 7)
  /-- SET_TYPE, R125. -/
  | setType (h : Head) (type : Nat) (changes : TypeChanges)
  /-- ADJUST_STOCK, R136. -/
  | adjustStock (h : Head) (type onHand : Nat)
  /-- SET_LANE_TYPE, R137. -/
  | setLaneType (h : Head) (printer : Nat) (lane : Lane) (type : Nat)
  /-- ACK_ORDER, R133. -/
  | ackOrder (h : Head) (number : Nat)
  /-- RECEIVE_ORDER, R134. -/
  | receiveOrder (h : Head) (number received : Nat)
  /-- CANCEL_ORDER, R135. -/
  | cancelOrder (h : Head) (number : Nat)
  /-- READ_TYPE, R138. -/
  | readType (h : Head) (type : Nat)
  /-- LIST_ORDERS, R138. -/
  | listOrders (h : Head)
  -- Callout and link requests (chapters 8 and 9)
  /-- SET_GRACE, R141. -/
  | setGrace (h : Head) (kind : ConditionKind) (minutes : Nat)
  /-- SET_ESCALATION, R141. -/
  | setEscalation (h : Head) (minutes : Nat)
  /-- ACK_CALLOUT, R150. -/
  | ackCallout (h : Head) (number : Nat)
  /-- CLEAR_HISTORY, R152. -/
  | clearHistory (h : Head) (printer : Nat) (kinds : KindSet)
  /-- LIST_CALLOUTS, R153. -/
  | listCallouts (h : Head)
  /-- READ_LINK, R161. -/
  | readLink (h : Head)
  /-- CLEAR_STRAY, R162. -/
  | clearStray (h : Head) (address : Option Nat)
  -- Time requests (chapter 11)
  /-- SET_CLOCK, R173. -/
  | setClock (h : Head) (day minute weekday : Nat)
  /-- SET_SCHEDULE, R174. -/
  | setSchedule (h : Head) (entries : List ScheduleEntry)
  /-- CLEAR_ALL, R176. -/
  | clearAll (h : Head)
  /-- READ_CLOCK, R173. -/
  | readClock (h : Head)
  -- Reports of the agents (chapter 9)
  /-- HELLO, R92. -/
  | hello (l : LinkFrame) (colour : Bool) (lanes meter : Nat)
  /-- STATUS, R104. -/
  | status (l : LinkFrame) (meter : Nat)
  /-- CONDITION, R93. -/
  | condition (l : LinkFrame) (kind : ConditionKind) (onset : Bool)
  /-- LEVEL, R117. -/
  | level (l : LinkFrame) (readings : PerLane LaneReading)
  /-- BADGE, R63. -/
  | badge (l : LinkFrame) (number : Nat)
  /-- SELECT, R79. -/
  | select (l : LinkFrame) (choice : Choice)
  /-- SESSION_END, R71. -/
  | sessionEnd (l : LinkFrame)
  /-- PROGRESS, R96. -/
  | progress (l : LinkFrame) (grant : Nat) (pages : PerClass Nat)
  /-- JOB_END, R97. -/
  | jobEnd (l : LinkFrame) (grant : Nat) (pages : PerClass Nat) (outcome : JobOutcome)
  /-- INSTALLED, R119. -/
  | installed (l : LinkFrame) (lane : Lane)
  /-- COMMAND_CONFIRMATION, R159. -/
  | commandConfirmation (address : Nat)
  -- Events of the time base and expiries of the timers (R172)
  /-- SECOND_EVENT, R171. -/
  | secondEvent
  /-- MINUTE_EVENT, R172. -/
  | minuteEvent
  /-- SILENCE_EXPIRY, R91. -/
  | silenceExpiry (printer : Nat)
  /-- STALL_EXPIRY, R100. -/
  | stallExpiry (printer : Nat)
  /-- PERIOD_TIMER_UNDERFLOW, R26. -/
  | periodTimerUnderflow (tenant : Nat)
  /-- JOB_EXPIRY, R49. -/
  | jobExpiry
  /-- GRACE_EXPIRY, R145. -/
  | graceExpiry
  /-- CALLOUT_ESCALATION, R149. -/
  | calloutEscalation
  /-- SESSION_TIMEOUT, R70. -/
  | sessionTimeout (printer : Nat)
  -- Resets and power (R175, R176), and the malformed request (R167)
  /-- RESET_LINE_ASSERTED, R176. -/
  | resetLineAsserted (duringReset : Bool)
  /-- POWER_ON, R176. -/
  | powerOn (retainedSupply : Bool)
  /-- MAIN_POWER_LOSS, R175. -/
  | mainPowerLoss (duringReset : Bool)
  /-- MALFORMED_REQUEST, R167. -/
  | malformedRequest (h : Head) (kind : Nat)
  /-- RETAINED_SUPPLY_LOSS, R175. -/
  | retainedSupplyLoss
  deriving DecidableEq, Repr

end Sys2Proof
end

