-- ==== Sys2Proof/Machine/State.lean ====
section
/-! DEFINITION. The state of the FC-64, one group of fields for each block that owns them, as plain data; what the part sends
(answers, notices, commands); the state after reset; the reasons a step can stop.

Tables of numbered records (accounts, jobs, printers, lanes, types) are lists of (number, record) in ONE canonical form:
numbers strictly rising, and no record equal to what an unlisted number reads as (log entry 20). -/

namespace Sys2Proof.Machine

/-- A table of numbered records: the records that differ from the table's unlisted record, by rising number. -/
abbrev Table (α : Type) := List (Nat × α)

/-! ### The Account Unit -/

/-- R1: an account's state. -/
inductive AccountState where
  | free | active | suspended
  deriving DecidableEq, Repr

/-- R1: one account record. -/
structure Account where
  state : AccountState
  badge : Option Nat
  allowance : PerClass Nat
  balance : PerClass Int
  reserved : PerClass Nat
  used : PerClass Nat
  overdraft : PerClass Nat
  carryCap : PerClass Nat
  closingUsed : PerClass (Option Nat)
  closingBalance : PerClass (Option Int)
  liveJobs : Nat
  overrun : Bool
  deriving DecidableEq, Repr

/-- R1: the reset values, those of a FREE record. -/
def Account.free : Account where
  state := .free
  badge := none
  allowance := .both 0
  balance := .both 0
  reserved := .both 0
  used := .both 0
  overdraft := .both 0
  carryCap := .both 0
  closingUsed := .both none
  closingBalance := .both none
  liveJobs := 0
  overrun := false

/-- R35: one policy record. -/
structure Policy where
  colourAllowed : Bool
  maxPages : Nat
  holdTime : Nat
  overdraftAllowed : Bool
  deriving DecidableEq, Repr

/-- R24: a period timer. -/
structure PeriodTimer where
  unit : TimerUnit
  length : Nat
  count : Nat
  hourStep : Nat
  running : Bool
  deriving DecidableEq, Repr

/-- R13, R24, R35: one tenant record. A ceiling of none is UNLIMITED. -/
structure Tenant where
  window : Option Window
  share : Nat
  groups : GroupSet
  ceiling : PerClass (Option Nat)
  used : PerClass Nat
  reserved : PerClass Nat
  day : Policy
  afterHours : Policy
  timer : PeriodTimer
  period : Nat
  deriving DecidableEq, Repr

/-- R13, R24, R35: the cold-reset values of a tenant record. -/
def Tenant.cold : Tenant where
  window := none
  share := 0
  groups := 0
  ceiling := .both none
  used := .both 0
  reserved := .both 0
  day := ⟨true, 9999, 480, false⟩
  afterHours := ⟨false, 200, 720, false⟩
  timer := ⟨.hours, 720, 720, 0, false⟩
  period := 0

/-- The Account Unit's state. -/
structure AccountUnit where
  accounts : Table Account
  tenants : Table Tenant
  deriving DecidableEq, Repr

/-! ### The Job Table -/

/-- R40: where a job stands. -/
inductive JobState where
  | free | held | queued | active | cancelling | done | cancelled | expired | failed
  deriving DecidableEq, Repr

/-- R44: why a job reached its final state. -/
inductive EndReason where
  | complete | cancelledByTenant | expired | interruptLimit | printerRemoved
  deriving DecidableEq, Repr

/-- R40: one job entry. -/
structure Job where
  state : JobState
  generation : Nat
  tenant : Nat
  owner : Nat
  label : Nat
  pages : PerClass Nat
  kClass : Nat
  colourClass : Option Nat
  groups : GroupSet
  submitted : Time
  expiry : Time
  printer : Option Nat
  grant : Option Nat
  reservation : Option (PerClass Nat)
  needs : Option (PerLane Nat)
  done : PerClass Nat
  doneAtRelease : PerClass Nat
  interrupts : Nat
  endReason : Option EndReason
  finished : Option Time
  deriving DecidableEq, Repr

/-- R41: a FREE entry of a given generation. -/
def Job.freeAt (generation : Nat) : Job where
  state := .free
  generation := generation
  tenant := 0
  owner := 0
  label := 0
  pages := .both 0
  kClass := 0
  colourClass := none
  groups := 0
  submitted := ⟨0, 0⟩
  expiry := ⟨0, 0⟩
  printer := none
  grant := none
  reservation := none
  needs := none
  done := .both 0
  doneAtRelease := .both 0
  interrupts := 0
  endReason := none
  finished := none

/-- The Job Table's state: the entries, and each tenant's finished list, oldest first (R56). -/
structure JobUnit where
  jobs : Table Job
  finished : Table (List Handle)
  deriving DecidableEq, Repr

/-! ### The Release Unit -/

/-- R61: an open panel session; its printer is its number in the table. -/
structure Session where
  account : Nat
  tenant : Nat
  offers : List Handle
  withdrawn : List Handle
  minutes : Nat
  deriving DecidableEq, Repr

/-- The Release Unit's state (R61). -/
structure ReleaseUnit where
  sessions : Table (Option Session)
  panelTimeout : Nat
  grantCounter : Nat
  deriving DecidableEq, Repr

/-! ### The Fleet Table -/

/-- R82: a printer's presence on the link. -/
inductive Presence where
  | unknown | present
  deriving DecidableEq, Repr

/-- R82: what the last HELLO carried. -/
structure Capabilities where
  colour : Bool
  lanes : Nat
  meter : Nat
  deriving DecidableEq, Repr

/-- R93: a condition's onset time, absent when the clock was NOT_SET. -/
structure Onset where
  time : Option Time
  deriving DecidableEq, Repr

/-- R82: the last job the stall timer (or a flush) ended at a printer. -/
structure StalledGrant where
  grant : Nat
  account : Nat
  kClass : Nat
  colourClass : Option Nat
  pages : PerClass Nat
  deriving DecidableEq, Repr

/-- R82, R97: the latest report that named a grant the FT could not place. -/
structure ProtocolError where
  kind : ReportKind
  grant : Nat
  time : Option Time
  deriving DecidableEq, Repr

/-- R82: one printer record. `conditions` holds the kinds held, by kind code; `supplyOut` is SUPPLY_OUT's lane list. -/
structure Printer where
  enrolled : Bool
  floor : Nat
  group : Nat
  colour : Bool
  laneTypes : PerLane (Option Nat)
  silenceLimit : Nat
  stallLimit : Nat
  admin : AdminState
  presence : Presence
  capabilities : Option Capabilities
  conditions : Table (Option Onset)
  supplyOut : LaneSet
  queue : List Handle
  silence : Option Nat
  stall : Option Nat
  meter : Option Nat
  surplus : Int
  walkup : Nat
  stalled : Option StalledGrant
  protocolError : Option ProtocolError
  deriving DecidableEq, Repr

/-- R83: the cold-reset values of a printer record. -/
def Printer.cold : Printer where
  enrolled := false
  floor := 0
  group := 0
  colour := false
  laneTypes := .each none
  silenceLimit := 90
  stallLimit := 20
  admin := .outOfService
  presence := .unknown
  capabilities := none
  conditions := []
  supplyOut := 0
  queue := []
  silence := none
  stall := none
  meter := none
  surplus := 0
  walkup := 0
  stalled := none
  protocolError := none

/-- The Fleet Table's state: the records and the two fleet settings (R82). -/
structure FleetUnit where
  printers : Table Printer
  walkupMargin : Nat
  walkupClass : Nat
  deriving DecidableEq, Repr

/-! ### The Supply Estimator -/

/-- R110: a lane's state. -/
inductive LaneState where
  | ok | low | critical | empty
  deriving DecidableEq, Repr

/-- R106: one lane record. -/
structure LaneRecord where
  type : Nat
  estimate : Nat
  fraction : Nat
  factor : Nat
  candidate : Option Nat
  confirmed : Option Nat
  emptyFlag : Bool
  committed : Nat
  state : LaneState
  allocation : Bool
  waiting : Bool
  uncounted : Bool
  deriving DecidableEq, Repr

/-- The Supply Estimator's state: the lane records, each at number 4 × printer + lane code, and R108's settings. -/
structure SupplyUnit where
  lanes : Table (Option LaneRecord)
  kWeights : List Nat
  colourWeights : List Nat
  tolerance : Nat
  rebaseLimit : Nat
  deriving DecidableEq, Repr

/-! ### The Stock Unit -/

/-- R123: one cartridge type record. -/
structure CartridgeType where
  capacity : Nat
  reorder : Nat
  critical : Nat
  onHand : Nat
  allocated : Nat
  level : Nat
  quantity : Nat
  onOrder : Nat
  ordering : Bool
  waitList : List LaneName
  deriving DecidableEq, Repr

/-- R123: the cold-reset values of a type record (ordering SUSPENDED). -/
def CartridgeType.cold : CartridgeType where
  capacity := 10000
  reorder := 20
  critical := 5
  onHand := 0
  allocated := 0
  level := 0
  quantity := 1
  onOrder := 0
  ordering := false
  waitList := []

/-- Section 7.4: one purchase order. -/
structure Order where
  number : Nat
  type : Nat
  quantity : Nat
  acknowledged : Bool
  raised : Option Time
  deriving DecidableEq, Repr

/-- The Stock Unit's state (R123): types, order queue oldest first, deferral list oldest first, order-number counter. -/
structure StockUnit where
  types : Table CartridgeType
  orders : List Order
  deferred : List Nat
  orderCounter : Nat
  deriving DecidableEq, Repr

/-! ### The Callout Unit -/

/-- Section 8.1: a callout's kind. -/
inductive CalloutKind where
  | service | supply
  deriving DecidableEq, Repr

/-- Section 8.1: an item of a callout: a condition kind (SERVICE) or a lane (SUPPLY). -/
inductive CalloutItem where
  | condition (kind : ConditionKind)
  | lane (lane : Lane)
  deriving DecidableEq, Repr

/-- Section 8.1: one callout. -/
structure Callout where
  number : Nat
  printer : Nat
  kind : CalloutKind
  items : List CalloutItem
  level : Nat
  acknowledged : Bool
  raised : Option Time
  deadline : Option Time
  deriving DecidableEq, Repr

/-- R148: one deferred raise. -/
structure Deferral where
  printer : Nat
  kind : CalloutKind
  items : List CalloutItem
  time : Option Time
  deriving DecidableEq, Repr

/-- R142: a grace record. `expiring` is the model's own: the count has reached 0 at a minute event and GRACE_EXPIRY has
not been taken yet (log entry 4). -/
inductive Grace where
  | idle
  | running (left : Nat)
  | expiring
  | spent
  deriving DecidableEq, Repr

/-- The Callout Unit's state. Grace records stand at number 8 × printer + kind code. -/
structure CalloutUnit where
  callouts : List Callout
  calloutCounter : Nat
  grace : Table Grace
  deferrals : List Deferral
  history : Table KindSet
  graceTimes : List Nat
  escalation : Nat
  deriving DecidableEq, Repr

/-! ### The Floor Link Controller -/

/-- Section 9.4: a job as OFFER shows it. -/
structure OfferedJob where
  job : Handle
  label : Nat
  pages : PerClass Nat
  deriving DecidableEq, Repr

/-- Section 9.4: one job result of PANEL_RESULT; the grant is present for OK. -/
structure JobResult where
  job : Handle
  result : PanelResult
  grant : Option Nat
  deriving DecidableEq, Repr

/-- Section 9.4: the commands to the agents. -/
inductive Command where
  | offer (jobs : List OfferedJob)
  | panelResult (session : Option PanelResult) (results : List JobResult)
  | expect (grant tenant label : Nat) (pages : PerClass Nat)
  | abort (grant : Nat)
  | sessionClose (reason : CloseReason)
  deriving DecidableEq, Repr

/-- R155, R157: an entry of the stray set; its address is its number in the table. -/
structure Stray where
  kind : ReportKind
  time : Option Time
  deriving DecidableEq, Repr

/-- The Floor Link Controller's state (R155). -/
structure LinkUnit where
  queues : Table (List Command)
  strays : Table (Option Stray)
  deriving DecidableEq, Repr

/-! ### The Time Base and the Retained Memory -/

/-- R174: the day start and day end of a weekday. -/
structure DaySpan where
  start : Nat
  finish : Nat
  deriving DecidableEq, Repr

/-- R176: the causes of a reset. -/
inductive ResetCause where
  | coldPower | coldClear | warmLine | warmPower
  deriving DecidableEq, Repr

/-- R176: whether the reset was a cold one. -/
def ResetCause.isCold : ResetCause → Bool
  | .coldPower | .coldClear => true
  | .warmLine | .warmPower => false

/-- The Time Base's state (R171, R174) and the cause of the last reset (R176). -/
structure TimeUnit where
  clock : Option Clock
  second : Nat
  schedule : List DaySpan
  active : PolicyName
  cause : ResetCause
  deriving DecidableEq, Repr

/-- The Retained Memory's state (R175): the marker, and whether the retained-memory supply is present. -/
structure RetainedUnit where
  marker : Bool
  supply : Bool
  deriving DecidableEq, Repr

/-- Main power and resets (R175, R176): main power absent; a reset just made, no other event taken since; running. -/
inductive Phase where
  | off | justReset | running
  deriving DecidableEq, Repr

/-- The model's own (log entry 4): work of the time base's events that its owner has not taken yet. `minute`: the second
count came round and the minute event it issued has not been taken. `timerSteps`: tenants whose timer's step at the last
minute event underflows. `jobExpiry`: the JT's expiry sweep. `escalations`: callouts whose deadline has passed. -/
structure Owed where
  minute : Bool
  timerSteps : List Nat
  jobExpiry : Bool
  escalations : List Nat
  deriving DecidableEq, Repr

/-! ### The Master Port Controller and what it sends -/

/-- R163: a port's state. -/
inductive PortState where
  | down | detached | attached
  deriving DecidableEq, Repr

/-- R163: one port record. -/
structure Port where
  state : PortState
  queue : List QueuedRequest
  flags : NoticeSet
  mask : NoticeSet
  deriving DecidableEq, Repr

/-- The five port records. -/
structure Ports where
  t0 : Port
  t1 : Port
  t2 : Port
  t3 : Port
  f : Port
  deriving DecidableEq, Repr

/-- R170: what READ_PORTS gives for one port. -/
structure PortView where
  state : PortState
  queued : Nat
  flags : NoticeSet
  mask : NoticeSet
  deriving DecidableEq, Repr

/-- R17: what READ_TENANT gives. -/
structure TenantView where
  window : Option Window
  share : Nat
  entries : Nat
  groups : GroupSet
  ceiling : PerClass (Option Nat)
  used : PerClass Nat
  reserved : PerClass Nat
  active : PolicyName
  period : Nat
  deriving DecidableEq, Repr

/-- R34: what READ_PERIOD gives. -/
structure PeriodView where
  timer : PeriodTimer
  counting : Bool
  minutesToRollover : Nat
  period : Nat
  deriving DecidableEq, Repr

/-- R57: one job of LIST_FINISHED. -/
structure FinishedView where
  job : Handle
  owner : Nat
  label : Nat
  reason : Option EndReason
  finished : Option Time
  deriving DecidableEq, Repr

/-- R60: one job of LIST_ACTIVE. -/
structure ActiveView where
  job : Handle
  label : Nat
  printer : Nat
  grant : Option Nat
  pages : PerClass Nat
  deriving DecidableEq, Repr

/-- R59: what READ_JOB gives, every field of the entry except the tenant. -/
structure JobView where
  state : JobState
  generation : Nat
  owner : Nat
  label : Nat
  pages : PerClass Nat
  kClass : Nat
  colourClass : Option Nat
  groups : GroupSet
  submitted : Time
  expiry : Time
  printer : Option Nat
  grant : Option Nat
  reservation : Option (PerClass Nat)
  needs : Option (PerLane Nat)
  done : PerClass Nat
  doneAtRelease : PerClass Nat
  interrupts : Nat
  endReason : Option EndReason
  finished : Option Time
  deriving DecidableEq, Repr

/-- R105: one job of a printer's queue as READ_PRINTER shows it. -/
structure QueueView where
  grant : Option Nat
  tenant : Nat
  state : JobState
  pages : PerClass Nat
  deriving DecidableEq, Repr

/-- R105: what READ_PRINTER gives: the record less the lane types, its queue as views, and the fault history. -/
structure PrinterView where
  enrolled : Bool
  floor : Nat
  group : Nat
  colour : Bool
  silenceLimit : Nat
  stallLimit : Nat
  admin : AdminState
  presence : Presence
  capabilities : Option Capabilities
  conditions : Table (Option Onset)
  supplyOut : LaneSet
  queue : List QueueView
  silence : Option Nat
  stall : Option Nat
  meter : Option Nat
  surplus : Int
  walkup : Nat
  stalled : Option StalledGrant
  protocolError : Option ProtocolError
  history : KindSet
  deriving DecidableEq, Repr

/-- R121: what READ_LANES gives for one lane. -/
structure LaneView where
  lane : Lane
  record : LaneRecord
  effective : Nat
  percent : Nat
  capacity : Nat
  deriving DecidableEq, Repr

/-- R138: what READ_TYPE gives. -/
structure TypeView where
  record : CartridgeType
  position : Int
  deferralPlace : Option Nat
  lanes : Nat
  lanesAllocated : Nat
  deriving DecidableEq, Repr

/-- R161: an entry of READ_LINK's stray list. -/
structure StrayView where
  address : Nat
  kind : ReportKind
  time : Option Time
  deriving DecidableEq, Repr

/-- The result fields of an ACCEPTED answer, as the request's rule names them; `none` where it names none (log entry 26). -/
inductive Result where
  | none
  | attached (family revision : Nat) (port : PortName)
  | notices (mask flags : NoticeSet)
  | flags (flags : NoticeSet)
  | ports (views : List PortView)
  | index (index : Nat)
  | limits (allowance overdraft carryCap : PerClass Nat)
  | balance (balance : Int)
  | account (record : Account)
  | closing (used : PerClass (Option Nat)) (balance : PerClass (Option Int)) (period : Option Nat)
  | tenant (view : TenantView)
  | timer (timer : PeriodTimer)
  | period (number : Nat)
  | periodView (view : PeriodView)
  | policy (policy : Policy)
  | policies (day afterHours : Policy) (active : PolicyName)
  | submitted (job : Handle) (groups : GroupSet) (submitted expiry : Time)
  | jobState (state : JobState)
  | finished (count : Nat) (jobs : List FinishedView)
  | collected (reason : Option EndReason) (done : PerClass Nat)
  | job (view : JobView)
  | active (jobs : List ActiveView)
  | panelTimeout (minutes : Nat)
  | enrolled (record : Printer)
  | admin (state : AdminState)
  | flushed (jobs : Nat)
  | printerTimers (silence stall : Nat)
  | walkup (margin coverage : Nat)
  | printer (view : PrinterView)
  | weights (k colour : List Nat) (tolerance rebase : Nat)
  | lanes (views : List LaneView)
  | uncounted (count : Nat) (lanes : List LaneName)
  | type (record : CartridgeType)
  | stock (onHand allocated onOrder waiting : Nat) (position : Int)
  | received (onHand allocated onOrder : Nat) (raised : Option Nat)
  | lane (record : Option LaneRecord)
  | order (order : Order)
  | typeView (view : TypeView)
  | orders (count : Nat) (orders : List Order) (deferred : Nat)
  | settings (graceTimes : List Nat) (escalation : Nat)
  | callout (callout : Callout)
  | history (kinds : KindSet)
  | callouts (count : Nat) (callouts : List Callout) (deferred : Nat) (deferrals : List Deferral) (graceTimes : List Nat)
    (escalation : Nat)
  | link (count : Nat) (strays : List StrayView) (queues : List (Nat × Nat))
  | straysLeft (count : Nat)
  | clock (clock : Option Clock) (active : PolicyName)
  | schedule (schedule : List DaySpan) (active : PolicyName)
  | clockView (clock : Option Clock) (second : Nat) (active : PolicyName) (schedule : List DaySpan) (cause : ResetCause)
  deriving DecidableEq, Repr

/-- Section 12.4: an answer is ACCEPTED with result fields or REFUSED with a code. -/
inductive Answer where
  | accepted (result : Result)
  | refused (code : RefusalCode)
  deriving DecidableEq, Repr

/-- A frame the part sends on a master port (section 12.1): an answer, with the tag and kind code of its request, or a
NOTICE naming kinds. -/
inductive PortFrame where
  | answer (tag kind : Nat) (answer : Answer)
  | notice (kinds : NoticeSet)
  deriving DecidableEq, Repr

/-! ### The whole state -/

/-- The state of the FC-64. `out` and `owed` are the model's own (log entries 6 and 4); `pending` is the queue of commands
waiting to be taken, first in first out (log entry 1). -/
structure State where
  ports : Ports
  au : AccountUnit
  jt : JobUnit
  ru : ReleaseUnit
  ft : FleetUnit
  se : SupplyUnit
  su : StockUnit
  cu : CalloutUnit
  flc : LinkUnit
  tb : TimeUnit
  rm : RetainedUnit
  phase : Phase
  owed : Owed
  out : List (PortName × PortFrame)
  pending : List Instr
  deriving DecidableEq, Repr

/-- The machine never stops with a fault: a request that cannot be met is REFUSED by its code, a frame that cannot be read
is dropped, a report that cannot be placed is a protocol error, all in a next state. No constructor, so no command raises
one (log entry 30). -/
inductive Fault where
  deriving DecidableEq, Repr

/-- Why a command has no meaning. -/
inductive Refusal where
  /-- Raised by exec's own arm for a command that has no meaning yet; no arm raises it now. Safe. -/
  | notModelled (mnemonic : String)
  deriving DecidableEq, Repr

/-- The notice kinds a port holds, as a set: the five tenant kinds on T0..T3, the five facility kinds on F (R163, 12.2). -/
def portKinds : PortName → NoticeSet
  | .f => 0x03E0#16
  | _ => 0x001F#16

/-- R163: a port record after a reset, with its link up or down. -/
def Port.reset (p : PortName) (linkUp : Bool) : Port where
  state := if linkUp then .detached else .down
  queue := []
  flags := 0
  mask := portKinds p

/-- R163, log entry 11: the ports after a power-on with every link down. -/
def Ports.linksDown : Ports where
  t0 := .reset .t0 false
  t1 := .reset .t1 false
  t2 := .reset .t2 false
  t3 := .reset .t3 false
  f := .reset .f false

/-- Cold-reset state of the Account Unit: every record FREE, four cold tenants. -/
def AccountUnit.cold : AccountUnit := ⟨[], []⟩
/-- R41: the Job Table after any reset. -/
def JobUnit.cold : JobUnit := ⟨[], []⟩
/-- R61: the Release Unit after any reset. -/
def ReleaseUnit.cold : ReleaseUnit := ⟨[], 2, 1⟩
/-- R83: the Fleet Table after a cold reset. -/
def FleetUnit.cold : FleetUnit := ⟨[], 10, 2⟩
/-- R107, R108: the Supply Estimator after a cold reset. -/
def SupplyUnit.cold : SupplyUnit := ⟨[], Config.kWeights, Config.colourWeights, 4, 15⟩
/-- R123: the Stock Unit after a cold reset. -/
def StockUnit.cold : StockUnit := ⟨[], [], [], 1⟩
/-- R139, R141, R142, R148, R152: the Callout Unit after a cold reset. -/
def CalloutUnit.cold : CalloutUnit := ⟨[], 1, [], [], [], Config.graceTimes, 30⟩
/-- R155: the Floor Link Controller after any reset. -/
def LinkUnit.cold : LinkUnit := ⟨[], []⟩
/-- R174: the schedule after a cold reset. -/
def coldSchedule : List DaySpan :=
  [⟨480, 1080⟩, ⟨480, 1080⟩, ⟨480, 1080⟩, ⟨480, 1080⟩, ⟨480, 1080⟩, ⟨0, 0⟩, ⟨0, 0⟩]
/-- R171, R174, R176: the Time Base after a cold reset of a given cause. -/
def TimeUnit.cold (cause : ResetCause) : TimeUnit := ⟨none, 0, coldSchedule, .afterHours, cause⟩
/-- No work owed. -/
def Owed.nothing : Owed := ⟨false, [], false, []⟩

/-- The machine right after a cold reset at power-on (R176): every retained field at its default, every volatile field at
its reset value, the marker set. The port links are down (log entry 11). -/
def State.reset : State where
  ports := Ports.linksDown
  au := AccountUnit.cold
  jt := JobUnit.cold
  ru := ReleaseUnit.cold
  ft := FleetUnit.cold
  se := SupplyUnit.cold
  su := StockUnit.cold
  cu := CalloutUnit.cold
  flc := LinkUnit.cold
  tb := TimeUnit.cold .coldPower
  rm := ⟨true, true⟩
  phase := .running
  owed := Owed.nothing
  out := []
  pending := []

end Sys2Proof.Machine
end

