-- ==== Sys2Proof/Machine/Ops.lean ====
section
/-! DEFINITION. The named operations over the tables and the state: reading and replacing one record, the time now, times
reckoned in minutes, sets, numbers that wrap, and the frames the part sends. -/

namespace Sys2Proof.Machine

/-! ### Tables -/

/-- The record at a number: the listed one, or what the table's unlisted records read as. -/
def Table.get {α : Type} (d : α) : Table α → Nat → α
  | [], _ => d
  | (k', v) :: t, k => if k = k' then v else Table.get d t k

/-- A record put at its number, numbers rising. -/
def Table.insert {α : Type} : Table α → Nat → α → Table α
  | [], k, v => [(k, v)]
  | (k', v') :: t, k, v =>
    if k < k' then (k, v) :: (k', v') :: t
    else if k = k' then (k, v) :: t
    else (k', v') :: Table.insert t k v

/-- The record at a number replaced; a record equal to the unlisted one is not listed. -/
def Table.set {α : Type} [DecidableEq α] (d : α) (t : Table α) (k : Nat) (v : α) : Table α :=
  if v = d then t.filter (fun e => e.1 ≠ k) else Table.insert t k v

/-- A change of every record, one that leaves the unlisted record as it is. -/
def Table.mapAll {α : Type} [DecidableEq α] (d : α) (f : Nat → α → α) (t : Table α) : Table α :=
  (t.map (fun e => (e.1, f e.1 e.2))).filter (fun e => e.2 ≠ d)

/-- The numbers listed, rising. -/
def Table.numbers {α : Type} (t : Table α) : List Nat := t.map Prod.fst

/-- The canonical form: numbers rise strictly, and no listed record equals the unlisted one. -/
def Table.wf {α : Type} [DecidableEq α] (d : α) : Table α → Bool
  | [] => true
  | [(_, v)] => v ≠ d
  | (k, v) :: (k', v') :: t => k < k' && v ≠ d && Table.wf d ((k', v') :: t)

/-! ### Ports -/

/-- One port's record. -/
def Ports.get (ps : Ports) : PortName → Port
  | .t0 => ps.t0 | .t1 => ps.t1 | .t2 => ps.t2 | .t3 => ps.t3 | .f => ps.f

/-- One port's record replaced. -/
def Ports.set (ps : Ports) (p : PortName) (r : Port) : Ports :=
  match p with
  | .t0 => { ps with t0 := r }
  | .t1 => { ps with t1 := r }
  | .t2 => { ps with t2 := r }
  | .t3 => { ps with t3 := r }
  | .f => { ps with f := r }

namespace State

/-- A port's record (R163). -/
def port (s : State) (p : PortName) : Port := s.ports.get p
/-- A port's record replaced. -/
def setPort (s : State) (p : PortName) (r : Port) : State := { s with ports := s.ports.set p r }
/-- Whether a port is ATTACHED. -/
def attached (s : State) (p : PortName) : Bool := (s.port p).state == .attached

/-- An account record (R1). -/
def account (s : State) (i : Nat) : Account := Table.get Account.free s.au.accounts i
/-- An account record replaced. -/
def setAccount (s : State) (i : Nat) (a : Account) : State :=
  { s with au := { s.au with accounts := Table.set Account.free s.au.accounts i a } }

/-- A tenant record (R13). -/
def tenant (s : State) (n : Nat) : Tenant := Table.get Tenant.cold s.au.tenants n
/-- A tenant record replaced. -/
def setTenant (s : State) (n : Nat) (t : Tenant) : State :=
  { s with au := { s.au with tenants := Table.set Tenant.cold s.au.tenants n t } }

/-- A job entry (R40). -/
def job (s : State) (i : Nat) : Job := Table.get (Job.freeAt 0) s.jt.jobs i
/-- A job entry replaced. -/
def setJob (s : State) (i : Nat) (j : Job) : State :=
  { s with jt := { s.jt with jobs := Table.set (Job.freeAt 0) s.jt.jobs i j } }

/-- A tenant's finished list (R56). -/
def finishedList (s : State) (n : Nat) : List Handle := Table.get [] s.jt.finished n
/-- A tenant's finished list replaced. -/
def setFinishedList (s : State) (n : Nat) (l : List Handle) : State :=
  { s with jt := { s.jt with finished := Table.set [] s.jt.finished n l } }

/-- The session open at a printer, if there is one (R61). -/
def session (s : State) (n : Nat) : Option Session := Table.get none s.ru.sessions n
/-- The session at a printer replaced. -/
def setSession (s : State) (n : Nat) (x : Option Session) : State :=
  { s with ru := { s.ru with sessions := Table.set none s.ru.sessions n x } }

/-- A printer record (R82). -/
def printer (s : State) (n : Nat) : Printer := Table.get Printer.cold s.ft.printers n
/-- A printer record replaced. -/
def setPrinter (s : State) (n : Nat) (p : Printer) : State :=
  { s with ft := { s.ft with printers := Table.set Printer.cold s.ft.printers n p } }

/-- A lane record, if the lane exists (R106). -/
def lane (s : State) (n : Nat) (l : Lane) : Option LaneRecord := Table.get none s.se.lanes (4 * n + l.code)
/-- A lane record made, replaced or removed. -/
def setLane (s : State) (n : Nat) (l : Lane) (r : Option LaneRecord) : State :=
  { s with se := { s.se with lanes := Table.set none s.se.lanes (4 * n + l.code) r } }

/-- A cartridge type record (R123). -/
def ctype (s : State) (t : Nat) : CartridgeType := Table.get CartridgeType.cold s.su.types t
/-- A cartridge type record replaced. -/
def setType (s : State) (t : Nat) (r : CartridgeType) : State :=
  { s with su := { s.su with types := Table.set CartridgeType.cold s.su.types t r } }

/-- The grace record of a condition kind at a printer (R142). -/
def grace (s : State) (n : Nat) (k : ConditionKind) : Grace := Table.get .idle s.cu.grace (8 * n + k.code)
/-- A grace record replaced. -/
def setGrace (s : State) (n : Nat) (k : ConditionKind) (g : Grace) : State :=
  { s with cu := { s.cu with grace := Table.set .idle s.cu.grace (8 * n + k.code) g } }

/-- A printer's fault history (R152). -/
def history (s : State) (n : Nat) : KindSet := Table.get 0 s.cu.history n
/-- A printer's fault history replaced. -/
def setHistory (s : State) (n : Nat) (k : KindSet) : State :=
  { s with cu := { s.cu with history := Table.set 0 s.cu.history n k } }
/-- The callout queue replaced. -/
def setCallouts (s : State) (l : List Callout) : State := { s with cu := { s.cu with callouts := l } }
/-- The callout deferral list replaced. -/
def setDeferrals (s : State) (l : List Deferral) : State := { s with cu := { s.cu with deferrals := l } }

/-- The order queue replaced. -/
def setOrders (s : State) (l : List Order) : State := { s with su := { s.su with orders := l } }
/-- The order deferral list replaced. -/
def setDeferredTypes (s : State) (l : List Nat) : State := { s with su := { s.su with deferred := l } }

/-- An address's command queue (R155). -/
def commands (s : State) (a : Nat) : List Command := Table.get [] s.flc.queues a
/-- An address's command queue replaced. -/
def setCommands (s : State) (a : Nat) (q : List Command) : State :=
  { s with flc := { s.flc with queues := Table.set [] s.flc.queues a q } }

/-- An address's entry in the stray set (R155). -/
def stray (s : State) (a : Nat) : Option Stray := Table.get none s.flc.strays a
/-- An address's entry in the stray set replaced. -/
def setStray (s : State) (a : Nat) (x : Option Stray) : State :=
  { s with flc := { s.flc with strays := Table.set none s.flc.strays a x } }

/-- A frame sent on a port, after those already sent in this event. -/
def send (s : State) (p : PortName) (f : PortFrame) : State := { s with out := s.out ++ [(p, f)] }

/-- The start of an event: nothing sent yet, and any reset is over (R176; log entries 6 and 9). -/
def begin (s : State) : State := { s with out := [], phase := .running }

/-- "Now": the wall clock when the event is taken, absent while it is NOT_SET (00_scope, Time). -/
def now (s : State) : Option Time := s.tb.clock.map (fun c => ⟨c.day, c.minute⟩)

end State

/-! ### Times, numbers and sets -/

/-- Minutes from day 0 minute 0. -/
def timeMinutes (t : Time) : Nat := t.day * Config.dayMinutes + t.minute

/-- The last minute a time can hold: day 65535 minute 1439 (R48, R149). -/
def lastMinute : Nat := Config.wordMax * Config.dayMinutes + 1439

/-- R48, R149: the time a number of minutes after another, stored as day 65535 minute 1439 where it would pass it. -/
def timePlus (t : Time) (n : Nat) : Time :=
  let m := min (timeMinutes t + n) lastMinute
  ⟨m / Config.dayMinutes, m % Config.dayMinutes⟩

/-- Whether a time is at or before another. -/
def timeAtOrBefore (a b : Time) : Bool := timeMinutes a ≤ timeMinutes b

/-- The number after one in 1..65535, wrapping to 1 (00_scope, Numbered records). -/
def nextNumber (n : Nat) : Nat := if n ≥ Config.wordMax then 1 else n + 1

/-- R132, R139: from a counter's value on, the first number that is not in use, looking at most `fuel` numbers on. -/
def freeNumber (used : List Nat) : Nat → Nat → Nat
  | 0, n => n
  | fuel + 1, n => if n ∈ used then freeNumber used fuel (nextNumber n) else n

/-- A figure kept between two ends (00_scope, Numbers: saturates). -/
def clamp (lo hi x : Int) : Int := max lo (min hi x)

/-- A quotient rounded up. -/
def ceilDiv (a b : Nat) : Nat := (a + (b - 1)) / b

/-- Whether a set of kinds holds a kind. -/
def hasNotice (s : NoticeSet) (k : NoticeKind) : Bool := s.getLsbD k.code

/-- Whether a fault history holds a condition kind. -/
def hasKind (s : KindSet) (k : ConditionKind) : Bool := s.getLsbD k.code

/-- Whether a lane set holds a lane. -/
def hasLane (s : LaneSet) (l : Lane) : Bool := s.getLsbD l.code

/-- A lane set with one lane in or out. -/
def withLane (s : LaneSet) (l : Lane) (on : Bool) : LaneSet :=
  let bit : LaneSet := 1#4 <<< l.code
  if on then s ||| bit else s &&& ~~~bit

/-! ### Records read as the rules speak of them -/

/-- The state of the job's life in which it holds a reservation and lane needs (R43). -/
def JobState.released : JobState → Bool
  | .queued | .active | .cancelling => true
  | _ => false

/-- The four live states (section 3.2). -/
def JobState.live : JobState → Bool
  | .held | .queued | .active | .cancelling => true
  | _ => false

/-- The four final states (section 3.2). -/
def JobState.final : JobState → Bool
  | .done | .cancelled | .expired | .failed => true
  | _ => false

/-- A head that prints: ACTIVE or CANCELLING. -/
def JobState.printing : JobState → Bool
  | .active | .cancelling => true
  | _ => false

/-- R40: the pages printed under the present release, done less done at release. -/
def Job.printed (j : Job) : PerClass Nat := PerClass.zip (fun d r => d - r) j.done j.doneAtRelease

/-- Whether a printer's condition set holds a kind (R93). -/
def Printer.holds (p : Printer) (k : ConditionKind) : Bool := (Table.get none p.conditions k.code).isSome

/-- Whether a printer holds a blocking kind other than by class (R74, R95). -/
def Printer.blocked (p : Printer) : Bool :=
  ConditionKind.graced.any (fun k => k.blocks && p.holds k)

/-- R74, R95: SUPPLY_OUT blocks a job: K in its list, or C, M or Y when the job's COLOUR pages are above 0. -/
def Printer.supplyBlocks (p : Printer) (pages : PerClass Nat) : Bool :=
  p.holds .supplyOut &&
    (hasLane p.supplyOut .k ||
      (pages.colour > 0 && (hasLane p.supplyOut .c || hasLane p.supplyOut .m || hasLane p.supplyOut .y)))

/-- The account lies in the window (R3). -/
def windowHolds (w : Window) (i : Nat) : Bool := w.base ≤ i && i ≤ w.limit

/-- Whether a tenant's window holds an account index. -/
def Tenant.owns (t : Tenant) (i : Nat) : Bool := t.window.any (fun w => windowHolds w i)

/-- R3: the tenant in whose window an account lies. -/
def owningTenant (s : State) (i : Nat) : Option Nat :=
  (List.range Config.tenants).find? (fun n => (s.tenant n).owns i)

/-- R37: the active policy of a tenant. -/
def activePolicy (s : State) (n : Nat) : Policy :=
  match s.tb.active with
  | .day => (s.tenant n).day
  | .afterHours => (s.tenant n).afterHours

/-- The lanes of a printer that have a record, K first (R106). -/
def lanesOf (s : State) (n : Nat) : List Lane := Lane.all.filter (fun l => (s.lane n l).isSome)

/-- The head of a printer's dispatch queue, if it is printing (ACTIVE or CANCELLING). -/
def printingHead (s : State) (n : Nat) : Option Handle :=
  match (s.printer n).queue with
  | [] => none
  | h :: _ => if (s.job h.index).state.printing then some h else none

end Sys2Proof.Machine
end

