-- ==== Sys2Proof/Machine/Flags.lean ====
section
/-! DEFINITION. The notice flags of the ports (section 10.4, R168). -/

namespace Sys2Proof.Machine

/-- R168: an owner raises a notice kind on a port. The flag is set whatever the port's state; a NOTICE naming the kind is
sent when the flag was clear, the kind is enabled and the port is ATTACHED. -/
def raise (p : PortName) (k : NoticeKind) (s : State) : State :=
  let r := s.port p
  if hasNotice r.flags k then s
  else
    let s := s.setPort p { r with flags := r.flags ||| k.only }
    if hasNotice r.mask k && r.state == .attached then s.send p (.notice k.only) else s

/-- A tenant notice, raised on the tenant's port. -/
def raiseTenant (n : Nat) (k : NoticeKind) (s : State) : State := raise (PortName.ofTenant n) k s

/-- A NOTICE naming a set of kinds, sent if the set is not empty (R164, R169). -/
def sendNotice (p : PortName) (kinds : NoticeSet) (s : State) : State :=
  if kinds = 0 then s else s.send p (.notice kinds)

end Sys2Proof.Machine
end

