-- ==== Sys2Proof/Machine/Operands.lean ====
section
/-! DEFINITION. What requests are checked for: ranges of operands, whose account, which job, which ports, which form
(R4, R42, R167, R179), and the way a request is taken from its port's queue and answered (R166, R167). -/

namespace Sys2Proof.Machine

/-- A numeric operand lies in a range. -/
def inRange (lo hi n : Nat) : Bool := lo ≤ n && n ≤ hi

/-- An optional operand that is present lies in a range (R4, step 1). -/
def optInRange (lo hi : Nat) (n : Option Nat) : Bool := n.all (inRange lo hi)

/-- A refused request changes no state (R4, R167). -/
def refuse (c : RefusalCode) (s : State) : State × Answer := (s, .refused c)

/-- An accepted request: the state it leaves and the result fields of its answer. -/
def accept (r : Result) (s : State) : State × Answer := (s, .accepted r)

/-- R42: the entry a handle names for a tenant; none when the entry is FREE, of another generation, or another tenant's. -/
def resolve (s : State) (n : Nat) (h : Handle) : Option Job :=
  let j := s.job h.index
  if h.index < Config.jobs ∧ j.state ≠ .free ∧ j.generation = h.generation ∧ j.tenant = n then some j else none

/-- R4, steps 1 and 2: the index and the fields in range, then the index in the window of a tenant port's tenant. -/
def accountReach (p : PortName) (index : Nat) (fieldsOk : Bool) (s : State) : Option RefusalCode :=
  if ¬(index < Config.accounts ∧ fieldsOk) then some .outOfRange
  else
    match p.tenant with
    | some n => if (s.tenant n).owns index then none else some .outOfWindow
    | none => none

/-- R4, step 3: the state a request other than a read or OPEN_ACCOUNT needs. -/
def accountStands (a : Account) (suits : AccountState → Bool) : Option RefusalCode :=
  if a.state = .free then some .noSuchAccount
  else if suits a.state then none else some .badState

/-- R4: a request on a non-FREE account, its steps 1 to 3 in order, and then what it does with the record. -/
def onAccount (p : PortName) (index : Nat) (fieldsOk : Bool) (suits : AccountState → Bool)
    (act : Account → State × Answer) (s : State) : State × Answer :=
  match accountReach p index fieldsOk s with
  | some c => refuse c s
  | none =>
    match accountStands (s.account index) suits with
    | some c => refuse c s
    | none => act (s.account index)

/-- The checks of a request on an enrolled printer: the fields in range, then the printer enrolled (section 5.2; log entry 12). -/
def onPrinter (n : Nat) (fieldsOk : Bool) (act : Printer → State × Answer) (s : State) : State × Answer :=
  if ¬(n < Config.printers ∧ fieldsOk) then refuse .outOfRange s
  else if ¬(s.printer n).enrolled then refuse .noSuchPrinter s
  else act (s.printer n)

/-- The checks of a request on a lane of an enrolled printer (R120, R121, R137). -/
def onLane (n : Nat) (l : Lane) (fieldsOk : Bool) (act : LaneRecord → State × Answer) (s : State) : State × Answer :=
  onPrinter n fieldsOk (fun _ =>
    match s.lane n l with
    | none => refuse .noSuchPrinter s
    | some r => act r) s

/-- The tenant a read request reads: the sender's own on a tenant port, the one it carries on F (R17, R34, R39). -/
def onTenant (p : PortName) (n : Nat) (act : Nat → State × Answer) (s : State) : State × Answer :=
  match p.tenant with
  | some own => act own
  | none => if n < Config.tenants then act n else refuse .outOfRange s

/-- A request that tenant ports alone send, acting for the port's tenant (R167). -/
def asTenant (p : PortName) (act : Nat → State × Answer) (s : State) : State × Answer :=
  match p.tenant with
  | some n => act n
  | none => refuse .wrongPort s

/-- A job request on a handle (R42): NO_SUCH_JOB unless it names an entry of the sender. -/
def onJob (p : PortName) (h : Handle) (act : Job → State × Answer) (s : State) : State × Answer :=
  asTenant p (fun n =>
    match resolve s n h with
    | none => refuse .noSuchJob s
    | some j => act j) s

/-- The kind code of a request (section 12.3). -/
def kindCode : Request → Nat
  | .attach => 1 | .detach => 2 | .setNoticeMask _ => 3 | .ackNotice _ => 4 | .readNotices => 5 | .readPorts => 6
  | .openAccount .. => 16 | .setAccount .. => 17 | .setBadge .. => 18 | .clearBadge _ => 19 | .suspendAccount _ => 20
  | .resumeAccount _ => 21 | .closeAccount _ => 22 | .adjustBalance .. => 23 | .readAccount _ => 24 | .readClosing _ => 25
  | .readTenant _ => 26 | .assignTenant .. => 27 | .setCeiling .. => 28
  | .closePeriod => 32 | .setPolicy .. => 33 | .readPeriod _ => 34 | .readPolicy _ => 35 | .setPeriodTimer .. => 36
  | .startTimer _ => 37 | .stopTimer _ => 38
  | .submit _ => 48 | .cancel _ => 49 | .listFinished => 50 | .collect _ => 51 | .readJob _ => 52 | .listActive => 53
  | .setPanelTimeout _ => 56
  | .enrol .. => 64 | .unenroll _ => 65 | .setAdmin .. => 66 | .flushPrinter _ => 67 | .setPrinterTimers .. => 68
  | .setWalkup .. => 69 | .clearCondition .. => 70 | .readPrinter _ => 71
  | .setWeights .. => 80 | .setEstimator .. => 81 | .readWeights => 82 | .readLanes _ => 83 | .setFactor .. => 84
  | .listUncounted => 85 | .ackUncounted .. => 86
  | .setType .. => 96 | .adjustStock .. => 97 | .setLaneType .. => 98 | .ackOrder _ => 99 | .receiveOrder .. => 100
  | .cancelOrder _ => 101 | .readType _ => 102 | .listOrders => 103
  | .setGrace .. => 112 | .setEscalation _ => 113 | .ackCallout _ => 114 | .clearHistory .. => 115 | .listCallouts => 116
  | .readLink => 120 | .clearStray _ => 121
  | .setClock .. => 128 | .setSchedule _ => 129 | .clearAll => 130 | .readClock => 131
  | .unknown kind => kind

/-- Section 12.3: the request codes. -/
def isRequestCode (k : Nat) : Bool :=
  inRange 1 6 k || inRange 16 28 k || inRange 32 38 k || inRange 48 53 k || k == 56 || inRange 64 71 k ||
  inRange 80 86 k || inRange 96 103 k || inRange 112 116 k || inRange 120 121 k || inRange 128 131 k

/-- Section 10.5: the kinds of port on which a request is allowed. -/
inductive PortRule where
  | any | tenantOnly | facilityOnly
  deriving DecidableEq, Repr

/-- The request catalogue (section 10.5). -/
def portRule : Request → PortRule
  | .attach | .detach | .setNoticeMask _ | .ackNotice _ | .readNotices => .any
  | .readPorts => .facilityOnly
  | .openAccount .. | .setAccount .. | .setBadge .. | .clearBadge _ | .suspendAccount _ | .resumeAccount _
  | .closeAccount _ | .adjustBalance .. => .tenantOnly
  | .readAccount _ | .readClosing _ | .readTenant _ => .any
  | .assignTenant .. | .setCeiling .. => .facilityOnly
  | .closePeriod | .setPolicy .. => .tenantOnly
  | .readPeriod _ | .readPolicy _ => .any
  | .setPeriodTimer .. | .startTimer _ | .stopTimer _ => .facilityOnly
  | .submit _ | .cancel _ | .listFinished | .collect _ | .readJob _ | .listActive => .tenantOnly
  | .setPanelTimeout _ => .facilityOnly
  | .enrol .. | .unenroll _ | .setAdmin .. | .flushPrinter _ | .setPrinterTimers .. | .setWalkup ..
  | .clearCondition .. | .readPrinter _ => .facilityOnly
  | .setWeights .. | .setEstimator .. | .readWeights | .readLanes _ | .setFactor .. | .listUncounted
  | .ackUncounted .. => .facilityOnly
  | .setType .. | .adjustStock .. | .setLaneType .. | .ackOrder _ | .receiveOrder .. | .cancelOrder _ | .readType _
  | .listOrders => .facilityOnly
  | .setGrace .. | .setEscalation _ | .ackCallout _ | .clearHistory .. | .listCallouts => .facilityOnly
  | .readLink | .clearStray _ => .facilityOnly
  | .setClock .. | .setSchedule _ | .clearAll => .facilityOnly
  | .readClock => .any
  | .unknown _ => .any

/-- R167, step 3: whether a request is allowed on a port. -/
def allowedOn (p : PortName) (r : Request) : Bool :=
  match portRule r with
  | .any => true
  | .tenantOnly => p.isTenant
  | .facilityOnly => !p.isTenant

/-- R179: the count fields a request's rule bounds, and a kind code that is a request code. -/
def formOk : Request → Bool
  | .setSchedule entries => inRange 1 7 entries.length
  | .setWeights k colour => k.all (fun w => w.length == 8) && colour.all (fun w => w.length == 8)
  | .unknown _ => false
  | _ => true

/-- R179: whether a request's bytes hold anything its form could fail on: a length section 12.4 lays out, an enumerated field,
a yes/no field, a count. Numbers, sets, handles and a body without fields fail nothing. -/
def formTested : Request → Bool
  | .adjustBalance .. | .setCeiling .. | .setPolicy .. | .setPeriodTimer .. | .submit _ | .enrol .. | .setAdmin ..
  | .clearCondition .. | .setFactor .. | .ackUncounted .. | .setLaneType .. | .setGrace .. | .setSchedule _
  | .unknown _ => true
  | _ => false

/-- R179: a request is well formed: its bytes pass the tests made of them, and its counts and kind code are in bounds. -/
def inForm (wellFormed : Bool) (r : Request) : Bool := (wellFormed || !formTested r) && formOk r

/-- R167: the MPC's checks of the head request, in order; none when it goes to its owner. -/
def mpcCheck (p : PortName) (wellFormed : Bool) (r : Request) (s : State) : Option RefusalCode :=
  if ¬inForm wellFormed r then some .malformed
  else if ¬(s.attached p) ∧ r ≠ .attach then some .notAttached
  else if ¬allowedOn p r then some .wrongPort
  else none

/-- R167: the head request meets the MPC's checks and then its owner. -/
def serve (h : Head) (r : Request) (owner : State → State × Answer) (s : State) : State × Answer :=
  match mpcCheck h.port h.wellFormed r s with
  | some c => refuse c s
  | none => owner s

/-- R166: the answer leaves before the NOTICEs of its event, and the request leaves the queue as its answer is issued. -/
def issueAnswer (h : Head) (r : Request) (a : Answer) (s : State) : State :=
  let p := s.port h.port
  let s := s.setPort h.port { p with queue := p.queue.drop 1 }
  { s with out := (h.port, .answer h.tag (kindCode r) a) :: s.out }

/-- What the input queue holds for a request command. -/
def queuedAs (h : Head) (r : Request) : QueuedRequest := ⟨h.tag, h.wellFormed, r⟩

/-- A request is taken at its port (R166, R167). It is taken when it stands at the head of the port's input queue; where
the queue is empty the command stands for its frame's arrival and its being taken in one. While another request stands at
the head, or the port is DOWN, or main power is off, it is not taken and nothing changes (log entries 2 and 3). -/
def takeRequest (h : Head) (r : Request) (owner : State → State × Answer) (s : State) : State :=
  if s.phase = .off then { s with out := [] }
  else
    let s := s.begin
    let p := s.port h.port
    if p.state = .down then s
    else
      match p.queue with
      | [] =>
        let x := serve h r owner (s.setPort h.port { p with queue := [queuedAs h r] })
        issueAnswer h r x.2 x.1
      | q :: _ =>
        if q = queuedAs h r then
          let x := serve h r owner s
          issueAnswer h r x.2 x.1
        else s

end Sys2Proof.Machine
end

