-- ==== Sys2Proof/WellFormed.lean ====
section
/-! DEFINITION. Well-formed commands: those an event on a link, a pin or the time base can be. Every operand fits the field
that carries it (spec/12_message_layouts.md); where chapter 12 does not lay a body out, a number fits four bytes, the widest
field it has. A value that fits its field and is out of the range of its rule is well formed (R179): its owner refuses it. -/

namespace Sys2Proof

/-- A number fits one byte. -/
def fits1 (n : Nat) : Bool := n < 256
/-- A number fits two bytes. -/
def fits2 (n : Nat) : Bool := n < 65536
/-- A number fits four bytes. -/
def fits4 (n : Nat) : Bool := n < 4294967296
/-- A signed number fits four bytes, two's complement (section 12.2); a request has no absent value, so every one is a number
(R179 leaves its range to the owner). -/
def fitsSigned (n : Int) : Bool := decide (-2147483648 ≤ n) && decide (n ≤ 2147483647)

namespace Request

/-- The operands of the account and tenant requests fit. -/
def accountFits : Request → Bool
  | .openAccount i b l =>
    fits4 i && b.all fits4 && l.all (fun x => fits4 x.allowance && fits4 x.overdraft && fits4 x.carryCap)
  | .setAccount i c => fits4 i && c.all (fun x => x.allowance.all fits4 && x.overdraft.all fits4 && x.carryCap.all fits4)
  | .setBadge i b => fits4 i && fits4 b
  | .clearBadge i | .suspendAccount i | .resumeAccount i | .closeAccount i | .readAccount i | .readClosing i => fits4 i
  | .adjustBalance i _ d => fits4 i && fitsSigned d
  | .readTenant n | .readPeriod n | .readPolicy n | .startTimer n | .stopTimer n => fits4 n
  | .assignTenant n w share _ => fits4 n && w.all (fun w => fits4 w.base && fits4 w.limit) && fits4 share
  | .setCeiling n _ c => fits4 n && c.all fits4
  | .setPolicy _ c => c.maxPages.all fits4 && c.holdTime.all fits4
  | .setPeriodTimer n _ l => fits4 n && fits4 l
  | _ => true

/-- A handle's two bytes (section 12.2). -/
def handleFits1 (h : Handle) : Bool := fits1 h.index && fits1 h.generation

/-- The operands of the job and fleet requests fit; SUBMIT's by its layout (section 12.4). -/
def fleetFits : Request → Bool
  | .submit j =>
    fits2 j.owner && fits2 j.label && fits2 j.pages.mono && fits2 j.pages.colour && fits1 j.kClass &&
      j.colourClass.all (fun c => c < 255)
  | .cancel h | .collect h | .readJob h => handleFits1 h
  | .setPanelTimeout m => fits4 m
  | .enrol n e =>
    fits4 n && fits4 e.floor && fits4 e.group && Lane.all.all (fun l => (e.types.get l).all fits4)
  | .unenroll n | .setAdmin n _ | .flushPrinter n | .readPrinter n | .readLanes n | .clearCondition n _ => fits4 n
  | .setPrinterTimers n a b => fits4 n && a.all fits4 && b.all fits4
  | .setWalkup a b | .setEstimator a b => a.all fits4 && b.all fits4
  | .setWeights k c => k.all (fun w => w.all fits4) && c.all (fun w => w.all fits4)
  | .setFactor n _ f => fits4 n && fits4 f
  | .ackUncounted n _ => fits4 n
  | _ => true

/-- The operands of the stock, callout, link and time requests fit; an unknown kind is one byte and no request code. -/
def serviceFits : Request → Bool
  | .setType t c =>
    fits4 t && c.capacity.all fits4 && c.reorder.all fits4 && c.critical.all fits4 && c.level.all fits4 &&
      c.quantity.all fits4
  | .adjustStock t n => fits4 t && fits4 n
  | .setLaneType n _ t => fits4 n && fits4 t
  | .ackOrder n | .cancelOrder n | .readType n | .setEscalation n | .ackCallout n => fits4 n
  | .receiveOrder n r => fits4 n && fits4 r
  | .setGrace _ m => fits4 m
  | .clearHistory n _ => fits4 n
  | .clearStray a => a.all fits4
  | .setClock d m w => fits4 d && fits4 m && fits4 w
  | .setSchedule l => l.all (fun e => fits4 e.weekday && fits4 e.start && fits4 e.finish)
  | .unknown k => fits1 k && !Machine.isRequestCode k
  | _ => true

/-- Every operand of a request fits its field. -/
def fits (r : Request) : Bool := r.accountFits && r.fleetFits && r.serviceFits

end Request

/-- The request a request command stands for, with its head; none for a command that is no request. -/
def Instr.asRequest : Instr → Option (Head × Request)
  | .attach h => some (h, .attach)
  | .detach h => some (h, .detach)
  | .setNoticeMask h k => some (h, .setNoticeMask k)
  | .ackNotice h k => some (h, .ackNotice k)
  | .readNotices h => some (h, .readNotices)
  | .readPorts h => some (h, .readPorts)
  | .openAccount h i b l => some (h, .openAccount i b l)
  | .setAccount h i c => some (h, .setAccount i c)
  | .setBadge h i b => some (h, .setBadge i b)
  | .clearBadge h i => some (h, .clearBadge i)
  | .suspendAccount h i => some (h, .suspendAccount i)
  | .resumeAccount h i => some (h, .resumeAccount i)
  | .closeAccount h i => some (h, .closeAccount i)
  | .adjustBalance h i c d => some (h, .adjustBalance i c d)
  | .readAccount h i => some (h, .readAccount i)
  | .readClosing h i => some (h, .readClosing i)
  | .readTenant h n => some (h, .readTenant n)
  | .assignTenant h n w x g => some (h, .assignTenant n w x g)
  | .setCeiling h n c v => some (h, .setCeiling n c v)
  | .closePeriod h => some (h, .closePeriod)
  | .setPolicy h p c => some (h, .setPolicy p c)
  | .readPeriod h n => some (h, .readPeriod n)
  | .readPolicy h n => some (h, .readPolicy n)
  | .setPeriodTimer h n u l => some (h, .setPeriodTimer n u l)
  | .startTimer h n => some (h, .startTimer n)
  | .stopTimer h n => some (h, .stopTimer n)
  | .submit h j => some (h, .submit j)
  | .cancel h j => some (h, .cancel j)
  | .listFinished h => some (h, .listFinished)
  | .collect h j => some (h, .collect j)
  | .readJob h j => some (h, .readJob j)
  | .listActive h => some (h, .listActive)
  | .setPanelTimeout h m => some (h, .setPanelTimeout m)
  | .enrol h n e => some (h, .enrol n e)
  | .unenroll h n => some (h, .unenroll n)
  | .setAdmin h n a => some (h, .setAdmin n a)
  | .flushPrinter h n => some (h, .flushPrinter n)
  | .setPrinterTimers h n a b => some (h, .setPrinterTimers n a b)
  | .setWalkup h a b => some (h, .setWalkup a b)
  | .clearCondition h n k => some (h, .clearCondition n k)
  | .readPrinter h n => some (h, .readPrinter n)
  | .setWeights h k c => some (h, .setWeights k c)
  | .setEstimator h a b => some (h, .setEstimator a b)
  | .readWeights h => some (h, .readWeights)
  | .readLanes h n => some (h, .readLanes n)
  | .setFactor h n l f => some (h, .setFactor n l f)
  | .listUncounted h => some (h, .listUncounted)
  | .ackUncounted h n l => some (h, .ackUncounted n l)
  | .setType h t c => some (h, .setType t c)
  | .adjustStock h t n => some (h, .adjustStock t n)
  | .setLaneType h n l t => some (h, .setLaneType n l t)
  | .ackOrder h n => some (h, .ackOrder n)
  | .receiveOrder h n r => some (h, .receiveOrder n r)
  | .cancelOrder h n => some (h, .cancelOrder n)
  | .readType h t => some (h, .readType t)
  | .listOrders h => some (h, .listOrders)
  | .setGrace h k m => some (h, .setGrace k m)
  | .setEscalation h m => some (h, .setEscalation m)
  | .ackCallout h n => some (h, .ackCallout n)
  | .clearHistory h n k => some (h, .clearHistory n k)
  | .listCallouts h => some (h, .listCallouts)
  | .readLink h => some (h, .readLink)
  | .clearStray h a => some (h, .clearStray a)
  | .setClock h d m w => some (h, .setClock d m w)
  | .setSchedule h l => some (h, .setSchedule l)
  | .clearAll h => some (h, .clearAll)
  | .readClock h => some (h, .readClock)
  | .malformedRequest h k => some (h, .unknown k)
  | _ => none

/-- The operands of a report fit the fields section 12.4 gives it, and the address its byte. -/
def Instr.reportFits : Instr → Bool
  | .hello l _ n m => fits1 l.address && fits1 n && fits4 m
  | .status l m => fits1 l.address && fits4 m
  | .condition l _ _ | .sessionEnd l | .installed l _ => fits1 l.address
  | .level l r => fits1 l.address && Lane.all.all (fun x => (r.get x).reading.all (fun n => n < 255))
  | .badge l b => fits1 l.address && fits4 b
  | .select l c =>
    fits1 l.address &&
      (match c with
       | .all => true
       | .handles hs => 0 < hs.length && fits1 hs.length && hs.all Request.handleFits1)
  | .progress l g p | .jobEnd l g p _ => fits1 l.address && fits2 g && fits2 p.mono && fits2 p.colour
  | _ => true

/-- The operands of an event fit: an address or printer that exists, a tenant that exists, a frame's request. -/
def Instr.eventFits : Instr → Bool
  | .requestFrameArrival _ f => fits2 f.carried.tag && f.carried.request.fits
  | .commandConfirmation a => a < Config.printers
  | .silenceExpiry n | .stallExpiry n | .sessionTimeout n => n < Config.printers
  | .periodTimerUnderflow n => n < Config.tenants
  | _ => true

/-- The command can be sent: its operands fit, and a request's tag fits two bytes. -/
def Instr.wf (i : Instr) : Bool :=
  i.reportFits && i.eventFits &&
    (match i.asRequest with
     | none => true
     | some (h, r) => fits2 h.tag && r.fits)

end Sys2Proof
end

