-- ==== Sys2Proof/Decode.lean ====
section
/-! DEFINITION. Table words: spec/opcode_table.json gives no row of the FC-64 any bits, so no word spells a command. The
frames chapter 12 lays out are in Sys2Proof/Machine/Wire.lean. -/

namespace Sys2Proof

/-- The command a word of `nbits` bits spells by the table's bits: the table gives none. -/
def decodeTableWord (_nbits _w : Nat) : Option Instr := none

end Sys2Proof
end

