-- ==== Sys2Proof/Machine/Accounting.lean ====
section
/-! DEFINITION. The Account Unit's arithmetic, called by other blocks and by requests: Reserve, Return and Charge
(section 1.4), the overrun test (R22), and the rollover of a tenant (section 2.2). -/

namespace Sys2Proof.Machine

/-- A change of the record of the tenant that owns an account; none where no window holds it (log entry 22). -/
def withOwner (i : Nat) (f : Tenant → Tenant) (s : State) : State :=
  match owningTenant s i with
  | some n => s.setTenant n (f (s.tenant n))
  | none => s

/-- One class of a per-class figure changed. -/
def bump {α : Type} (c : PageClass) (f : α → α) (p : PerClass α) : PerClass α := p.set c (f (p.get c))

/-- R19: Reserve. -/
def reserve (i : Nat) (c : PageClass) (pages : Nat) (s : State) : State :=
  let a := s.account i
  (s.setAccount i { a with reserved := bump c (· + pages) a.reserved })
    |> withOwner i (fun t => { t with reserved := bump c (· + pages) t.reserved })

/-- R20: Return. -/
def returnPages (i : Nat) (c : PageClass) (pages : Nat) (s : State) : State :=
  let a := s.account i
  (s.setAccount i { a with reserved := bump c (· - pages) a.reserved })
    |> withOwner i (fun t => { t with reserved := bump c (· - pages) t.reserved })

/-- R22: the overrun test of a charge, on the unsaturated balance. -/
def overruns (a : Account) (c : PageClass) (actual : Nat) : Bool :=
  actual > 0 && decide (a.balance.get c - (actual : Int) < -((a.overdraft.get c : Nat) : Int))

/-- R21, steps 1 to 3, and the flag of step 4, on the account's record. -/
def chargedAccount (a : Account) (c : PageClass) (actual reservation : Nat) : Account :=
  { a with
    balance := bump c (fun b => clamp Config.balanceMin Config.balanceMax (b - (actual : Int))) a.balance
    used := bump c (fun u => min Config.usedMax (u + actual)) a.used
    reserved := bump c (· - reservation) a.reserved
    overrun := a.overrun || overruns a c actual }

/-- R21, steps 2 and 3, on the owning tenant's record. -/
def chargedTenant (t : Tenant) (c : PageClass) (actual reservation : Nat) : Tenant :=
  { t with
    used := bump c (fun u => min Config.usedMax (u + actual)) t.used
    reserved := bump c (· - reservation) t.reserved }

/-- R21: Charge, and R22: OVERRUN raised on the owning tenant's port. -/
def charge (i : Nat) (c : PageClass) (actual reservation : Nat) (s : State) : State :=
  let a := s.account i
  let s' := (s.setAccount i (chargedAccount a c actual reservation))
    |> withOwner i (fun t => chargedTenant t c actual reservation)
  if overruns a c actual then
    match owningTenant s i with
    | some n => raiseTenant n .overrun s'
    | none => s'
  else s'

/-- R18: Reserve in both classes, MONO first. -/
def reserveBoth (i : Nat) (pages : PerClass Nat) (s : State) : State :=
  reserve i .colour pages.colour (reserve i .mono pages.mono s)

/-- R18: Return in both classes, MONO first. -/
def returnBoth (i : Nat) (pages : PerClass Nat) (s : State) : State :=
  returnPages i .colour pages.colour (returnPages i .mono pages.mono s)

/-- R18: Charge in both classes, MONO first. -/
def chargeBoth (i : Nat) (actual reservation : PerClass Nat) (s : State) : State :=
  charge i .colour actual.colour reservation.colour (charge i .mono actual.mono reservation.mono s)

/-- R23: the owner's live jobs lowered by one. -/
def lowerLive (i : Nat) (s : State) : State :=
  let a := s.account i
  s.setAccount i { a with liveJobs := a.liveJobs - 1 }

/-- R23: the owner's live jobs raised by one. -/
def raiseLive (i : Nat) (s : State) : State :=
  let a := s.account i
  s.setAccount i { a with liveJobs := a.liveJobs + 1 }

/-- R30, step 2: the balance a period starts with. -/
def refilled (balance : Int) (allowance carryCap : Nat) : Int :=
  if balance ≥ 0 then (allowance : Int) + min balance (carryCap : Int) else (allowance : Int) + balance

/-- R30: the account part of a rollover, on one non-FREE record. -/
def rolledAccount (a : Account) : Account :=
  { a with
    closingUsed := a.used.map some
    closingBalance := a.balance.map some
    balance :=
      ⟨refilled a.balance.mono a.allowance.mono a.carryCap.mono,
       refilled a.balance.colour a.allowance.colour a.carryCap.colour⟩
    used := .both 0
    overrun := false }

/-- R30: every non-FREE account in tenant n's window is rolled over. -/
def rollAccounts (n : Nat) (s : State) : State :=
  let t := s.tenant n
  { s with au := { s.au with
      accounts := Table.mapAll Account.free
        (fun i a => if t.owns i ∧ a.state ≠ .free then rolledAccount a else a) s.au.accounts } }

/-- R30, R31: a rollover of tenant n, its account part and then its tenant part. -/
def rollover (n : Nat) (s : State) : State :=
  let s := rollAccounts n s
  let t := s.tenant n
  (s.setTenant n { t with used := .both 0, period := (t.period + 1) % (Config.wordMax + 1) })
    |> raiseTenant n .period

/-- A period timer's count set to its length and its hour step to 0 (R26, R29). -/
def reloadTimer (n : Nat) (s : State) : State :=
  let t := s.tenant n
  s.setTenant n { t with timer := { t.timer with count := t.timer.length, hourStep := 0 } }

end Sys2Proof.Machine
end

