-- ==== Sys2Proof/Machine/Entries.lean ====
section
/-! DEFINITION. The Job Table's own operations: entering a final state (R50) and returning to HELD (R51), with the Release
Unit's removal of a job from the offer and withdrawn lists (R68). -/

namespace Sys2Proof.Machine

/-- R68: a job removed from any offer list and any withdrawn list that holds it. -/
def removeFromLists (h : Handle) (s : State) : State :=
  { s with ru := { s.ru with
      sessions := Table.mapAll none
        (fun _ x => x.map (fun x => { x with
          offers := x.offers.filter (· ≠ h), withdrawn := x.withdrawn.filter (· ≠ h) })) s.ru.sessions } }

/-- R50: entry i enters a final state with its end reason. -/
def enterFinal (i : Nat) (final : JobState) (reason : EndReason) (s : State) : State :=
  let j := s.job i
  let h : Handle := ⟨i, j.generation⟩
  let s := s.setJob i
    { j with state := final, endReason := some reason, finished := s.now, reservation := none, needs := none }
  let s := lowerLive j.owner s
  let s := if j.state = .held then removeFromLists h s else s
  let s := s.setFinishedList j.tenant (s.finishedList j.tenant ++ [h])
  raiseTenant j.tenant .finished s

/-- R48: the expiry time given now to a job of tenant n, the hold time of its active policy after now; the old one where
the clock is NOT_SET, which no live job sees (log entry 21). -/
def expiryNow (n : Nat) (old : Time) (s : State) : Time :=
  match s.now with
  | some t => timePlus t (activePolicy s n).holdTime
  | none => old

/-- R51, step 1: the pages left after the release just ended. -/
def Job.pagesLeft (j : Job) : PerClass Nat := PerClass.zip (fun p d => p - d) j.pages j.printed

/-- R51: entry i returns to HELD, or becomes DONE when it has nothing left to print. The DONE entry shows the pages it was
last released with, and its colour coverage class with them, as R50 says of every DONE job (log entry 14). -/
def returnToHeld (i : Nat) (s : State) : State :=
  let j := s.job i
  let left := j.pagesLeft
  if left = .both 0 then enterFinal i .done .complete s
  else
    let s' := s.setJob i { j with
      pages := left
      colourClass := if left.colour = 0 then none else j.colourClass
      state := .held
      reservation := none
      needs := none
      expiry := expiryNow j.tenant j.expiry s }
    raiseTenant j.tenant .requeued s'

/-- The reservation a job entry records is returned (R20). -/
def returnReservation (j : Job) (s : State) : State :=
  match j.reservation with
  | some r => returnBoth j.owner r s
  | none => s

/-- R58: entry i freed, removed from its tenant's finished list, its generation kept. -/
def freeEntry (i : Nat) (s : State) : State :=
  let j := s.job i
  let s := s.setFinishedList j.tenant ((s.finishedList j.tenant).filter (· ≠ ⟨i, j.generation⟩))
  s.setJob i (Job.freeAt j.generation)

/-- The number of a tenant's entries not in FREE (R45, step 8). -/
def entriesInUse (s : State) (n : Nat) : Nat :=
  (s.jt.jobs.filter (fun e => e.2.state ≠ .free ∧ e.2.tenant = n)).length

/-- R46: the FREE entry with the lowest index. -/
def lowestFree (s : State) : Option Nat :=
  (List.range Config.jobs).find? (fun i => (s.job i).state = .free)

end Sys2Proof.Machine
end

