-- ==== Sys2Proof/Machine/Stocking.lean ====
section
/-! DEFINITION. The Stock Unit's own operations: position (R124), orders (R130 to R132), allocation and the wait lists
(R126 to R128). -/

namespace Sys2Proof.Machine

/-- R124: a type's position, on hand plus on order, less allocated, less the length of the wait list. -/
def position (r : CartridgeType) : Int :=
  (r.onHand : Int) + r.onOrder - r.allocated - r.waitList.length

/-- Whether the order queue holds an order of a type (R130). -/
def hasOrder (s : State) (t : Nat) : Bool := s.su.orders.any (fun o => o.type == t)

/-- R130: the quantity of an order raised now. -/
def orderQuantity (r : CartridgeType) : Nat :=
  min Config.stockMax (max r.quantity ((r.level : Int) + 1 - position r).toNat)

/-- R130, R132: an order of a type is raised, numbered from the counter, and ORDER is raised on F. -/
def raiseOrder (t : Nat) (s : State) : State :=
  let r := s.ctype t
  let q := orderQuantity r
  let n := freeNumber (s.su.orders.map Order.number) (Config.orderDepth + 1) s.su.orderCounter
  let s := { s with su := { s.su with
      orders := s.su.orders ++ [Order.mk n t q false s.now], orderCounter := nextNumber n } }
  raise .f .order (s.setType t { r with onOrder := q })

/-- R130: the conditions under which the ordering trigger wants an order. -/
def wantsOrder (s : State) (t : Nat) : Bool :=
  let r := s.ctype t
  position r ≤ r.level && r.ordering && !hasOrder s t

/-- R130, R131: the ordering trigger of a type. -/
def trigger (t : Nat) (s : State) : State :=
  let r := s.ctype t
  if wantsOrder s t then
    if s.su.orders.length < Config.orderDepth then raiseOrder t s
    else if t ∈ s.su.deferred then s
    else s.setDeferredTypes (s.su.deferred ++ [t])
  else if position r > r.level ∨ ¬r.ordering then s.setDeferredTypes (s.su.deferred.filter (· ≠ t))
  else s

/-- R131: the deferral list is served, head first, while the order queue has room. -/
def serveDeferredTypes (s : State) : State :=
  s.su.deferred.foldl (fun s t =>
    if s.su.orders.length < Config.orderDepth then
      trigger t (s.setDeferredTypes (s.su.deferred.filter (· ≠ t)))
    else s) s

/-- R128: a type's waiters are served, oldest first, at most `fuel` of them (the length of the list). -/
def serveWaitersN (t : Nat) : Nat → State → State
  | 0, s => s
  | fuel + 1, s =>
    let r := s.ctype t
    match r.waitList with
    | [] => s
    | w :: rest =>
      if r.onHand > r.allocated then
        let s := s.setType t { r with waitList := rest, allocated := r.allocated + 1 }
        let s := s.setLane w.printer w.lane
          ((s.lane w.printer w.lane).map (fun x => { x with waiting := false, allocation := true }))
        serveWaitersN t fuel s
      else s

/-- R128: a type's waiters are served until the free cartridges or the waiters run out. -/
def serveWaiters (t : Nat) (s : State) : State := serveWaitersN t (s.ctype t).waitList.length s

/-- R126: a lane asks for a cartridge of its type: an allocation, or a place at the tail of the wait list. -/
def requestCartridge (n : Nat) (l : Lane) (s : State) : State :=
  match s.lane n l with
  | none => s
  | some x =>
    let r := s.ctype x.type
    let s :=
      if r.onHand > r.allocated then
        (s.setType x.type { r with allocated := r.allocated + 1 }).setLane n l (some { x with allocation := true })
      else
        (s.setType x.type { r with waitList := r.waitList ++ [⟨n, l⟩] }).setLane n l (some { x with waiting := true })
    trigger x.type s

/-- R127: a lane gives its claim back: its allocation, or its place in the wait list; then the waiters are served and the
trigger runs. A lane with no claim gives nothing back. -/
def returnClaim (n : Nat) (l : Lane) (s : State) : State :=
  match s.lane n l with
  | none => s
  | some x =>
    if x.allocation ∨ x.waiting then
      let r := s.ctype x.type
      let s := s.setType x.type { r with
        allocated := if x.allocation then r.allocated - 1 else r.allocated
        waitList := if x.waiting then r.waitList.filter (· ≠ ⟨n, l⟩) else r.waitList }
      let s := s.setLane n l (some { x with allocation := false, waiting := false })
      trigger x.type (serveWaiters x.type s)
    else s

/-- An order of a type taken out of the queue, on order back to 0 (R134, R135). -/
def dropOrder (o : Order) (s : State) : State :=
  let r := s.ctype o.type
  (s.setType o.type { r with onOrder := 0 }).setOrders (s.su.orders.filter (fun x => x.number ≠ o.number))

end Sys2Proof.Machine
end

