-- ==== Sys2Proof/Machine/Calling.lean ====
section
/-! DEFINITION. The operations that cross the Fleet Table, the Callout Unit and the Floor Link Controller: the draining test
(R89), jobs sent back to HELD (R102, R103), conditions and callouts (R93, R139 to R151), commands to the agents (R159, R160)
and promotion (R95). -/

namespace Sys2Proof.Machine

/-! ### Leaving a dispatch queue -/

/-- R89: the draining test of a printer. -/
def drainingTest (n : Nat) (s : State) : State :=
  let p := s.printer n
  if p.admin = .draining ∧ p.queue = [] then raise .f .fleet (s.setPrinter n { p with admin := .outOfService }) else s

/-- R94: a job leaves a printer's dispatch queue; the jobs behind it close up. -/
def leaveQueue (n : Nat) (h : Handle) (s : State) : State :=
  let p := s.printer n
  s.setPrinter n { p with queue := p.queue.filter (· ≠ h) }

/-- One lane's committed need changed by a figure (R114). -/
def changeCommitted (n : Nat) (needs : PerLane Nat) (f : Nat → Nat → Nat) (l : Lane) (s : State) : State :=
  s.setLane n l ((s.lane n l).map (fun x => { x with committed := f x.committed (needs.get l) }))

/-- R79, step 2: a job's lane needs are added to the committed needs of the printer's lanes. -/
def addNeeds (n : Nat) (needs : PerLane Nat) (s : State) : State :=
  Lane.all.foldl (fun s l => changeCommitted n needs (· + ·) l s) s

/-- R114: the needs a job entry records are subtracted from the committed needs of the printer's lanes. -/
def returnNeeds (n : Nat) (j : Job) (s : State) : State :=
  match j.needs with
  | none => s
  | some needs => Lane.all.foldl (fun s l => changeCommitted n needs (· - ·) l s) s

/-- R102: one QUEUED job is sent back: its reservation and needs returned, out of the queue, HELD again (R51). -/
def requeueJob (n : Nat) (h : Handle) (s : State) : State :=
  let j := s.job h.index
  returnReservation j s |> returnNeeds n j |> leaveQueue n h |> returnToHeld h.index

/-- R102, R103: the QUEUED jobs of a printer that meet a test are sent back, head first. -/
def requeueJobs (n : Nat) (which : Job → Bool) (s : State) : State :=
  (s.printer n).queue.foldl (fun s h =>
    let j := s.job h.index
    if j.state = .queued ∧ which j then requeueJob n h s else s) s

/-- R102: a SERVICE raise or extension at a printer sends its QUEUED jobs back. No QUEUED job is left for the promotion
check that ends the rule, so that check changes nothing and is not written here (log entry 15); the draining test is. -/
def serviceRequeue (n : Nat) (s : State) : State := drainingTest n (requeueJobs n (fun _ => true) s)

/-! ### Callouts -/

/-- The deadline of a callout made or extended now: the escalation interval after now, absent while the clock is NOT_SET. -/
def deadlineNow (s : State) : Option Time := s.now.map (fun t => timePlus t s.cu.escalation)

/-- Whether a callout is the one of a printer and kind (R140: at most one). -/
def Callout.isOf (c : Callout) (n : Nat) (k : CalloutKind) : Bool := c.printer == n && c.kind == k

/-- Whether a deferral is the one of a printer and kind (R148: at most one). -/
def Deferral.isOf (d : Deferral) (n : Nat) (k : CalloutKind) : Bool := d.printer == n && d.kind == k

/-- The callout of a printer and kind, if there is one. -/
def calloutOf (s : State) (n : Nat) (k : CalloutKind) : Option Callout := s.cu.callouts.find? (fun c => c.isOf n k)

/-- What follows a new or extended callout: CALLOUT on F, and for SERVICE the requeue of R102. -/
def announceCallout (n : Nat) (k : CalloutKind) (s : State) : State :=
  let s := raise .f .callout s
  match k with
  | .service => serviceRequeue n s
  | .supply => s

/-- R139, R145, R147: a new callout at the tail of the queue. -/
def makeCallout (n : Nat) (k : CalloutKind) (items : List CalloutItem) (s : State) : State :=
  let number := freeNumber (s.cu.callouts.map Callout.number) (Config.calloutDepth + 1) s.cu.calloutCounter
  let c : Callout := ⟨number, n, k, items, 1, false, s.now, deadlineNow s⟩
  announceCallout n k
    { s with cu := { s.cu with callouts := s.cu.callouts ++ [c], calloutCounter := nextNumber number } }

/-- R147: a callout is extended by new items: RAISED again, with a fresh deadline. -/
def extendCallout (n : Nat) (k : CalloutKind) (items : List CalloutItem) (s : State) : State :=
  announceCallout n k (s.setCallouts (s.cu.callouts.map (fun c =>
    if c.isOf n k then { c with items := c.items ++ items, acknowledged := false, deadline := deadlineNow s } else c)))

/-- R148: a raise that found the queue full is deferred, or adds its new items to the deferral that stands. -/
def deferRaise (n : Nat) (k : CalloutKind) (items : List CalloutItem) (s : State) : State :=
  if s.cu.deferrals.any (fun d => d.isOf n k) then
    s.setDeferrals (s.cu.deferrals.map (fun d =>
      if d.isOf n k then { d with items := d.items ++ items.filter (· ∉ d.items) } else d))
  else s.setDeferrals (s.cu.deferrals ++ [⟨n, k, items, s.now⟩])

/-- R145, R147: a raise for a printer and kind, with items: they extend its callout, make a new one, or are deferred. -/
def raiseItems (n : Nat) (k : CalloutKind) (items : List CalloutItem) (s : State) : State :=
  match calloutOf s n k with
  | some c =>
    let new := items.filter (· ∉ c.items)
    if new = [] then s else extendCallout n k new s
  | none =>
    if items = [] then s
    else if s.cu.callouts.length < Config.calloutDepth then makeCallout n k items s
    else deferRaise n k items s

/-- R145: a SERVICE raise for a printer, with a list of kinds; an OUT_OF_SERVICE printer raises nothing. -/
def serviceRaise (n : Nat) (kinds : List ConditionKind) (s : State) : State :=
  if (s.printer n).admin = .outOfService then s else raiseItems n .service (kinds.map .condition) s

/-- R147: a SUPPLY raise for a lane, in any admin state. -/
def supplyRaise (n : Nat) (l : Lane) (s : State) : State := raiseItems n .supply [.lane l] s

/-- R148: the deferral at the head becomes a callout, or is dropped where it is SERVICE and its printer OUT_OF_SERVICE. -/
def serveDeferral (d : Deferral) (s : State) : State :=
  let s := s.setDeferrals (s.cu.deferrals.drop 1)
  if d.kind = .service ∧ (s.printer d.printer).admin = .outOfService then s
  else makeCallout d.printer d.kind d.items s

/-- R148: the deferral list is served while the callout queue has room. -/
def serveDeferrals (s : State) : State :=
  s.cu.deferrals.foldl (fun s d => if s.cu.callouts.length < Config.calloutDepth then serveDeferral d s else s) s

/-- R148: an item leaves the deferral that holds it; a deferral left with no item is dropped. -/
def dropDeferredItem (n : Nat) (k : CalloutKind) (item : CalloutItem) (s : State) : State :=
  s.setDeferrals ((s.cu.deferrals.map (fun d =>
    if d.isOf n k then { d with items := d.items.filter (· ≠ item) } else d)).filter (fun d => d.items ≠ []))

/-- R151: an item leaves the callout that holds it; the last one closes it, and the deferral list is served. -/
def dropCalloutItem (n : Nat) (k : CalloutKind) (item : CalloutItem) (s : State) : State :=
  match calloutOf s n k with
  | none => s
  | some c =>
    if item ∈ c.items then
      if c.items.filter (· ≠ item) = [] then
        serveDeferrals (s.setCallouts (s.cu.callouts.filter (fun x => !x.isOf n k)))
      else
        s.setCallouts (s.cu.callouts.map (fun x =>
          if x.isOf n k then { x with items := x.items.filter (· ≠ item) } else x))
    else s

/-- An item leaves the callout and the deferral of a printer and kind. -/
def dropItem (n : Nat) (k : CalloutKind) (item : CalloutItem) (s : State) : State :=
  dropDeferredItem n k item (dropCalloutItem n k item s)

/-! ### Conditions -/

/-- The grace time of a kind (R141). -/
def graceTime (s : State) (k : ConditionKind) : Nat := s.cu.graceTimes.getD k.code 0

/-- R143: the CU is told of a condition's onset. -/
def tellOnset (n : Nat) (k : ConditionKind) (s : State) : State :=
  let s := s.setHistory n (s.history n ||| k.only)
  if k = .supplyOut then s
  else if graceTime s k > 0 then s.setGrace n k (.running (graceTime s k))
  else serviceRaise n [k] (s.setGrace n k .spent)

/-- R93: a kind not held joins the condition set with onset time now, and the CU is told; a kind held changes nothing. -/
def addCondition (n : Nat) (k : ConditionKind) (s : State) : State :=
  let p := s.printer n
  if p.holds k then s
  else tellOnset n k (s.setPrinter n { p with conditions := Table.set none p.conditions k.code (some ⟨s.now⟩) })

/-- R144: the CU is told that a condition has cleared; SUPPLY_OUT reaches none of its records. -/
def tellCleared (n : Nat) (k : ConditionKind) (s : State) : State :=
  if k = .supplyOut then s else dropItem n .service (.condition k) (s.setGrace n k .idle)

/-! ### Commands to the agents -/

/-- R91, R160: an address's silence count has run out, or is taken as run out: it stops, UNREACHABLE is added with onset
time now, and the CU is told. -/
def silenceRunOut (n : Nat) (s : State) : State :=
  addCondition n .unreachable (s.setPrinter n { s.printer n with silence := none })

/-- R159: a command issued joins the tail of its address's queue; R160: one issued to a full queue is discarded, the
silence count is taken as run out, and the queue is emptied. -/
def issue (n : Nat) (c : Command) (s : State) : State :=
  let q := s.commands n
  if q.length < Config.commandDepth then s.setCommands n (q ++ [c])
  else (silenceRunOut n s).setCommands n []

/-! ### Promotion -/

/-- R95: the conditions under which the head of a printer's queue becomes ACTIVE. -/
def mayPromote (s : State) (n : Nat) (h : Handle) : Bool :=
  let p := s.printer n
  let j := s.job h.index
  j.state == .queued && !p.blocked && !p.supplyBlocks j.pages && p.presence == .present && p.admin != .outOfService

/-- R95: a job is promoted: ACTIVE, EXPECT to the agent, the stall count running, DISPATCH on its tenant's port. -/
def promote (n : Nat) (h : Handle) (s : State) : State :=
  let j := s.job h.index
  let p := s.printer n
  (s.setJob h.index { j with state := .active }).setPrinter n { p with stall := some p.stallLimit }
    |> issue n (.expect (j.grant.getD 0) j.tenant j.label j.pages)
    |> raiseTenant j.tenant .dispatch

/-- R95: the promotion check of a printer. -/
def promotionCheck (n : Nat) (s : State) : State :=
  match (s.printer n).queue with
  | [] => s
  | h :: _ => if mayPromote s n h then promote n h s else s

/-- R93: a kind leaves the condition set, the CU is told, and a blocking kind's removal runs the promotion check. -/
def removeCondition (n : Nat) (k : ConditionKind) (s : State) : State :=
  let p := s.printer n
  if p.holds k then
    let s := tellCleared n k (s.setPrinter n { p with conditions := Table.set none p.conditions k.code none })
    if k.blocks then promotionCheck n s else s
  else s

/-- R93, R111 rows 1 and 2: a lane joins or leaves the SUPPLY_OUT list; the kind is held while the list is not empty; a
change runs the promotion check. -/
def setSupplyOut (n : Nat) (l : Lane) (out : Bool) (s : State) : State :=
  let p := s.printer n
  let lanes := withLane p.supplyOut l out
  let s := s.setPrinter n { p with supplyOut := lanes }
  let s := if lanes = 0 then removeCondition n .supplyOut s else addCondition n .supplyOut s
  promotionCheck n s

/-- R103: a departed tenant's QUEUED jobs are sent back, printers in ascending number, each printer's promotion check and
draining test after its jobs. -/
def detachRequeue (tenant : Nat) (s : State) : State :=
  (Table.numbers s.ft.printers).foldl (fun s n =>
    drainingTest n (promotionCheck n (requeueJobs n (fun j => j.tenant == tenant) s))) s

end Sys2Proof.Machine
end

