-- ==== Sys2Proof/Machine/Estimating.lean ====
section
/-! DEFINITION. The Supply Estimator's own operations: levels and lane states (R109 to R112), needs (R113), deductions (R115,
R116), readings and calibration (R117, R118), lanes made, removed and moved to another type (R85, R107, R137). -/

namespace Sys2Proof.Machine

/-- R109: a lane's effective level. -/
def effectiveLevel (x : LaneRecord) (capacity : Nat) : Nat :=
  match x.confirmed with
  | none => x.estimate
  | some r => min x.estimate (r * capacity / 100)

/-- R109: a level as a percentage of the capacity, rounded down. -/
def percentOf (level capacity : Nat) : Nat := level * 100 / capacity

/-- R110: the state computed from a lane's record and its type's. -/
def laneState (x : LaneRecord) (t : CartridgeType) : LaneState :=
  let e := effectiveLevel x t.capacity
  if x.emptyFlag ∨ e = 0 then .empty
  else if percentOf e t.capacity ≤ t.critical then .critical
  else if percentOf e t.capacity ≤ t.reorder then .low
  else .ok

/-- CRITICAL or EMPTY: the states that stand in a SUPPLY callout (R111, rows 3 and 4). -/
def LaneState.callsOut : LaneState → Bool
  | .critical | .empty => true
  | .ok | .low => false

/-- Whether a lane holds an allocation or waits. -/
def hasClaim (s : State) (n : Nat) (l : Lane) : Bool := (s.lane n l).any (fun x => x.allocation || x.waiting)

/-- R111, rows 1 and 2. -/
def supplyOutEffect (n : Nat) (l : Lane) (old new : LaneState) (s : State) : State :=
  if new = .empty ∧ old ≠ .empty then setSupplyOut n l true s
  else if old = .empty ∧ new ≠ .empty then setSupplyOut n l false s
  else s

/-- R111, rows 3 and 4. -/
def calloutEffect (n : Nat) (l : Lane) (old new : LaneState) (s : State) : State :=
  if new.callsOut ∧ ¬old.callsOut then supplyRaise n l s
  else if old.callsOut ∧ ¬new.callsOut then dropItem n .supply (.lane l) s
  else s

/-- R111, rows 5 and 6. -/
def claimEffect (n : Nat) (l : Lane) (old new : LaneState) (s : State) : State :=
  if new = .ok then returnClaim n l s
  else if old = .ok ∧ ¬hasClaim s n l then requestCartridge n l s
  else s

/-- R111: the effects of a change of a lane's state, in the order of the table. -/
def laneEffects (n : Nat) (l : Lane) (old new : LaneState) (s : State) : State :=
  claimEffect n l old new (calloutEffect n l old new (supplyOutEffect n l old new s))

/-- R110: a lane's state is computed again; one that comes out different has the effects of R111. -/
def recompute (n : Nat) (l : Lane) (s : State) : State :=
  match s.lane n l with
  | none => s
  | some x =>
    let new := laneState x (s.ctype x.type)
    if new = x.state then s
    else laneEffects n l x.state new (s.setLane n l (some { x with state := new }))

/-- R112: at a warm reset a lane is taken as if its state had changed from OK to the state computed. -/
def reconcileLane (n : Nat) (l : Lane) (s : State) : State :=
  match s.lane n l with
  | none => s
  | some x =>
    let new := laneState x (s.ctype x.type)
    laneEffects n l .ok new (s.setLane n l (some { x with state := new }))

/-- R112: every lane, in ascending printer number and in the order K, C, M, Y. -/
def reconcileLanes (s : State) : State :=
  (List.range Config.printers).foldl (fun s n => Lane.all.foldl (fun s l => reconcileLane n l s) s) s

/-! ### Needs and deductions -/

/-- The K weight of a coverage class (R108). -/
def kWeight (s : State) (c : Nat) : Nat := s.se.kWeights.getD c 0
/-- The colour weight of a coverage class (R108). -/
def colourWeight (s : State) (c : Nat) : Nat := s.se.colourWeights.getD c 0

/-- R116: the colour coverage class at which COLOUR pages are deducted; 0 where the class is absent. -/
def deductionClass (c : Option Nat) : Nat := c.getD 0

/-- The pages and the weight that a lane takes of a job's pages at its coverage classes (R113, R116). -/
def laneLoad (s : State) (l : Lane) (pages : PerClass Nat) (kClass : Nat) (colourClass : Option Nat) : Nat × Nat :=
  match l with
  | .k => (pages.mono + pages.colour, kWeight s kClass)
  | _ => (pages.colour, colourWeight s (deductionClass colourClass))

/-- R113: the need of a job in one lane of a printer; 0 in a lane the printer does not have. -/
def laneNeed (s : State) (n : Nat) (l : Lane) (j : Job) : Nat :=
  match s.lane n l with
  | none => 0
  | some x =>
    let load := laneLoad s l j.pages j.kClass j.colourClass
    ceilDiv (load.1 * load.2 * x.factor) 64

/-- R113: a job's lane needs at a printer. -/
def jobNeeds (s : State) (n : Nat) (j : Job) : PerLane Nat :=
  ⟨laneNeed s n .k j, laneNeed s n .c j, laneNeed s n .m j, laneNeed s n .y j⟩

/-- R115: a lane's record after a deduction. -/
def deductedLane (x : LaneRecord) (pages weight : Nat) : LaneRecord :=
  if pages = 0 then x
  else
    let sum := pages * weight * x.factor + x.fraction
    { x with estimate := x.estimate - sum / 64, fraction := sum % 64 }

/-- R115: a deduction from one lane; the state is computed again when the estimate changed. -/
def deduct (n : Nat) (l : Lane) (pages weight : Nat) (s : State) : State :=
  match s.lane n l with
  | none => s
  | some x =>
    let x' := deductedLane x pages weight
    let s := s.setLane n l (some x')
    if x'.estimate = x.estimate then s else recompute n l s

/-- R116: the deduction of a job's pages, or of a late end's extra pages, from every lane of the printer. -/
def deductPages (n : Nat) (pages : PerClass Nat) (kClass : Nat) (colourClass : Option Nat) (s : State) : State :=
  Lane.all.foldl (fun s l =>
    let load := laneLoad s l pages kClass colourClass
    deduct n l load.1 load.2 s) s

/-! ### Readings and calibration -/

/-- R118: calibration of a lane at a confirmed reading, with the difference taken before any change. -/
def calibrated (x : LaneRecord) (capacity reading tolerance rebase : Nat) : LaneRecord :=
  let d : Int := (percentOf x.estimate capacity : Int) - (reading : Int)
  let x :=
    if d > (tolerance : Int) then { x with factor := min 96 (x.factor + 1) }
    else if d < -(tolerance : Int) then { x with factor := max 32 (x.factor - 1) }
    else x
  if d > (rebase : Int) ∨ d < -(rebase : Int) then { x with estimate := reading * capacity / 100, fraction := 0 } else x

/-- Whether two readings differ by 2 points or less (R117). -/
def readingsAgree (a b : Nat) : Bool := a ≤ b + 2 && b ≤ a + 2

/-- R117, steps 1 to 4: a lane's record after a LEVEL report's entry. -/
def readLane (x : LaneRecord) (e : LaneReading) (capacity tolerance rebase : Nat) : LaneRecord :=
  let x := { x with emptyFlag := e.empty }
  match e.reading with
  | none => x
  | some r =>
    let x := if x.candidate.any (readingsAgree r) then
      { calibrated x capacity r tolerance rebase with confirmed := some r } else x
    { x with candidate := some r }

/-- R117: one lane of a LEVEL report; an entry for a lane the printer does not have is ignored. -/
def takeReading (n : Nat) (l : Lane) (e : LaneReading) (s : State) : State :=
  match s.lane n l with
  | none => s
  | some x =>
    recompute n l (s.setLane n l
      (some (readLane x e (s.ctype x.type).capacity s.se.tolerance s.se.rebaseLimit)))

/-- R119, step 1: a lane's record with a full cartridge. -/
def refilledLane (x : LaneRecord) (capacity : Nat) : LaneRecord :=
  { x with estimate := capacity, fraction := 0, candidate := none, confirmed := none, emptyFlag := false }

/-- R119, step 2: the stock is settled for a cartridge installed in a lane. -/
def settleInstalled (n : Nat) (l : Lane) (s : State) : State :=
  match s.lane n l with
  | none => s
  | some x =>
    let t := s.ctype x.type
    if x.allocation then
      (s.setType x.type { t with onHand := t.onHand - 1, allocated := t.allocated - 1 }).setLane n l
        (some { x with allocation := false })
    else if t.onHand > t.allocated then
      (s.setType x.type { t with onHand := t.onHand - 1, waitList := t.waitList.filter (· ≠ ⟨n, l⟩) }).setLane n l
        (some { x with waiting := false })
    else raise .f .supply (s.setLane n l (some { x with uncounted := true }))

/-- R119: an INSTALLED report for a lane; a lane the printer does not have changes nothing. -/
def install (n : Nat) (l : Lane) (s : State) : State :=
  match s.lane n l with
  | none => s
  | some x =>
    s.setLane n l (some (refilledLane x (s.ctype x.type).capacity))
      |> settleInstalled n l |> recompute n l |> trigger x.type

/-! ### Lanes made, removed and changed -/

/-- R107: a new lane of a type: a full cartridge, OK, no claim. -/
def newLane (type capacity : Nat) : LaneRecord where
  type := type
  estimate := capacity
  fraction := 0
  factor := 64
  candidate := none
  confirmed := none
  emptyFlag := false
  committed := 0
  state := .ok
  allocation := false
  waiting := false
  uncounted := false

/-- R107: a lane record is made, its state computed (it is OK). -/
def makeLane (n : Nat) (l : Lane) (type : Nat) (s : State) : State :=
  let t := s.ctype type
  let x := newLane type t.capacity
  s.setLane n l (some { x with state := laneState x t })

/-- R85, R87: a lane's claim is given back and its record removed. -/
def removeLane (n : Nat) (l : Lane) (s : State) : State := (returnClaim n l s).setLane n l none

/-- R85: a lane of a colour printer made mono: its claim back, out of the SUPPLY callout and the SUPPLY_OUT list, removed. -/
def retireLane (n : Nat) (l : Lane) (s : State) : State :=
  match s.lane n l with
  | none => s
  | some _ =>
    let s := dropItem n .supply (.lane l) (returnClaim n l s)
    let s := if hasLane (s.printer n).supplyOut l then setSupplyOut n l false s else s
    s.setLane n l none

/-- R125 step 2, R137 step 3: a lane's estimate lowered to its type's capacity where it is above it. -/
def capEstimate (n : Nat) (l : Lane) (s : State) : State :=
  match s.lane n l with
  | none => s
  | some x => s.setLane n l (some { x with estimate := min x.estimate (s.ctype x.type).capacity })

/-- R137, step 2: the type of a lane's record and of the printer's lane types replaced. -/
def retypeLane (n : Nat) (l : Lane) (type : Nat) (s : State) : State :=
  let p := s.printer n
  (s.setPrinter n { p with laneTypes := p.laneTypes.set l (some type) }).setLane n l
    ((s.lane n l).map (fun x => { x with type := type }))

/-- R137, step 5: a lane that is not OK and has no claim asks for a cartridge of its new type. -/
def claimIfShort (n : Nat) (l : Lane) (s : State) : State :=
  match s.lane n l with
  | none => s
  | some x => if x.state ≠ .ok ∧ ¬x.allocation ∧ ¬x.waiting then requestCartridge n l s else s

/-- R137: a lane is moved to another type; its own type changes nothing. Running the trigger of step 6 where step 4 or 5 has
run it changes nothing more, so it is run in every case. -/
def changeLaneType (n : Nat) (l : Lane) (type : Nat) (s : State) : State :=
  match s.lane n l with
  | none => s
  | some x =>
    if x.type = type then s
    else
      returnClaim n l s |> retypeLane n l type |> capEstimate n l |> recompute n l |> claimIfShort n l |> trigger type

end Sys2Proof.Machine
end

