-- ==== Sys2Proof/Machine/Ending.lean ====
section
/-! DEFINITION. A job's end at its printer (R96 to R101), the closing of panel sessions (section 4.4), and the taking of a
report from the floor link (R156 to R158). -/

namespace Sys2Proof.Machine

/-! ### Counting pages and ending a job -/

/-- R96: the increase a count brings over the pages printed under this release. -/
def increase (count printed : Nat) : Nat := count - printed

/-- R96: the counts of a PROGRESS or JOB_END are taken: done rises, the meter surplus falls. -/
def takeCounts (n : Nat) (h : Handle) (pages : PerClass Nat) (s : State) : State :=
  let j := s.job h.index
  let up := PerClass.zip increase pages j.printed
  let p := s.printer n
  (s.setJob h.index { j with done := PerClass.zip (fun d u => min Config.doneMax (d + u)) j.done up }).setPrinter n
    { p with surplus := clamp Config.surplusMin Config.surplusMax (p.surplus - (up.mono + up.colour : Nat)) }

/-- R96, R100: whether taking a PROGRESS raised the job's done, in some class; a higher count of a class whose done stands at
19998 already raises nothing (log entry 31). -/
def roseFrom (old new : PerClass Nat) : Bool := old.mono < new.mono || old.colour < new.colour

/-- The stall count of a printer stopped. -/
def stopStall (n : Nat) (s : State) : State := s.setPrinter n { s.printer n with stall := none }

/-- R98, steps 1 to 4, with the stall count stopped first: the charge, the deduction, the needs, the queue. -/
def settleEnd (n : Nat) (h : Handle) (s : State) : State :=
  let j := s.job h.index
  stopStall n s
    |> chargeBoth j.owner j.printed (j.reservation.getD (.both 0))
    |> deductPages n j.printed j.kClass j.colourClass
    |> returnNeeds n j
    |> leaveQueue n h

/-- R99: the JT's part of an interruption: counted, then FAILED at the limit with pages left, else as R51. -/
def interruptEntry (i : Nat) (s : State) : State :=
  let j := s.job i
  let s := s.setJob i { j with interrupts := j.interrupts + 1 }
  if j.interrupts + 1 ≥ Config.interruptLimit ∧ j.pagesLeft ≠ .both 0 then enterFinal i .failed .interruptLimit s
  else returnToHeld i s

/-- R98, step 6. -/
def afterEnd (n : Nat) (s : State) : State := drainingTest n (promotionCheck n s)

/-- R98: the head is ended in a final state. -/
def endFinal (n : Nat) (h : Handle) (final : JobState) (reason : EndReason) (s : State) : State :=
  afterEnd n (enterFinal h.index final reason (settleEnd n h s))

/-- R98, R99: the ACTIVE head is interrupted. -/
def endInterrupted (n : Nat) (h : Handle) (s : State) : State := afterEnd n (interruptEntry h.index (settleEnd n h s))

/-- R92 step 5, R100 step 3: the head is ended with the pages last reported: an ACTIVE head is interrupted, a CANCELLING one
becomes CANCELLED. -/
def endUnfinished (n : Nat) (h : Handle) (s : State) : State :=
  if (s.job h.index).state = .cancelling then endFinal n h .cancelled .cancelledByTenant s else endInterrupted n h s

/-- R100 step 2, R90: the head recorded as the printer's stalled grant. -/
def recordStalled (n : Nat) (h : Handle) (s : State) : State :=
  let j := s.job h.index
  s.setPrinter n { s.printer n with
    stalled := some ⟨j.grant.getD 0, j.owner, j.kClass, j.colourClass, j.printed⟩ }

/-- R97: a protocol error is recorded and FLEET raised. -/
def protocolError (n : Nat) (k : ReportKind) (grant : Nat) (s : State) : State :=
  raise .f .fleet (s.setPrinter n { s.printer n with protocolError := some ⟨k, grant, s.now⟩ })

/-- R101: a late end. -/
def lateEnd (n : Nat) (g : StalledGrant) (pages : PerClass Nat) (s : State) : State :=
  let extra := PerClass.zip increase pages g.pages
  let s := if (s.account g.account).state = .free then s else chargeBoth g.account extra (.both 0) s
  let s := deductPages n extra g.kClass g.colourClass s
  let p := s.printer n
  s.setPrinter n { p with
    surplus := clamp Config.surplusMin Config.surplusMax (p.surplus - (extra.mono + extra.colour : Nat))
    stalled := none }

/-- R97: whether the ACTIVE head's JOB_END completes it. -/
def completes (j : Job) (outcome : JobOutcome) : Bool :=
  outcome == .complete && j.printed.mono ≥ j.pages.mono && j.printed.colour ≥ j.pages.colour

/-- R97: the JOB_END of the printing head, its counts taken. A stalled grant of the same number is made absent. -/
def endReported (n : Nat) (h : Handle) (grant : Nat) (outcome : JobOutcome) (s : State) : State :=
  let p := s.printer n
  let s := if p.stalled.any (fun g => g.grant == grant) then s.setPrinter n { p with stalled := none } else s
  let j := s.job h.index
  if j.state = .cancelling then endFinal n h .cancelled .cancelledByTenant s
  else if completes j outcome then endFinal n h .done .complete s
  else endInterrupted n h s

/-- The printing head of a printer, if it has the grant (R96, R97). -/
def headWithGrant (s : State) (n : Nat) (grant : Nat) : Option Handle :=
  (printingHead s n).filter (fun h => (s.job h.index).grant == some grant)

/-- R96, R100: a PROGRESS report. A grant that is both the printing head's and the stalled one is taken as the head's, and the
stalled grant is kept: the model reads R97's sentence that makes it absent as a part of the JOB_END it stands with (log entry
34, DESIGN CHOICE). -/
def takeProgress (n : Nat) (grant : Nat) (pages : PerClass Nat) (s : State) : State :=
  match headWithGrant s n grant with
  | some h =>
    let t := takeCounts n h pages s
    let p := t.printer n
    if roseFrom (s.job h.index).done (t.job h.index).done then t.setPrinter n { p with stall := some p.stallLimit } else t
  | none =>
    if (s.printer n).stalled.any (fun g => g.grant == grant) then s else protocolError n .progress grant s

/-- R97: a JOB_END report, its rows tried in the order of the table. -/
def takeJobEnd (n : Nat) (grant : Nat) (pages : PerClass Nat) (outcome : JobOutcome) (s : State) : State :=
  match headWithGrant s n grant with
  | some h => endReported n h grant outcome (takeCounts n h pages s)
  | none =>
    match (s.printer n).stalled with
    | some g => if g.grant = grant then lateEnd n g pages s else protocolError n .jobEnd grant s
    | none => protocolError n .jobEnd grant s

/-- R100: a stall that has expired: ABORT, the stalled grant, the head ended. -/
def expireStall (n : Nat) (s : State) : State :=
  match printingHead s n with
  | none => stopStall n s
  | some h =>
    issue n (.abort ((s.job h.index).grant.getD 0)) s |> recordStalled n h |> endUnfinished n h

/-! ### Panel sessions -/

/-- Section 4.4: the session at a printer is closed, its lists discarded. -/
def endSession (n : Nat) (s : State) : State := s.setSession n none

/-- A session closed by the part, the agent told why (R64, R70, R72). -/
def closeSession (n : Nat) (reason : CloseReason) (s : State) : State :=
  issue n (.sessionClose reason) (endSession n s)

/-- The printers at which an account's session is open (R67: at most one). -/
def sessionsOf (s : State) (account : Nat) : List Nat :=
  (s.ru.sessions.filter (fun e => e.2.any (fun x => x.account == account))).map Prod.fst

/-- R72: the account's open session, if there is one, is closed with reason ACCOUNT. -/
def closeAccountSession (account : Nat) (s : State) : State :=
  (sessionsOf s account).foldl (fun s n => closeSession n .account s) s

/-- R69: a tenant's offers are withdrawn: each session's offer list goes to the tail of its withdrawn list. -/
def withdrawOffers (tenant : Nat) (s : State) : State :=
  { s with ru := { s.ru with
      sessions := Table.mapAll none
        (fun _ x => x.map (fun x =>
          if x.tenant = tenant then { x with offers := [], withdrawn := x.withdrawn ++ x.offers } else x))
        s.ru.sessions } }

/-! ### Reports -/

/-- R157: a stray report. -/
def strayReport (a : Nat) (k : ReportKind) (s : State) : State :=
  raise .f .fleet (s.setStray a (some ⟨k, s.now⟩))

/-- R91: a report handed to the FT restarts the silence count and clears UNREACHABLE. -/
def heard (n : Nat) (s : State) : State :=
  let p := s.printer n
  removeCondition n .unreachable (s.setPrinter n { p with silence := some p.silenceLimit })

/-- R156: a report frame is taken by the FLC: dropped when its check or its body fails (R178, R180), stray when its address is
not enrolled, dropped when its printer is UNKNOWN and it is no HELLO (R158), and otherwise handed to the FT's presence step
and to its owner; a HELLO empties the command queue first (R160). With main power off no report is taken (R175). -/
def takeReport (l : LinkFrame) (k : ReportKind) (bodyOk : Bool) (owner : State → State) (s : State) : State :=
  if s.phase = .off then { s with out := [] }
  else
    let s := s.begin
    let n := l.address
    if ¬(l.checkOk ∧ n < Config.printers ∧ bodyOk) then s
    else if ¬(s.printer n).enrolled then strayReport n k s
    else if (s.printer n).presence = .unknown ∧ k ≠ .hello then s
    else
      let s := if k = .hello then s.setCommands n [] else s
      owner (heard n s)

/-- An event that is no request and no report, taken while main power is present; with it off nothing happens (R175). -/
def takeEvent (act : State → State) (s : State) : State :=
  if s.phase = .off then { s with out := [] } else act s.begin

end Sys2Proof.Machine
end

