-- ==== Sys2Proof/Machine/Ticking.lean ====
section
/-! DEFINITION. The time base's events and the expiries of the timers (R171, R172). A minute event moves the clock and steps
every block's minute-driven counts; an expiry it leads to is a step of its own, taken by its own command, and one left over
is taken before the next event of its timer (log entry 4). -/

namespace Sys2Proof.Machine

/-! ### The clock and the active policy -/

/-- R171: the clock one minute on; it stays at day 65535 minute 1439. -/
def Clock.next (c : Clock) : Clock :=
  if c.minute < 1439 then { c with minute := c.minute + 1 }
  else if c.day < Config.wordMax then
    { day := c.day + 1, minute := 0, weekday := if c.weekday ≥ 6 then 0 else c.weekday + 1 }
  else c

/-- R174: the active policy of a clock and a schedule. -/
def policyAt (clock : Option Clock) (schedule : List DaySpan) : PolicyName :=
  match clock with
  | none => .afterHours
  | some c =>
    let d := schedule.getD c.weekday ⟨0, 0⟩
    if d.start ≤ c.minute ∧ c.minute < d.finish then .day else .afterHours

/-- R174: the TB evaluates the active policy. -/
def evaluatePolicy (s : State) : State :=
  { s with tb := { s.tb with active := policyAt s.tb.clock s.tb.schedule } }

/-- R171: at a minute event with the clock set, the clock moves on. -/
def advanceClock (s : State) : State := { s with tb := { s.tb with clock := s.tb.clock.map Clock.next } }

/-! ### The work owed, taken by the expiry commands -/

/-- R25: whether the timer's next step is an underflow. -/
def PeriodTimer.atUnderflow (t : PeriodTimer) : Bool :=
  t.count ≤ 1 && (t.unit == .minutes || t.hourStep + 1 ≥ 60)

/-- R25: a step that is no underflow. -/
def PeriodTimer.step (t : PeriodTimer) : PeriodTimer :=
  match t.unit with
  | .minutes => { t with count := t.count - 1 }
  | .hours =>
    if t.hourStep + 1 ≥ 60 then { t with hourStep := 0, count := t.count - 1 } else { t with hourStep := t.hourStep + 1 }

/-- R25, R26: the AU takes tenant n's step of a minute event: an underflow reloads the count and rolls the tenant over. -/
def stepTimer (n : Nat) (s : State) : State :=
  let t := s.tenant n
  if t.timer.running ∧ s.tb.clock.isSome then
    if t.timer.atUnderflow then rollover n (reloadTimer n s) else s.setTenant n { t with timer := t.timer.step }
  else s

/-- R26: the step owed to tenant n's timer is taken. -/
def takeUnderflow (n : Nat) (s : State) : State :=
  if n ∈ s.owed.timerSteps then
    stepTimer n { s with owed := { s.owed with timerSteps := s.owed.timerSteps.filter (· ≠ n) } }
  else s

/-- R49: whether a job is HELD with its expiry time at or before now. -/
def jobDue (s : State) (j : Job) : Bool := j.state == .held && s.now.any (fun t => timeAtOrBefore j.expiry t)

/-- R49: the expiry sweep, in ascending index. -/
def takeJobExpiry (s : State) : State :=
  if s.owed.jobExpiry then
    (Table.numbers s.jt.jobs).foldl
      (fun s i => if jobDue s (s.job i) then enterFinal i .expired .expired s else s)
      { s with owed := { s.owed with jobExpiry := false } }
  else s

/-- The printer and the kind of a grace record's number. -/
def graceKind (code : Nat) : ConditionKind := ConditionKind.graced.getD code .meterFault

/-- R145: the first grace record that has reached 0, in ascending printer number and the order of R141. -/
def firstExpiring (s : State) : Option (Nat × ConditionKind) :=
  (s.cu.grace.find? (fun e => e.2 = .expiring)).map (fun e => (e.1 / 8, graceKind (e.1 % 8)))

/-- R145: that record becomes SPENT and makes a SERVICE raise for its printer. -/
def takeGraceExpiry (s : State) : State :=
  match firstExpiring s with
  | none => s
  | some (n, k) => serviceRaise n [k] (s.setGrace n k .spent)

/-- R149, step 2: a callout whose deadline has passed escalates, if it is RAISED and its level is 1 or 2. -/
def escalated (s : State) (c : Callout) : Callout :=
  { c with level := c.level + 1, deadline := deadlineNow s }

/-- R149: whether a callout is due to escalate now. -/
def escalates (s : State) (c : Callout) : Bool :=
  !c.acknowledged && c.level ≤ 2 &&
    (match c.deadline, s.now with
     | some d, some t => timeAtOrBefore d t
     | _, _ => false)

/-- R149: the first callout whose escalation is owed is dealt with. -/
def takeEscalation (s : State) : State :=
  match s.owed.escalations with
  | [] => s
  | number :: rest =>
    let s := { s with owed := { s.owed with escalations := rest } }
    match s.cu.callouts.find? (fun c => c.number = number) with
    | none => s
    | some c =>
      if escalates s c then
        raise .f .callout (s.setCallouts (s.cu.callouts.map (fun x => if x.number = number then escalated s x else x)))
      else s

/-- R70: a session whose minutes left have reached 0 is closed, its agent told TIMEOUT. -/
def takeSessionTimeout (n : Nat) (s : State) : State :=
  if (s.session n).any (fun x => x.minutes == 0) then closeSession n .timeout s else s

/-- R100: a stall count that has reached 0 has expired. -/
def takeStallExpiry (n : Nat) (s : State) : State := if (s.printer n).stall = some 0 then expireStall n s else s

/-- R91, R160: a silence count that has reached 0: UNREACHABLE, and the command queue emptied. -/
def takeSilenceExpiry (n : Nat) (s : State) : State :=
  if (s.printer n).silence = some 0 then (silenceRunOut n s).setCommands n [] else s

/-- A number of expiries of one kind, each found afresh. -/
def takeTimes (f : State → State) : Nat → State → State
  | 0, s => s
  | k + 1, s => takeTimes f k (f s)

/-- Log entry 4, DESIGN CHOICE: the work a minute event left, taken in the order AU, JT, CU, RU, FT before the next one. R49
orders the jobs, R145 the grace records among themselves and R149 the callouts among themselves. Between the two R149 lets a
grace expiry be taken before or after the escalation of the callout it extends: the model takes every grace expiry left over
first, so that a callout extended here has its fresh deadline when its escalation is looked at. Where a rule names no order, it
takes the period timers in ascending tenant (R26), and the sessions (R70) and the stall counts (R100) that have run out in
ascending printer number. -/
def settleMinuteWork (s : State) : State :=
  (List.range Config.tenants).foldl (fun s n => takeUnderflow n s) s
    |> takeJobExpiry
    |> (fun s => takeTimes takeGraceExpiry s.cu.grace.length s)
    |> (fun s => takeTimes takeEscalation s.owed.escalations.length s)
    |> (fun s => (Table.numbers s.ru.sessions).foldl (fun s n => takeSessionTimeout n s) s)
    |> (fun s => (Table.numbers s.ft.printers).foldl (fun s n => takeStallExpiry n s) s)

/-- Log entry 4, DESIGN CHOICE: silence counts at 0 that a second event left, in ascending printer number; R91 names no order. -/
def settleSilence (s : State) : State :=
  (Table.numbers s.ft.printers).foldl (fun s n => takeSilenceExpiry n s) s

/-! ### The work of a minute event -/

/-- R25: the AU steps every RUNNING timer with the clock set; a step that underflows is owed as an event of its own (R26). -/
def stepTimers (s : State) : State :=
  (List.range Config.tenants).foldl (fun s n =>
    let t := (s.tenant n).timer
    if t.running ∧ s.tb.clock.isSome then
      if t.atUnderflow then { s with owed := { s.owed with timerSteps := s.owed.timerSteps ++ [n] } } else stepTimer n s
    else s) s

/-- R145: a grace record one minute on. -/
def Grace.lower : Grace → Grace
  | .running n => if n ≤ 1 then .expiring else .running (n - 1)
  | g => g

/-- R145: every RUNNING grace record lowered by one. -/
def lowerGrace (s : State) : State :=
  { s with cu := { s.cu with grace := Table.mapAll .idle (fun _ g => g.lower) s.cu.grace } }

/-- R149, step 1: a callout whose deadline is absent is given one, with the clock set. -/
def fillDeadlines (s : State) : State :=
  s.setCallouts (s.cu.callouts.map (fun c => if c.deadline.isNone then { c with deadline := deadlineNow s } else c))

/-- R149: the callouts due to escalate, head to tail, are owed their escalation. -/
def oweEscalations (s : State) : State :=
  { s with owed := { s.owed with
      escalations := (s.cu.callouts.filter (fun c => escalates s c)).map Callout.number } }

/-- R70: the minutes left of every open session lowered by one. -/
def lowerSessions (s : State) : State :=
  { s with ru := { s.ru with
      sessions := Table.mapAll none (fun _ x => x.map (fun x => { x with minutes := x.minutes - 1 })) s.ru.sessions } }

/-- R100: every running stall count lowered by one. -/
def lowerStalls (s : State) : State :=
  { s with ft := { s.ft with
      printers := Table.mapAll Printer.cold (fun _ p => { p with stall := p.stall.map (· - 1) }) s.ft.printers } }

/-- R91: every running silence count of an enrolled printer lowered by one. -/
def lowerSilence (s : State) : State :=
  { s with ft := { s.ft with
      printers := Table.mapAll Printer.cold
        (fun _ p => if p.enrolled then { p with silence := p.silence.map (· - 1) } else p) s.ft.printers } }

/-- R172: a minute event. The work the last one left is taken first; then the clock and the active policy, the AU's timers,
the JT's sweep owed with the clock set, the CU's grace records and deadlines, the RU's sessions, the FT's stall counts. -/
def minuteTick (s : State) : State :=
  let s := settleMinuteWork s
  let s := evaluatePolicy (advanceClock { s with owed := { s.owed with minute := false } })
  let s := lowerGrace (stepTimers s)
  let s := if s.tb.clock.isSome then oweEscalations (fillDeadlines s) else s
  let s := { s with owed := { s.owed with jobExpiry := s.tb.clock.isSome } }
  lowerStalls (lowerSessions s)

/-- The minute event the TB has issued and nobody has taken yet is taken (log entry 4). -/
def settleMinuteEvent (s : State) : State := if s.owed.minute then minuteTick s else s

/-- R171, R172: a second event: the FT lowers the silence counts, the second count advances, and at 60 a minute event is
issued, which MINUTE_EVENT takes. -/
def secondTick (s : State) : State :=
  let s := settleMinuteEvent (settleSilence s)
  let s := lowerSilence s
  if s.tb.second + 1 ≥ 60 then
    { s with tb := { s.tb with second := 0 }, owed := { s.owed with minute := true } }
  else { s with tb := { s.tb with second := s.tb.second + 1 } }

/-- R34: the minute events to the timer's next rollover. -/
def PeriodTimer.minutesLeft (t : PeriodTimer) : Nat :=
  match t.unit with
  | .minutes => t.count
  | .hours => (t.count - 1) * 60 + (60 - t.hourStep)

end Sys2Proof.Machine
end

