-- ==== Sys2Proof/Machine/MasterPorts.lean ====
section
/-! DEFINITION. Master ports (chapter 10): frames arriving, links up and lost, attach and detach, the notice requests,
READ_PORTS, and the malformed request. -/

namespace Sys2Proof.Machine

/-- What every request command answers: the request is taken at its port (R166, R167). -/
def request (h : Head) (r : Request) (owner : State → State × Answer) (s : State) : Host.Outcome State Fault Refusal :=
  .next (takeRequest h r owner s)

/-- R166: a request frame arrives: dropped on its check (step 1), refused BUSY by a full queue (step 2), else queued
(step 3). No frame arrives at a DOWN port (section 10.1) or with main power off. -/
def arrive (p : PortName) (frame : RequestFrame) (s : State) : State :=
  let r := s.port p
  if ¬frame.checkOk ∨ r.state = .down then s
  else if r.queue.length ≥ Config.requestDepth then
    s.send p (.answer frame.carried.tag (kindCode frame.carried.request) (.refused .busy))
  else s.setPort p { r with queue := r.queue ++ [frame.carried] }

/-- REQUEST_FRAME_ARRIVAL (R166). -/
def execRequestFrameArrival (p : PortName) (frame : RequestFrame) (s : State) : Host.Outcome State Fault Refusal :=
  .next (takeEvent (arrive p frame) s)

/-- R164: a link comes up, a DOWN port becomes DETACHED. -/
def linkUp (p : PortName) (s : State) : State :=
  let r := s.port p
  if r.state = .down then s.setPort p { r with state := .detached } else s

/-- PORT_LINK_UP (R164). With main power off the port's link is noted all the same: the next reset reads it (R163). -/
def execPortLinkUp (p : PortName) (s : State) : Host.Outcome State Fault Refusal :=
  .next (if s.phase = .off then linkUp p { s with out := [] } else linkUp p s.begin)

/-- R165, steps 2 to 4: what a tenant port's leaving ATTACHED does; port F's touches no tenant's jobs. -/
def leaveAttached (p : PortName) (s : State) : State :=
  match p.tenant with
  | some n => raise .f .tenant (detachRequeue n (withdrawOffers n s))
  | none => s

/-- R165: a link is lost: the port DOWN, its queued requests discarded, with the effects of leaving ATTACHED if it was. -/
def linkLoss (p : PortName) (s : State) : State :=
  let r := s.port p
  let s := s.setPort p { r with state := .down, queue := [] }
  if r.state = .attached then leaveAttached p s else s

/-- PORT_LINK_LOSS (R165). With main power off only the port's link is noted. -/
def execPortLinkLoss (p : PortName) (s : State) : Host.Outcome State Fault Refusal :=
  .next (if s.phase = .off then ({ s with out := [] }).setPort p { s.port p with state := .down, queue := [] }
    else linkLoss p s.begin)

/-- R164: whether ATTACH is refused NOT_ASSIGNED: a tenant port whose tenant's window is unassigned. -/
def unassigned (p : PortName) (s : State) : Bool := p.tenant.any (fun n => (s.tenant n).window.isNone)

/-- R164: ATTACH. -/
def attachPort (p : PortName) (s : State) : State × Answer :=
  let r := s.port p
  if r.state = .attached then refuse .badState s
  else if unassigned p s then refuse .notAssigned s
  else
    let s := sendNotice p (r.flags &&& r.mask) (s.setPort p { r with state := .attached })
    accept (.attached Config.partFamilyCode Config.partRevision p) (if p.isTenant then raise .f .tenant s else s)

/-- ATTACH (R164). -/
def execAttach (h : Head) (s : State) : Host.Outcome State Fault Refusal :=
  request h .attach (attachPort h.port) s

/-- R165: DETACH on an ATTACHED port; on a DETACHED one the MPC has refused it NOT_ATTACHED. -/
def detachPort (p : PortName) (s : State) : State × Answer :=
  accept .none (leaveAttached p (s.setPort p { s.port p with state := .detached }))

/-- DETACH (R165). -/
def execDetach (h : Head) (s : State) : Host.Outcome State Fault Refusal :=
  request h .detach (detachPort h.port) s

/-- Section 12.2, R179: the bits of a notice-kind set that carry a meaning. -/
def noticeBits : NoticeSet := 0x03FF#16

/-- R169: whether a set names a kind that is not the port's. -/
def namesForeign (p : PortName) (kinds : NoticeSet) : Bool := kinds &&& noticeBits &&& ~~~(portKinds p) != 0

/-- R169: SET_NOTICE_MASK. -/
def setMask (p : PortName) (kinds : NoticeSet) (s : State) : State × Answer :=
  if namesForeign p kinds then refuse .outOfRange s
  else
    let r := s.port p
    let mask := kinds &&& noticeBits
    accept (.notices mask r.flags) (sendNotice p (mask &&& ~~~r.mask &&& r.flags) (s.setPort p { r with mask := mask }))

/-- SET_NOTICE_MASK (R169). -/
def execSetNoticeMask (h : Head) (kinds : NoticeSet) (s : State) : Host.Outcome State Fault Refusal :=
  request h (.setNoticeMask kinds) (setMask h.port kinds) s

/-- R169: ACK_NOTICE. -/
def ackFlags (p : PortName) (kinds : NoticeSet) (s : State) : State × Answer :=
  if namesForeign p kinds then refuse .outOfRange s
  else
    let r := s.port p
    let flags := r.flags &&& ~~~(kinds &&& noticeBits)
    accept (.flags flags) (s.setPort p { r with flags := flags })

/-- ACK_NOTICE (R169). -/
def execAckNotice (h : Head) (kinds : NoticeSet) (s : State) : Host.Outcome State Fault Refusal :=
  request h (.ackNotice kinds) (ackFlags h.port kinds) s

/-- READ_NOTICES (R169). -/
def execReadNotices (h : Head) (s : State) : Host.Outcome State Fault Refusal :=
  request h .readNotices (fun s => accept (.notices (s.port h.port).mask (s.port h.port).flags) s) s

/-- R170: what READ_PORTS shows of a port. -/
def portView (s : State) (p : PortName) : PortView :=
  let r := s.port p
  ⟨r.state, r.queue.length, r.flags, r.mask⟩

/-- READ_PORTS (R170); the request being answered still stands in F's queue (log entry 19). R170 names no order of the five
ports and no port name among a port's fields; the model answers T0, T1, T2, T3, F (log entry 33, DESIGN CHOICE). -/
def execReadPorts (h : Head) (s : State) : Host.Outcome State Fault Refusal :=
  request h .readPorts (fun s => accept (.ports (PortName.all.map (portView s))) s) s

/-- MALFORMED_REQUEST (R167, R179): the request at the head whose kind code is no request code is refused MALFORMED. -/
def execMalformedRequest (h : Head) (kind : Nat) (s : State) : Host.Outcome State Fault Refusal :=
  request h (.unknown kind) (refuse .malformed) s

end Sys2Proof.Machine
end

