-- ==== Sys2Proof/Machine/Accounts.lean ====
section
/-! DEFINITION. Account and tenant requests (chapter 1). -/

namespace Sys2Proof.Machine

/-- Whether a state is ACTIVE or SUSPENDED (R4, step 3). -/
def anyOpen (_ : AccountState) : Bool := true

/-- R4: the range of an allowance, an overdraft limit or a carry-over cap. -/
def pagesOk (n : Nat) : Bool := inRange 0 65535 n

/-- R5, R7: the range of a badge number. -/
def badgeOk (b : Nat) : Bool := inRange 1 4294967295 b

/-- R8: another account than i holds the badge number; a FREE record never does. -/
def badgeHeldByOther (s : State) (i b : Nat) : Bool :=
  s.au.accounts.any (fun e => e.1 != i && e.2.state != .free && e.2.badge == some b)

/-- R8: the account that holds a badge number. -/
def accountOfBadge (s : State) (b : Nat) : Option Nat :=
  (s.au.accounts.find? (fun e => e.2.state ≠ .free ∧ e.2.badge = some b)).map Prod.fst

/-- R5: the limits of OPEN_ACCOUNT in range. -/
def limitsOk (l : Limits) : Bool := pagesOk l.allowance && pagesOk l.overdraft && pagesOk l.carryCap

/-- R5: the record OPEN_ACCOUNT makes of a FREE one. -/
def openedAccount (badge : Option Nat) (limits : PerClass Limits) : Account :=
  { Account.free with
    state := .active
    badge := badge
    allowance := limits.map Limits.allowance
    balance := limits.map (fun l => (l.allowance : Int))
    overdraft := limits.map Limits.overdraft
    carryCap := limits.map Limits.carryCap }

/-- R5: OPEN_ACCOUNT. -/
def openAccount (p : PortName) (i : Nat) (badge : Option Nat) (limits : PerClass Limits) (s : State) : State × Answer :=
  match accountReach p i (limits.all limitsOk && badge.all badgeOk) s with
  | some c => refuse c s
  | none =>
    if (s.account i).state ≠ .free then refuse .badState s
    else if badge.any (badgeHeldByOther s i) then refuse .badgeInUse s
    else accept (.index i) (s.setAccount i (openedAccount badge limits))

/-- OPEN_ACCOUNT (R5). -/
def execOpenAccount (h : Head) (index : Nat) (badge : Option Nat) (limits : PerClass Limits) (s : State) :
    Host.Outcome State Fault Refusal :=
  request h (.openAccount index badge limits) (openAccount h.port index badge limits) s

/-- R6: the optional limits in range. -/
def changesOk (l : LimitChanges) : Bool :=
  l.allowance.all pagesOk && l.overdraft.all pagesOk && l.carryCap.all pagesOk

/-- R6: the record SET_ACCOUNT leaves: each field present replaces the stored value. -/
def changedAccount (a : Account) (c : PerClass LimitChanges) : Account :=
  { a with
    allowance := PerClass.zip (fun old new => new.allowance.getD old) a.allowance c
    overdraft := PerClass.zip (fun old new => new.overdraft.getD old) a.overdraft c
    carryCap := PerClass.zip (fun old new => new.carryCap.getD old) a.carryCap c }

/-- SET_ACCOUNT (R6). -/
def execSetAccount (h : Head) (index : Nat) (changes : PerClass LimitChanges) (s : State) :
    Host.Outcome State Fault Refusal :=
  request h (.setAccount index changes) (fun s =>
    onAccount h.port index (changes.all changesOk) anyOpen (fun a =>
      let a := changedAccount a changes
      accept (.limits a.allowance a.overdraft a.carryCap) (s.setAccount index a)) s) s

/-- SET_BADGE (R7). -/
def execSetBadge (h : Head) (index badge : Nat) (s : State) : Host.Outcome State Fault Refusal :=
  request h (.setBadge index badge) (fun s =>
    onAccount h.port index (badgeOk badge) anyOpen (fun a =>
      if badgeHeldByOther s index badge then refuse .badgeInUse s
      else accept .none (s.setAccount index { a with badge := some badge })) s) s

/-- CLEAR_BADGE (R7). -/
def execClearBadge (h : Head) (index : Nat) (s : State) : Host.Outcome State Fault Refusal :=
  request h (.clearBadge index) (fun s =>
    onAccount h.port index true anyOpen (fun a =>
      accept .none (s.setAccount index { a with badge := none })) s) s

/-- SUSPEND_ACCOUNT (R9): the account's open session is closed with reason ACCOUNT (R72). -/
def execSuspendAccount (h : Head) (index : Nat) (s : State) : Host.Outcome State Fault Refusal :=
  request h (.suspendAccount index) (fun s =>
    onAccount h.port index true (· == .active) (fun a =>
      accept .none (closeAccountSession index (s.setAccount index { a with state := .suspended }))) s) s

/-- RESUME_ACCOUNT (R9). -/
def execResumeAccount (h : Head) (index : Nat) (s : State) : Host.Outcome State Fault Refusal :=
  request h (.resumeAccount index) (fun s =>
    onAccount h.port index true (· == .suspended) (fun a =>
      accept .none (s.setAccount index { a with state := .active })) s) s

/-- R10: some job entry names the account as owner. -/
def namedByJob (s : State) (i : Nat) : Bool := s.jt.jobs.any (fun e => e.2.state != .free && e.2.owner == i)

/-- CLOSE_ACCOUNT (R10): the session closed with reason ACCOUNT, then every field at its reset value. -/
def execCloseAccount (h : Head) (index : Nat) (s : State) : Host.Outcome State Fault Refusal :=
  request h (.closeAccount index) (fun s =>
    onAccount h.port index true anyOpen (fun a =>
      if a.liveJobs > 0 ∨ namedByJob s index then refuse .badState s
      else accept .none ((closeAccountSession index s).setAccount index Account.free)) s) s

/-- R11: the range of a delta. -/
def deltaOk (d : Int) : Bool := decide (-65535 ≤ d) && decide (d ≤ 65535)

/-- ADJUST_BALANCE (R11). -/
def execAdjustBalance (h : Head) (index : Nat) (cls : PageClass) (delta : Int) (s : State) :
    Host.Outcome State Fault Refusal :=
  request h (.adjustBalance index cls delta) (fun s =>
    onAccount h.port index (deltaOk delta) anyOpen (fun a =>
      let b := clamp Config.balanceMin Config.balanceMax (a.balance.get cls + delta)
      accept (.balance b) (s.setAccount index { a with balance := a.balance.set cls b })) s) s

/-- READ_ACCOUNT (R12). -/
def execReadAccount (h : Head) (index : Nat) (s : State) : Host.Outcome State Fault Refusal :=
  request h (.readAccount index) (fun s =>
    match accountReach h.port index true s with
    | some c => refuse c s
    | none => accept (.account (s.account index)) s) s

/-- R12: the owning tenant's period number; absent for a FREE index. -/
def periodOfAccount (s : State) (i : Nat) : Option Nat :=
  if (s.account i).state = .free then none else (owningTenant s i).map (fun n => (s.tenant n).period)

/-- READ_CLOSING (R12). -/
def execReadClosing (h : Head) (index : Nat) (s : State) : Host.Outcome State Fault Refusal :=
  request h (.readClosing index) (fun s =>
    match accountReach h.port index true s with
    | some c => refuse c s
    | none =>
      accept (.closing (s.account index).closingUsed (s.account index).closingBalance (periodOfAccount s index)) s) s

/-- R17: what READ_TENANT shows. -/
def tenantView (s : State) (n : Nat) : TenantView :=
  let t := s.tenant n
  ⟨t.window, t.share, entriesInUse s n, t.groups, t.ceiling, t.used, t.reserved, s.tb.active, t.period⟩

/-- READ_TENANT (R17). -/
def execReadTenant (h : Head) (tenant : Nat) (s : State) : Host.Outcome State Fault Refusal :=
  request h (.readTenant tenant) (fun s => onTenant h.port tenant (fun n => accept (.tenant (tenantView s n)) s) s) s

/-- R15, step 1: the window's ends. -/
def windowOk (w : Window) : Bool := decide (w.base ≤ w.limit) && decide (w.limit < Config.accounts)

/-- R15, step 4: two windows share an index. -/
def windowsMeet (a b : Window) : Bool := a.base ≤ b.limit && b.base ≤ a.limit

/-- The tenants other than n. -/
def otherTenants (n : Nat) : List Nat := (List.range Config.tenants).filter (· ≠ n)

/-- R15, step 4: the new window meets the window of another tenant. -/
def overlapsOther (s : State) (n : Nat) (w : Option Window) : Bool :=
  (otherTenants n).any (fun m =>
    match w, (s.tenant m).window with
    | some a, some b => windowsMeet a b
    | _, _ => false)

/-- R15, step 5: every non-FREE account of the present window lies inside the new one. -/
def keepsAccounts (s : State) (n : Nat) (w : Option Window) : Bool :=
  s.au.accounts.all (fun e => e.2.state == .free || !(s.tenant n).owns e.1 || w.any (fun w => windowHolds w e.1))

/-- R15, step 6: the shares of the other three tenants. -/
def otherShares (s : State) (n : Nat) : Nat := ((otherTenants n).map (fun m => (s.tenant m).share)).sum

/-- R15: the checks of ASSIGN_TENANT, in order. -/
def assignCheck (s : State) (n : Nat) (w : Option Window) (share : Nat) : Option RefusalCode :=
  if ¬(n < Config.tenants ∧ w.all windowOk ∧ share ≤ 256) then some .outOfRange
  else if s.attached (PortName.ofTenant n) then some .badState
  else if entriesInUse s n ≠ 0 then some .badState
  else if overlapsOther s n w then some .overlap
  else if ¬keepsAccounts s n w then some .badState
  else if share + otherShares s n > 256 then some .outOfRange
  else none

/-- ASSIGN_TENANT (R15). -/
def execAssignTenant (h : Head) (tenant : Nat) (window : Option Window) (share : Nat) (groups : GroupSet) (s : State) :
    Host.Outcome State Fault Refusal :=
  request h (.assignTenant tenant window share groups) (fun s =>
    match assignCheck s tenant window share with
    | some c => refuse c s
    | none =>
      accept .none (s.setTenant tenant { s.tenant tenant with window := window, share := share, groups := groups })) s

/-- SET_CEILING (R16); an absent ceiling is UNLIMITED. -/
def execSetCeiling (h : Head) (tenant : Nat) (cls : PageClass) (ceiling : Option Nat) (s : State) :
    Host.Outcome State Fault Refusal :=
  request h (.setCeiling tenant cls ceiling) (fun s =>
    if ¬(tenant < Config.tenants ∧ ceiling.all (inRange 1 16777215)) then refuse .outOfRange s
    else
      let t := s.tenant tenant
      accept .none (s.setTenant tenant { t with ceiling := t.ceiling.set cls ceiling })) s

end Sys2Proof.Machine
end

