-- ==== Sys2Proof/Machine/Periods.lean ====
section
/-! DEFINITION. Period and policy requests (chapter 2). -/

namespace Sys2Proof.Machine

/-- CLOSE_PERIOD (R29): a rollover, and then a full count. -/
def execClosePeriod (h : Head) (s : State) : Host.Outcome State Fault Refusal :=
  request h .closePeriod (fun s => asTenant h.port (fun n =>
    let s := reloadTimer n (rollover n s)
    accept (.period (s.tenant n).period) s) s) s

/-- R36: the policy SET_POLICY leaves: each field present replaces the stored value. -/
def changedPolicy (p : Policy) (c : PolicyChanges) : Policy where
  colourAllowed := c.colourAllowed.getD p.colourAllowed
  maxPages := c.maxPages.getD p.maxPages
  holdTime := c.holdTime.getD p.holdTime
  overdraftAllowed := c.overdraftAllowed.getD p.overdraftAllowed

/-- A tenant's policy of a name. -/
def Tenant.policy (t : Tenant) : PolicyName → Policy
  | .day => t.day
  | .afterHours => t.afterHours

/-- A tenant's policy of a name replaced. -/
def Tenant.setPolicy (t : Tenant) (n : PolicyName) (p : Policy) : Tenant :=
  match n with
  | .day => { t with day := p }
  | .afterHours => { t with afterHours := p }

/-- SET_POLICY (R36). -/
def execSetPolicy (h : Head) (policy : PolicyName) (changes : PolicyChanges) (s : State) :
    Host.Outcome State Fault Refusal :=
  request h (.setPolicy policy changes) (fun s => asTenant h.port (fun n =>
    if ¬(changes.maxPages.all (inRange 1 9999) ∧ changes.holdTime.all (inRange 1 10080)) then refuse .outOfRange s
    else
      let t := s.tenant n
      let p := changedPolicy (t.policy policy) changes
      accept (.policy p) (s.setTenant n (t.setPolicy policy p))) s) s

/-- R34: what READ_PERIOD shows. -/
def periodView (s : State) (n : Nat) : PeriodView :=
  let t := s.tenant n
  ⟨t.timer, t.timer.running && s.tb.clock.isSome, t.timer.minutesLeft, t.period⟩

/-- READ_PERIOD (R34). -/
def execReadPeriod (h : Head) (tenant : Nat) (s : State) : Host.Outcome State Fault Refusal :=
  request h (.readPeriod tenant) (fun s => onTenant h.port tenant (fun n => accept (.periodView (periodView s n)) s) s) s

/-- READ_POLICY (R39). -/
def execReadPolicy (h : Head) (tenant : Nat) (s : State) : Host.Outcome State Fault Refusal :=
  request h (.readPolicy tenant) (fun s => onTenant h.port tenant (fun n =>
    accept (.policies (s.tenant n).day (s.tenant n).afterHours s.tb.active) s) s) s

/-- SET_PERIOD_TIMER (R27): the state is kept, no rollover is made. -/
def execSetPeriodTimer (h : Head) (tenant : Nat) (unit : TimerUnit) (length : Nat) (s : State) :
    Host.Outcome State Fault Refusal :=
  request h (.setPeriodTimer tenant unit length) (fun s =>
    if ¬(tenant < Config.tenants ∧ inRange 1 65535 length) then refuse .outOfRange s
    else
      let t := s.tenant tenant
      let timer : PeriodTimer := ⟨unit, length, length, 0, t.timer.running⟩
      accept (.timer timer) (s.setTenant tenant { t with timer := timer })) s

/-- R28: START_TIMER and STOP_TIMER: the state changed, the count and hour step kept. -/
def switchTimer (tenant : Nat) (run : Bool) (s : State) : State × Answer :=
  if ¬(tenant < Config.tenants) then refuse .outOfRange s
  else
    let t := s.tenant tenant
    if t.timer.running = run then refuse .badState s
    else accept .none (s.setTenant tenant { t with timer := { t.timer with running := run } })

/-- START_TIMER (R28). -/
def execStartTimer (h : Head) (tenant : Nat) (s : State) : Host.Outcome State Fault Refusal :=
  request h (.startTimer tenant) (switchTimer tenant true) s

/-- STOP_TIMER (R28). -/
def execStopTimer (h : Head) (tenant : Nat) (s : State) : Host.Outcome State Fault Refusal :=
  request h (.stopTimer tenant) (switchTimer tenant false) s

end Sys2Proof.Machine
end

