-- ==== Sys2Proof/Machine/Jobs.lean ====
section
/-! DEFINITION. Job requests (chapter 3). -/

namespace Sys2Proof.Machine

/-- R45, step 1: the fields of a SUBMIT in range. -/
def submissionOk (j : Submission) : Bool :=
  j.owner < Config.accounts && j.pages.mono ≤ Config.pagesMax && j.pages.colour ≤ Config.pagesMax &&
  (j.pages.mono > 0 || j.pages.colour > 0) && j.kClass ≤ 7 &&
  (if j.pages.colour > 0 then j.colourClass.any (· ≤ 7) else j.colourClass.isNone)

/-- R46, step 4: the stored group set. -/
def storedGroups (s : State) (n : Nat) (j : Submission) : GroupSet := j.groups &&& (s.tenant n).groups

/-- R45: the checks of a SUBMIT from tenant n, in order. -/
def submitCheck (s : State) (n : Nat) (j : Submission) : Option RefusalCode :=
  if ¬submissionOk j then some .outOfRange
  else if s.tb.clock = none then some .clockNotSet
  else if ¬(s.tenant n).owns j.owner then some .outOfWindow
  else if (s.account j.owner).state = .free then some .noSuchAccount
  else if (s.account j.owner).state ≠ .active then some .badState
  else if storedGroups s n j = 0 then some .noGroup
  else if (s.account j.owner).liveJobs ≥ Config.accountJobs then some .accountLimit
  else if entriesInUse s n ≥ (s.tenant n).share then some .shareFull
  else if lowestFree s = none then some .tableFull
  else none

/-- R46, steps 1 to 6: the entry a SUBMIT fills, from the generation the FREE entry had. -/
def submittedJob (s : State) (n : Nat) (j : Submission) (old : Job) (now : Time) : Job :=
  { Job.freeAt ((old.generation + 1) % 256) with
    state := .held
    tenant := n
    owner := j.owner
    label := j.label
    pages := j.pages
    kClass := j.kClass
    colourClass := j.colourClass
    groups := storedGroups s n j
    submitted := now
    expiry := timePlus now (activePolicy s n).holdTime }

/-- R46: an accepted SUBMIT takes the FREE entry with the lowest index. -/
def takeSubmission (n : Nat) (j : Submission) (s : State) : State × Answer :=
  match lowestFree s, s.now with
  | some i, some t =>
    let e := submittedJob s n j (s.job i) t
    accept (.submitted ⟨i, e.generation⟩ e.groups e.submitted e.expiry) (raiseLive j.owner (s.setJob i e))
  | _, _ => refuse .tableFull s

/-- SUBMIT (R45, R46). -/
def execSubmit (h : Head) (job : Submission) (s : State) : Host.Outcome State Fault Refusal :=
  request h (.submit job) (fun s => asTenant h.port (fun n =>
    match submitCheck s n job with
    | some c => refuse c s
    | none => takeSubmission n job s) s) s

/-- R53: CANCEL of a QUEUED job. -/
def cancelQueued (n : Nat) (h : Handle) (s : State) : State :=
  let j := s.job h.index
  leaveQueue n h s |> returnReservation j |> returnNeeds n j |> enterFinal h.index .cancelled .cancelledByTenant |> afterEnd n

/-- R54: CANCEL of an ACTIVE job. -/
def cancelActive (n : Nat) (h : Handle) (s : State) : State :=
  let j := s.job h.index
  issue n (.abort (j.grant.getD 0)) (s.setJob h.index { j with state := .cancelling })

/-- R52 to R54: CANCEL of the job a handle names. -/
def cancelJob (h : Handle) (j : Job) (s : State) : State × Answer :=
  match j.state with
  | .held => accept (.jobState .cancelled) (enterFinal h.index .cancelled .cancelledByTenant s)
  | .queued => accept (.jobState .cancelled) (cancelQueued (j.printer.getD 0) h s)
  | .active => accept (.jobState .cancelling) (cancelActive (j.printer.getD 0) h s)
  | .cancelling | .done | .cancelled | .expired | .failed | .free => refuse .badState s

/-- CANCEL (R52). -/
def execCancel (h : Head) (job : Handle) (s : State) : Host.Outcome State Fault Refusal :=
  request h (.cancel job) (fun s => onJob h.port job (fun j => cancelJob job j s) s) s

/-- R57: what LIST_FINISHED shows of a job. -/
def finishedView (s : State) (h : Handle) : FinishedView :=
  let j := s.job h.index
  ⟨h, j.owner, j.label, j.endReason, j.finished⟩

/-- LIST_FINISHED (R57). -/
def execListFinished (h : Head) (s : State) : Host.Outcome State Fault Refusal :=
  request h .listFinished (fun s => asTenant h.port (fun n =>
    let l := s.finishedList n
    accept (.finished l.length ((l.take Config.listLength).map (finishedView s))) s) s) s

/-- COLLECT (R58). -/
def execCollect (h : Head) (job : Handle) (s : State) : Host.Outcome State Fault Refusal :=
  request h (.collect job) (fun s => onJob h.port job (fun j =>
    if j.state.final then accept (.collected j.endReason j.done) (freeEntry job.index s) else refuse .badState s) s) s

/-- R59: every field of the entry except the tenant. -/
def jobView (j : Job) : JobView :=
  ⟨j.state, j.generation, j.owner, j.label, j.pages, j.kClass, j.colourClass, j.groups, j.submitted, j.expiry,
    j.printer, j.grant, j.reservation, j.needs, j.done, j.doneAtRelease, j.interrupts, j.endReason, j.finished⟩

/-- READ_JOB (R59). -/
def execReadJob (h : Head) (job : Handle) (s : State) : Host.Outcome State Fault Refusal :=
  request h (.readJob job) (fun s => onJob h.port job (fun j => accept (.job (jobView j)) s) s) s

/-- R60: tenant n's ACTIVE job at a printer. -/
def activeAt (s : State) (n p : Nat) : List ActiveView :=
  (s.printer p).queue.filterMap (fun h =>
    let j := s.job h.index
    if j.state = .active ∧ j.tenant = n then some ⟨h, j.label, p, j.grant, j.pages⟩ else none)

/-- LIST_ACTIVE (R60). -/
def execListActive (h : Head) (s : State) : Host.Outcome State Fault Refusal :=
  request h .listActive (fun s => asTenant h.port (fun n =>
    accept (.active ((Table.numbers s.ft.printers).flatMap (activeAt s n))) s) s) s

end Sys2Proof.Machine
end

