-- ==== Sys2Proof/Machine/Release.lean ====
section
/-! DEFINITION. Release at the panel (chapter 4): badges, offers, selections, releases and session ends. -/

namespace Sys2Proof.Machine

/-- SET_PANEL_TIMEOUT (R62). -/
def execSetPanelTimeout (h : Head) (minutes : Nat) (s : State) : Host.Outcome State Fault Refusal :=
  request h (.setPanelTimeout minutes) (fun s =>
    if ¬inRange 1 15 minutes then refuse .outOfRange s
    else accept (.panelTimeout minutes) { s with ru := { s.ru with panelTimeout := minutes } }) s

/-! ### Badges -/

/-- R63: the first test a presentation fails, or the account whose session may be opened. -/
def badgeTest (s : State) (n b : Nat) : Except PanelResult Nat :=
  if ¬((s.printer n).enrolled ∧ (s.printer n).admin = .inService) then .error .printerUnavailable
  else
    match accountOfBadge s b with
    | none => .error .unknownBadge
    | some i => if (s.account i).state = .active then .ok i else .error .accountSuspended

/-- R64: the sessions in the way are closed: the account's at another printer with REPLACED, the one at this printer with
no command. -/
def clearTheWay (n account : Nat) (s : State) : State :=
  endSession n ((sessionsOf s account).foldl (fun s m => if m = n then s else closeSession m .replaced s) s)

/-- R65: whether a job entry is offered to an account at a printer. -/
def offered (s : State) (n account : Nat) (j : Job) : Bool :=
  let p := s.printer n
  j.state == .held && j.owner == account && j.groups.getLsbD p.group && s.attached (PortName.ofTenant j.tenant) &&
    (j.pages.colour == 0 || (p.colour && (activePolicy s j.tenant).colourAllowed))

/-- R65: an entry put in submit order, behind those of the same submit time (which have lower indices). -/
def insertBySubmit (e : Nat × Job) : List (Nat × Job) → List (Nat × Job)
  | [] => [e]
  | x :: l =>
    if timeMinutes e.2.submitted < timeMinutes x.2.submitted then e :: x :: l else x :: insertBySubmit e l

/-- R65: entries in ascending index put in submit order. -/
def bySubmit (l : List (Nat × Job)) : List (Nat × Job) := l.foldl (fun acc e => insertBySubmit e acc) []

/-- R65: the offer list built now, oldest submission first. -/
def offerList (s : State) (n account : Nat) : List Handle :=
  (bySubmit (s.jt.jobs.filter (fun e => offered s n account e.2))).map (fun e => ⟨e.1, e.2.generation⟩)

/-- R66: what OFFER shows of a job. -/
def offeredJob (s : State) (h : Handle) : OfferedJob := ⟨h, (s.job h.index).label, (s.job h.index).pages⟩

/-- R65, R66: a session is opened at a printer for an account, and OFFER issued. -/
def openSession (n account : Nat) (s : State) : State :=
  let offers := offerList s n account
  let tenant := (owningTenant s account).getD 0
  issue n (.offer (offers.map (offeredJob s)))
    (s.setSession n (some ⟨account, tenant, offers, [], s.ru.panelTimeout⟩))

/-- R63 to R66: a badge presented at a printer. -/
def takeBadge (n b : Nat) (s : State) : State :=
  match badgeTest s n b with
  | .error r => issue n (.panelResult (some r) []) s
  | .ok i => openSession n i (clearTheWay n i s)

/-- R180: a badge number fits its field. -/
def badgeFits (b : Nat) : Bool := b ≤ 4294967295

/-- BADGE (R63 to R66). -/
def execBadge (l : LinkFrame) (number : Nat) (s : State) : Host.Outcome State Fault Refusal :=
  .next (takeReport l .badge (badgeFits number) (takeBadge l.address number) s)

/-! ### The nine checks of a selection -/

/-- R75: a used class is blocked by SUPPLY_OUT. -/
def classUnavailable (p : Printer) (j : Job) : Bool := p.supplyBlocks j.pages

/-- R76: the job's remaining pages exceed the policy, or need colour it does not allow. -/
def policyForbids (p : Policy) (j : Job) : Bool :=
  j.pages.mono + j.pages.colour > p.maxPages || (j.pages.colour > 0 && !p.colourAllowed)

/-- R77: the lanes a job uses: K, and C, M and Y when it has COLOUR pages left. -/
def lanesUsed (j : Job) : List Lane := if j.pages.colour > 0 then Lane.all else [.k]

/-- R77: the need in a lane exceeds the effective level less the committed need. -/
def laneShort (s : State) (n : Nat) (j : Job) (l : Lane) : Bool :=
  match s.lane n l with
  | none => false
  | some x =>
    decide ((laneNeed s n l j : Int) > (effectiveLevel x (s.ctype x.type).capacity : Int) - (x.committed : Int))

/-- R78: a used class would pass the tenant's ceiling. -/
def overCeiling (t : Tenant) (j : Job) (c : PageClass) : Bool :=
  j.pages.get c > 0 && (t.ceiling.get c).any (fun m => t.used.get c + t.reserved.get c + j.pages.get c > m)

/-- R78: a used class would pass the account's balance. -/
def overQuota (a : Account) (p : Policy) (j : Job) (c : PageClass) : Bool :=
  j.pages.get c > 0 &&
    decide (a.balance.get c - (a.reserved.get c : Int) + (if p.overdraftAllowed then (a.overdraft.get c : Int) else 0)
      < (j.pages.get c : Int))

/-- R74: the first two checks, on the session's lists and the tenant's port; none when the job is still on offer. -/
def offerCheck (s : State) (x : Session) (h : Handle) : Option PanelResult :=
  if ¬(h ∈ x.offers ∨ h ∈ x.withdrawn) then some .stale
  else if h ∈ x.withdrawn ∨ ¬s.attached (PortName.ofTenant (s.job h.index).tenant) then some .gatewayAway
  else none

/-- R74 to R78: the checks 3 to 9, on the printer, the policy, the queue, the lanes, the tenant and the account. -/
def releaseCheck (s : State) (n : Nat) (j : Job) : Option PanelResult :=
  let p := s.printer n
  let policy := activePolicy s j.tenant
  if p.admin ≠ .inService ∨ p.blocked then some .printerUnavailable
  else if classUnavailable p j then some .classUnavailable
  else if policyForbids policy j then some .policyLimit
  else if p.queue.length ≥ Config.dispatchDepth then some .printerBusy
  else if (lanesUsed j).any (laneShort s n j) then some .insufficientSupply
  else if overCeiling (s.tenant j.tenant) j .mono ∨ overCeiling (s.tenant j.tenant) j .colour then some .tenantCeiling
  else if overQuota (s.account j.owner) policy j .mono ∨ overQuota (s.account j.owner) policy j .colour then some .quota
  else none

/-- R74 to R78: the first of the nine checks a job fails; none when it passes them all. -/
def selectCheck (s : State) (n : Nat) (x : Session) (h : Handle) : Option PanelResult :=
  match offerCheck s x h with
  | some r => some r
  | none => releaseCheck s n (s.job h.index)

/-! ### Release -/

/-- R79, step 4: the entry of a job released at printer n with a grant and needs. -/
def releasedJob (j : Job) (n grant : Nat) (needs : PerLane Nat) : Job :=
  { j with
    state := .queued
    printer := some n
    grant := some grant
    reservation := some j.pages
    needs := some needs
    doneAtRelease := j.done }

/-- R94: a job joins the tail of a printer's dispatch queue. -/
def joinQueue (n : Nat) (h : Handle) (s : State) : State :=
  let p := s.printer n
  s.setPrinter n { p with queue := p.queue ++ [h] }

/-- R79: a job that passed the nine checks is released at printer n. -/
def release (n : Nat) (h : Handle) (s : State) : State :=
  let j := s.job h.index
  let needs := jobNeeds s n j
  let grant := s.ru.grantCounter
  let s := addNeeds n needs (reserveBoth j.owner j.pages s)
  let s := { s with ru := { s.ru with grantCounter := nextNumber grant } }
  let s := s.setJob h.index (releasedJob j n grant needs)
  promotionCheck n (joinQueue n h (removeFromLists h s))

/-- R74 to R79: one job of a SELECT is checked and, if it passes, released; with its result. -/
def takeChoice (n : Nat) (h : Handle) (s : State) : State × JobResult :=
  match s.session n with
  | none => (s, ⟨h, .stale, none⟩)
  | some x =>
    match selectCheck s n x h with
    | some r => (s, ⟨h, r, none⟩)
    | none => (release n h s, ⟨h, .ok, some s.ru.grantCounter⟩)

/-- The jobs of a SELECT taken in order, each seeing what was done for those before it. -/
def takeChoices (n : Nat) : List Handle → State → State × List JobResult
  | [], s => (s, [])
  | h :: rest, s =>
    let x := takeChoice n h s
    let y := takeChoices n rest x.1
    (y.1, x.2 :: y.2)

/-- R73: the answer to a SELECT with no session: STALE for every handle, nothing for ALL. -/
def staleResults : Choice → List JobResult
  | .all => []
  | .handles hs => hs.map (fun h => ⟨h, .stale, none⟩)

/-- Section 4.5: the jobs a SELECT takes from a session. -/
def chosen (x : Session) : Choice → List Handle
  | .all => x.offers
  | .handles hs => hs

/-- R73 to R80: a SELECT at a printer. -/
def takeSelect (n : Nat) (choice : Choice) (s : State) : State :=
  match s.session n with
  | none => issue n (.panelResult none (staleResults choice)) s
  | some x =>
    let y := takeChoices n (chosen x choice) s
    endSession n (issue n (.panelResult none y.2) y.1)

/-- R180: a handle's fields fit. -/
def handleFits (h : Handle) : Bool := h.index ≤ 255 && h.generation ≤ 255

/-- R180: a SELECT's count and handles. -/
def choiceOk : Choice → Bool
  | .all => true
  | .handles hs => inRange 1 8 hs.length && hs.all handleFits

/-- SELECT (R73 to R80). -/
def execSelect (l : LinkFrame) (choice : Choice) (s : State) : Host.Outcome State Fault Refusal :=
  .next (takeReport l .select (choiceOk choice) (takeSelect l.address choice) s)

/-- SESSION_END (R71): the session at the printer is closed; none open, nothing changes. -/
def execSessionEnd (l : LinkFrame) (s : State) : Host.Outcome State Fault Refusal :=
  .next (takeReport l .sessionEnd true (endSession l.address) s)

end Sys2Proof.Machine
end

