-- ==== Sys2Proof/Machine/Fleet.lean ====
section
/-! DEFINITION. Fleet requests and the reports the Fleet Table takes (chapter 5). -/

namespace Sys2Proof.Machine

/-! ### Enrolment -/

/-- R84: a lane's type fits the enrolment: given and in range for a lane the printer has, not given for another. -/
def typeGiven (colour : Bool) (l : Lane) (t : Option Nat) : Bool :=
  if l = .k ∨ colour then t.any (· < Config.types) else t.isNone

/-- R84: the fields of ENROL in range. -/
def enrolmentOk (e : Enrolment) : Bool :=
  e.floor ≤ 99 && e.group ≤ 15 && Lane.all.all (fun l => typeGiven e.colour l (e.types.get l))

/-- R84: the record of a newly enrolled printer. -/
def enrolledPrinter (e : Enrolment) : Printer :=
  { Printer.cold with
    enrolled := true
    floor := e.floor
    group := e.group
    colour := e.colour
    laneTypes := e.types
    silence := some 90 }

/-- R84, R107: a lane record is set up for each lane with a type. -/
def makeLanes (n : Nat) (e : Enrolment) (s : State) : State :=
  Lane.all.foldl (fun s l => match e.types.get l with | some t => makeLane n l t s | none => s) s

/-- R84, R157: a number that is not enrolled becomes a managed printer, its stray entry gone. Its grace records are IDLE as
R142 asks: the resets and UNENROLL leave them so. -/
def enrolNew (n : Nat) (e : Enrolment) (s : State) : State :=
  makeLanes n e ((s.setPrinter n (enrolledPrinter e)).setStray n none)

/-- R85: one lane under the new colour capability: retired, made, or kept as it is. -/
def reshapeLane (n : Nat) (e : Enrolment) (l : Lane) (s : State) : State :=
  match s.lane n l, e.types.get l with
  | some _, none => retireLane n l s
  | none, some t => makeLane n l t s
  | _, _ => s

/-- R85, R137: a lane the printer keeps takes the type given for it; a lane just made has that type already. -/
def retypeKept (n : Nat) (e : Enrolment) (l : Lane) (s : State) : State :=
  match e.types.get l with
  | some t => changeLaneType n l t s
  | none => s

/-- R92: whether the reported capabilities match the enrolment. -/
def capabilitiesMatch (p : Printer) (c : Capabilities) : Bool :=
  c.colour == p.colour && c.lanes == (if p.colour then 4 else 1)

/-- R92, R85: the reported capabilities compared with the enrolment; absent ones count as matching. -/
def compareCapabilities (n : Nat) (s : State) : State :=
  let p := s.printer n
  if p.capabilities.all (capabilitiesMatch p) then removeCondition n .mismatch s else addCondition n .mismatch s

/-- R85: re-enrolment, in the order floor and group, every lane retired or made, the kept lanes' types, MISMATCH; R85 gives
no order among them (log entry 28). -/
def reenrol (n : Nat) (e : Enrolment) (s : State) : State :=
  let p := s.printer n
  let s := s.setPrinter n { p with floor := e.floor, group := e.group, colour := e.colour }
  let s := Lane.all.foldl (fun s l => reshapeLane n e l s) s
  let s := Lane.all.foldl (fun s l => retypeKept n e l s) s
  compareCapabilities n (s.setPrinter n { s.printer n with laneTypes := e.types })

/-- ENROL (R84, R85). R84 answers a first enrolment with the record; R85 names no answer, and the model answers a re-enrolment
as R84 does, with the record as it then stands (log entry 26, DESIGN CHOICE). -/
def execEnrol (h : Head) (printer : Nat) (fields : Enrolment) (s : State) : Host.Outcome State Fault Refusal :=
  request h (.enrol printer fields) (fun s =>
    if ¬(printer < Config.printers ∧ enrolmentOk fields) then refuse .outOfRange s
    else if ¬(s.printer printer).enrolled then
      let s := enrolNew printer fields s
      accept (.enrolled (s.printer printer)) s
    else if (s.printer printer).admin ≠ .outOfService then refuse .badState s
    else
      let s := reenrol printer fields s
      accept (.enrolled (s.printer printer)) s) s

/-- R87, step 1: the session at the printer, if one is open, is closed with reason PRINTER. -/
def closePrinterSession (n : Nat) (s : State) : State :=
  if (s.session n).isSome then closeSession n .printer s else s

/-- R87, step 2, R151: the printer's callouts and deferrals go, its history is cleared, the deferral list is served once. -/
def dropCallouts (n : Nat) (s : State) : State :=
  let s := s.setCallouts (s.cu.callouts.filter (fun c => c.printer ≠ n))
  let s := s.setDeferrals (s.cu.deferrals.filter (fun d => d.printer ≠ n))
  serveDeferrals (s.setHistory n 0)

/-- R87, step 3: every lane's claim given back and its record removed. -/
def removeLanes (n : Nat) (s : State) : State := Lane.all.foldl (fun s l => removeLane n l s) s

/-- R87, step 4, R142: the record at its cold values, the seven grace records IDLE. -/
def clearPrinter (n : Nat) (s : State) : State :=
  ConditionKind.graced.foldl (fun s k => s.setGrace n k .idle) (s.setPrinter n Printer.cold)

/-- UNENROLL (R87). -/
def execUnenroll (h : Head) (printer : Nat) (s : State) : Host.Outcome State Fault Refusal :=
  request h (.unenroll printer) (fun s =>
    onPrinter printer true (fun p =>
      if p.admin ≠ .outOfService then refuse .badState s
      else
        accept .none (clearPrinter printer (removeLanes printer (dropCallouts printer (closePrinterSession printer s))))) s) s

/-! ### Admin states -/

/-- R146: the kinds whose grace record is SPENT, in the order of R141. -/
def spentKinds (s : State) (n : Nat) : List ConditionKind := ConditionKind.graced.filter (fun k => s.grace n k = .spent)

/-- R88, R146: a change of admin state: the CU told of a move from OUT_OF_SERVICE to IN_SERVICE, the promotion check, the
draining test. -/
def changeAdmin (n : Nat) (target : AdminState) (s : State) : State :=
  let p := s.printer n
  let s := s.setPrinter n { p with admin := target }
  let s := if p.admin = .outOfService ∧ target = .inService then serviceRaise n (spentKinds s n) s else s
  drainingTest n (promotionCheck n s)

/-- SET_ADMIN (R88). -/
def execSetAdmin (h : Head) (printer : Nat) (target : AdminState) (s : State) : Host.Outcome State Fault Refusal :=
  request h (.setAdmin printer target) (fun s =>
    onPrinter printer true (fun p =>
      if p.admin = target then accept (.admin target) s
      else if target = .outOfService ∧ p.queue ≠ [] then refuse .badState s
      else
        let s := changeAdmin printer target s
        accept (.admin (s.printer printer).admin) s) s) s

/-- R90: one QUEUED job flushed. -/
def flushQueued (n : Nat) (h : Handle) (s : State) : State :=
  let j := s.job h.index
  leaveQueue n h s |> returnReservation j |> returnNeeds n j |> enterFinal h.index .failed .printerRemoved |> drainingTest n

/-- R90: a printing head flushed: ABORT, the stalled grant, the end of R98 with the draining test alone. -/
def flushHead (n : Nat) (h : Handle) (s : State) : State :=
  issue n (.abort ((s.job h.index).grant.getD 0)) s
    |> recordStalled n h |> settleEnd n h |> enterFinal h.index .failed .printerRemoved |> drainingTest n

/-- R90: the job at the head of the queue flushed. -/
def flushOne (n : Nat) (h : Handle) (s : State) : State :=
  if (s.job h.index).state.printing then flushHead n h s else flushQueued n h s

/-- R90: the queue flushed from head to tail as it stands, with the number of jobs ended; `fuel` bounds the queue's length
(log entry 29). -/
def flushQueue (n : Nat) : Nat → State → State × Nat
  | 0, s => (s, 0)
  | fuel + 1, s =>
    match (s.printer n).queue with
    | [] => (s, 0)
    | h :: _ =>
      let x := flushQueue n fuel (flushOne n h s)
      (x.1, x.2 + 1)

/-- FLUSH_PRINTER (R90). -/
def execFlushPrinter (h : Head) (printer : Nat) (s : State) : Host.Outcome State Fault Refusal :=
  request h (.flushPrinter printer) (fun s =>
    onPrinter printer true (fun p =>
      if p.admin ≠ .draining then refuse .badState s
      else
        let x := flushQueue printer p.queue.length s
        accept (.flushed x.2) (drainingTest printer x.1)) s) s

/-! ### Settings and reads -/

/-- SET_PRINTER_TIMERS (R86). -/
def execSetPrinterTimers (h : Head) (printer : Nat) (silence stall : Option Nat) (s : State) :
    Host.Outcome State Fault Refusal :=
  request h (.setPrinterTimers printer silence stall) (fun s =>
    onPrinter printer (optInRange 10 255 silence && optInRange 1 255 stall) (fun p =>
      let p := { p with silenceLimit := silence.getD p.silenceLimit, stallLimit := stall.getD p.stallLimit }
      accept (.printerTimers p.silenceLimit p.stallLimit) (s.setPrinter printer p)) s) s

/-- SET_WALKUP (R86). -/
def execSetWalkup (h : Head) (margin coverage : Option Nat) (s : State) : Host.Outcome State Fault Refusal :=
  request h (.setWalkup margin coverage) (fun s =>
    if ¬(optInRange 0 255 margin ∧ optInRange 0 7 coverage) then refuse .outOfRange s
    else
      let m := margin.getD s.ft.walkupMargin
      let c := coverage.getD s.ft.walkupClass
      accept (.walkup m c) { s with ft := { s.ft with walkupMargin := m, walkupClass := c } }) s

/-- CLEAR_CONDITION (R93): METER_FAULT removed, or nothing where it is not held; any other kind BAD_STATE. -/
def execClearCondition (h : Head) (printer : Nat) (kind : ConditionKind) (s : State) :
    Host.Outcome State Fault Refusal :=
  request h (.clearCondition printer kind) (fun s =>
    onPrinter printer true (fun _ =>
      if kind = .meterFault then accept .none (removeCondition printer .meterFault s) else refuse .badState s) s) s

/-- R105: a job of the queue as READ_PRINTER shows it. -/
def queueView (s : State) (h : Handle) : QueueView :=
  let j := s.job h.index
  ⟨j.grant, j.tenant, j.state, j.pages⟩

/-- R105: what READ_PRINTER shows. -/
def printerView (s : State) (n : Nat) : PrinterView :=
  let p := s.printer n
  ⟨p.enrolled, p.floor, p.group, p.colour, p.silenceLimit, p.stallLimit, p.admin, p.presence, p.capabilities,
    p.conditions, p.supplyOut, p.queue.map (queueView s), p.silence, p.stall, p.meter, p.surplus, p.walkup, p.stalled,
    p.protocolError, s.history n⟩

/-- READ_PRINTER (R105), of an enrolled number or not (log entry 13). -/
def execReadPrinter (h : Head) (printer : Nat) (s : State) : Host.Outcome State Fault Refusal :=
  request h (.readPrinter printer) (fun s =>
    if ¬(printer < Config.printers) then refuse .outOfRange s
    else accept (.printer (printerView s printer)) s) s

/-! ### Reports -/

/-- R92, steps 1 and 2: presence PRESENT, the reported capabilities stored. -/
def greet (n : Nat) (c : Capabilities) (s : State) : State :=
  s.setPrinter n { s.printer n with presence := .present, capabilities := some c }

/-- R92, step 4: meter, surplus and stalled grant. -/
def clearMeter (n : Nat) (s : State) : State :=
  s.setPrinter n { s.printer n with meter := none, surplus := 0, stalled := none }

/-- R92, step 5: a printing head is lost at a HELLO, and no ABORT is sent. -/
def loseHead (n : Nat) (s : State) : State :=
  match printingHead s n with
  | some h => endUnfinished n h s
  | none => s

/-- R92: a HELLO, after the presence step of R91 that precedes every report's owner. -/
def takeHello (n : Nat) (c : Capabilities) (s : State) : State :=
  greet n c s |> compareCapabilities n |> clearMeter n |> loseHead n |> promotionCheck n

/-- R180: the fields of HELLO. -/
def helloOk (lanes meter : Nat) : Bool := inRange 1 4 lanes && meter ≤ 4294967295

/-- HELLO (R92). -/
def execHello (l : LinkFrame) (colour : Bool) (lanes meter : Nat) (s : State) : Host.Outcome State Fault Refusal :=
  .next (takeReport l .hello (helloOk lanes meter) (takeHello l.address ⟨colour, lanes, meter⟩) s)

/-- R104, step 4: the surplus taken as walk-up pages. -/
def takeWalkup (n : Nat) (s : State) : State :=
  let p := s.printer n
  if p.surplus > (s.ft.walkupMargin : Int) ∧ printingHead s n = none then
    let pages := p.surplus.toNat
    let s := deduct n .k pages (kWeight s s.ft.walkupClass) s
    s.setPrinter n { s.printer n with walkup := min Config.walkupMax ((s.printer n).walkup + pages), surplus := 0 }
  else s

/-- R104: a STATUS with the printer's meter. -/
def takeStatus (n meter : Nat) (s : State) : State :=
  let p := s.printer n
  match p.meter with
  | none => s.setPrinter n { p with meter := some meter }
  | some old =>
    if meter < old then
      let s := addCondition n .meterFault s
      s.setPrinter n { s.printer n with meter := some meter }
    else
      takeWalkup n (s.setPrinter n
        { p with surplus := min Config.surplusMax (p.surplus + ((meter - old : Nat) : Int)), meter := some meter })

/-- STATUS (R104). -/
def execStatus (l : LinkFrame) (meter : Nat) (s : State) : Host.Outcome State Fault Refusal :=
  .next (takeReport l .status (decide (meter ≤ 4294967295)) (takeStatus l.address meter) s)

/-- CONDITION (R93): an onset or a clear of one of the four reportable kinds. -/
def execCondition (l : LinkFrame) (kind : ConditionKind) (onset : Bool) (s : State) :
    Host.Outcome State Fault Refusal :=
  .next (takeReport l .condition kind.reportable
    (if onset then addCondition l.address kind else removeCondition l.address kind) s)

/-- R180: the fields of PROGRESS and JOB_END. -/
def countsOk (grant : Nat) (pages : PerClass Nat) : Bool :=
  inRange 1 65535 grant && pages.mono ≤ Config.pagesMax && pages.colour ≤ Config.pagesMax

/-- PROGRESS (R96). -/
def execProgress (l : LinkFrame) (grant : Nat) (pages : PerClass Nat) (s : State) : Host.Outcome State Fault Refusal :=
  .next (takeReport l .progress (countsOk grant pages) (takeProgress l.address grant pages) s)

/-- JOB_END (R97). -/
def execJobEnd (l : LinkFrame) (grant : Nat) (pages : PerClass Nat) (outcome : JobOutcome) (s : State) :
    Host.Outcome State Fault Refusal :=
  .next (takeReport l .jobEnd (countsOk grant pages) (takeJobEnd l.address grant pages outcome) s)

end Sys2Proof.Machine
end

