-- ==== Sys2Proof/Machine/Lanes.lean ====
section
/-! DEFINITION. Lane requests and the reports the Supply Estimator takes (chapter 6). -/

namespace Sys2Proof.Machine

/-- R108: eight weights of 0..255. -/
def weightsOk (w : List Nat) : Bool := w.all (inRange 0 255)

/-- What R108's requests show: both tables and both settings. -/
def weightsView (s : State) : Result := .weights s.se.kWeights s.se.colourWeights s.se.tolerance s.se.rebaseLimit

/-- SET_WEIGHTS (R108). Its rule names no result fields (log entry 26). -/
def execSetWeights (h : Head) (k colour : Option (List Nat)) (s : State) : Host.Outcome State Fault Refusal :=
  request h (.setWeights k colour) (fun s =>
    if ¬(k.all weightsOk ∧ colour.all weightsOk) then refuse .outOfRange s
    else accept .none { s with se := { s.se with
      kWeights := k.getD s.se.kWeights, colourWeights := colour.getD s.se.colourWeights } }) s

/-- SET_ESTIMATOR (R108). Its rule names no result fields (log entry 26). -/
def execSetEstimator (h : Head) (tolerance rebase : Option Nat) (s : State) : Host.Outcome State Fault Refusal :=
  request h (.setEstimator tolerance rebase) (fun s =>
    if ¬(optInRange 0 100 tolerance ∧ optInRange 0 100 rebase) then refuse .outOfRange s
    else accept .none { s with se := { s.se with
      tolerance := tolerance.getD s.se.tolerance, rebaseLimit := rebase.getD s.se.rebaseLimit } }) s

/-- READ_WEIGHTS (R108). -/
def execReadWeights (h : Head) (s : State) : Host.Outcome State Fault Refusal :=
  request h .readWeights (fun s => accept (weightsView s) s) s

/-- R121: what READ_LANES shows of a lane. -/
def laneView (s : State) (l : Lane) (x : LaneRecord) : LaneView :=
  let c := (s.ctype x.type).capacity
  ⟨l, x, effectiveLevel x c, percentOf (effectiveLevel x c) c, c⟩

/-- R121: every lane of a printer, K first. -/
def laneViews (s : State) (n : Nat) : List LaneView := Lane.all.filterMap (fun l => (s.lane n l).map (laneView s l))

/-- READ_LANES (R121). -/
def execReadLanes (h : Head) (printer : Nat) (s : State) : Host.Outcome State Fault Refusal :=
  request h (.readLanes printer) (fun s =>
    onPrinter printer true (fun _ => accept (.lanes (laneViews s printer)) s) s) s

/-- SET_FACTOR (R121). Its rule names no result fields (log entry 26). -/
def execSetFactor (h : Head) (printer : Nat) (lane : Lane) (factor : Nat) (s : State) :
    Host.Outcome State Fault Refusal :=
  request h (.setFactor printer lane factor) (fun s =>
    onLane printer lane (inRange 32 96 factor) (fun x =>
      accept .none (s.setLane printer lane (some { x with factor := factor }))) s) s

/-- The lane of a lane record's number. -/
def laneOfNumber (k : Nat) : LaneName := ⟨k / 4, Lane.all.getD (k % 4) .k⟩

/-- R120: the lanes whose uncounted flag is set, in ascending printer number and lane order. -/
def uncountedLanes (s : State) : List LaneName :=
  (s.se.lanes.filter (fun e => e.2.any LaneRecord.uncounted)).map (fun e => laneOfNumber e.1)

/-- LIST_UNCOUNTED (R120). -/
def execListUncounted (h : Head) (s : State) : Host.Outcome State Fault Refusal :=
  request h .listUncounted (fun s =>
    let l := uncountedLanes s
    accept (.uncounted l.length (l.take Config.listLength)) s) s

/-- ACK_UNCOUNTED (R120). -/
def execAckUncounted (h : Head) (printer : Nat) (lane : Lane) (s : State) : Host.Outcome State Fault Refusal :=
  request h (.ackUncounted printer lane) (fun s =>
    onLane printer lane true (fun x =>
      accept .none (s.setLane printer lane (some { x with uncounted := false }))) s) s

/-- R180: the readings of a LEVEL report. -/
def readingsOk (r : PerLane LaneReading) : Bool := Lane.all.all (fun l => optInRange 0 100 (r.get l).reading)

/-- R117: a LEVEL report, lane by lane. -/
def takeLevel (n : Nat) (r : PerLane LaneReading) (s : State) : State :=
  Lane.all.foldl (fun s l => takeReading n l (r.get l) s) s

/-- LEVEL (R117, R118). -/
def execLevel (l : LinkFrame) (readings : PerLane LaneReading) (s : State) : Host.Outcome State Fault Refusal :=
  .next (takeReport l .level (readingsOk readings) (takeLevel l.address readings) s)

/-- INSTALLED (R119). -/
def execInstalled (l : LinkFrame) (lane : Lane) (s : State) : Host.Outcome State Fault Refusal :=
  .next (takeReport l .installed true (install l.address lane) s)

end Sys2Proof.Machine
end

