-- ==== Sys2Proof/Machine/Stock.lean ====
section
/-! DEFINITION. Stock and order requests (chapter 7). -/

namespace Sys2Proof.Machine

/-- R123, R125: the fields SET_TYPE gives, each in its range. -/
def typeChangesOk (c : TypeChanges) : Bool :=
  optInRange 1 65535 c.capacity && optInRange 1 99 c.reorder && optInRange 1 99 c.critical &&
    optInRange 0 999 c.level && optInRange 1 999 c.quantity

/-- R125: the record SET_TYPE would leave, ordering ENABLED. -/
def changedType (r : CartridgeType) (c : TypeChanges) : CartridgeType :=
  { r with
    capacity := c.capacity.getD r.capacity
    reorder := c.reorder.getD r.reorder
    critical := c.critical.getD r.critical
    level := c.level.getD r.level
    quantity := c.quantity.getD r.quantity
    ordering := true }

/-- R125, step 2: whether the lanes' states are to be computed again. -/
def movesLevels (a b : CartridgeType) : Bool :=
  a.capacity != b.capacity || a.reorder != b.reorder || a.critical != b.critical

/-- The lanes of a type, in ascending printer number and in the order K, C, M, Y. -/
def lanesOfType (s : State) (t : Nat) : List LaneName :=
  (s.se.lanes.filter (fun e => e.2.any (fun x => x.type == t))).map (fun e => laneOfNumber e.1)

/-- R125, step 2: every lane of the type capped and its state computed again. -/
def recomputeType (t : Nat) (s : State) : State :=
  (lanesOfType s t).foldl (fun s w => recompute w.printer w.lane (capEstimate w.printer w.lane s)) s

/-- R125, steps 1 to 3. -/
def applyType (t : Nat) (c : TypeChanges) (s : State) : State :=
  let old := s.ctype t
  let new := changedType old c
  let s := s.setType t new
  trigger t (if movesLevels old new then recomputeType t s else s)

/-- SET_TYPE (R125). -/
def execSetType (h : Head) (type : Nat) (changes : TypeChanges) (s : State) : Host.Outcome State Fault Refusal :=
  request h (.setType type changes) (fun s =>
    let new := changedType (s.ctype type) changes
    if ¬(type < Config.types ∧ typeChangesOk changes ∧ new.critical < new.reorder) then refuse .outOfRange s
    else
      let s := applyType type changes s
      accept (.type (s.ctype type)) s) s

/-- ADJUST_STOCK (R136). -/
def execAdjustStock (h : Head) (type onHand : Nat) (s : State) : Host.Outcome State Fault Refusal :=
  request h (.adjustStock type onHand) (fun s =>
    if ¬(type < Config.types ∧ onHand ≤ Config.stockMax ∧ (s.ctype type).allocated ≤ onHand) then refuse .outOfRange s
    else
      let s := trigger type (serveWaiters type (s.setType type { s.ctype type with onHand := onHand }))
      let r := s.ctype type
      accept (.stock r.onHand r.allocated r.onOrder r.waitList.length (position r)) s) s

/-- SET_LANE_TYPE (R137). -/
def execSetLaneType (h : Head) (printer : Nat) (lane : Lane) (type : Nat) (s : State) :
    Host.Outcome State Fault Refusal :=
  request h (.setLaneType printer lane type) (fun s =>
    onLane printer lane (decide (type < Config.types)) (fun _ =>
      let s := changeLaneType printer lane type s
      accept (.lane (s.lane printer lane)) s) s) s

/-- R133 to R135: the checks of a request on an order, and the order it names. -/
def onOrder (number : Nat) (fieldsOk : Bool) (act : Order → State × Answer) (s : State) : State × Answer :=
  if ¬(inRange 1 65535 number ∧ fieldsOk) then refuse .outOfRange s
  else
    match s.su.orders.find? (fun o => o.number = number) with
    | none => refuse .noSuchOrder s
    | some o => act o

/-- R133: an order of the queue acknowledged. -/
def acknowledgeOrder (number : Nat) (s : State) : State :=
  s.setOrders (s.su.orders.map (fun o => if o.number = number then { o with acknowledged := true } else o))

/-- ACK_ORDER (R133). -/
def execAckOrder (h : Head) (number : Nat) (s : State) : Host.Outcome State Fault Refusal :=
  request h (.ackOrder number) (fun s =>
    onOrder number true (fun o =>
      if o.acknowledged then refuse .badState s
      else accept (.order { o with acknowledged := true }) (acknowledgeOrder number s)) s) s

/-- R134, steps 1 to 5. -/
def receive (o : Order) (received : Nat) (s : State) : State :=
  let r := s.ctype o.type
  s.setType o.type { r with onHand := min Config.stockMax (r.onHand + received) }
    |> dropOrder o |> serveWaiters o.type |> serveDeferredTypes

/-- The number of the order a trigger raised, the last of a queue it made longer. -/
def orderRaised (before after : State) : Option Nat :=
  if after.su.orders.length > before.su.orders.length then after.su.orders.getLast?.map Order.number else none

/-- RECEIVE_ORDER (R134). -/
def execReceiveOrder (h : Head) (number received : Nat) (s : State) : Host.Outcome State Fault Refusal :=
  request h (.receiveOrder number received) (fun s =>
    onOrder number (decide (received ≤ Config.stockMax)) (fun o =>
      let s5 := receive o received s
      let s6 := trigger o.type s5
      let r := s6.ctype o.type
      accept (.received r.onHand r.allocated r.onOrder (orderRaised s5 s6)) s6) s) s

/-- R135: an order cancelled, its type SUSPENDED. -/
def cancelOrder (o : Order) (s : State) : State :=
  let s := dropOrder o s
  trigger o.type (serveDeferredTypes (s.setType o.type { s.ctype o.type with ordering := false }))

/-- CANCEL_ORDER (R135). -/
def execCancelOrder (h : Head) (number : Nat) (s : State) : Host.Outcome State Fault Refusal :=
  request h (.cancelOrder number) (fun s => onOrder number true (fun o => accept .none (cancelOrder o s)) s) s

/-- R138: what READ_TYPE shows; the place in the deferral list is counted from 0 at its head (log entry 26). -/
def typeView (s : State) (t : Nat) : TypeView :=
  let r := s.ctype t
  let lanes := lanesOfType s t
  ⟨r, position r, s.su.deferred.idxOf? t, lanes.length,
    (lanes.filter (fun w => (s.lane w.printer w.lane).any LaneRecord.allocation)).length⟩

/-- READ_TYPE (R138). -/
def execReadType (h : Head) (type : Nat) (s : State) : Host.Outcome State Fault Refusal :=
  request h (.readType type) (fun s =>
    if ¬(type < Config.types) then refuse .outOfRange s else accept (.typeView (typeView s type)) s) s

/-- LIST_ORDERS (R138). -/
def execListOrders (h : Head) (s : State) : Host.Outcome State Fault Refusal :=
  request h .listOrders (fun s => accept (.orders s.su.orders.length s.su.orders s.su.deferred.length) s) s

end Sys2Proof.Machine
end

