-- ==== Sys2Proof/Machine/Callouts.lean ====
section
/-! DEFINITION. Callout and history requests (chapter 8). -/

namespace Sys2Proof.Machine

/-- What R141's requests answer: all eight settings. -/
def settingsView (s : State) : Result := .settings s.cu.graceTimes s.cu.escalation

/-- SET_GRACE (R141). -/
def execSetGrace (h : Head) (kind : ConditionKind) (minutes : Nat) (s : State) : Host.Outcome State Fault Refusal :=
  request h (.setGrace kind minutes) (fun s =>
    if kind = .supplyOut ∨ ¬inRange 0 255 minutes then refuse .outOfRange s
    else
      let s := { s with cu := { s.cu with graceTimes := s.cu.graceTimes.set kind.code minutes } }
      accept (settingsView s) s) s

/-- SET_ESCALATION (R141). -/
def execSetEscalation (h : Head) (minutes : Nat) (s : State) : Host.Outcome State Fault Refusal :=
  request h (.setEscalation minutes) (fun s =>
    if ¬inRange 1 255 minutes then refuse .outOfRange s
    else
      let s := { s with cu := { s.cu with escalation := minutes } }
      accept (settingsView s) s) s

/-- R150: a callout of the queue acknowledged. -/
def acknowledgeCallout (number : Nat) (s : State) : State :=
  s.setCallouts (s.cu.callouts.map (fun c => if c.number = number then { c with acknowledged := true } else c))

/-- ACK_CALLOUT (R150). -/
def execAckCallout (h : Head) (number : Nat) (s : State) : Host.Outcome State Fault Refusal :=
  request h (.ackCallout number) (fun s =>
    if ¬inRange 1 65535 number then refuse .outOfRange s
    else
      match s.cu.callouts.find? (fun c => c.number = number) with
      | none => refuse .noSuchCallout s
      | some c =>
        if c.acknowledged then refuse .badState s
        else accept (.callout { c with acknowledged := true }) (acknowledgeCallout number s)) s

/-- CLEAR_HISTORY (R152). -/
def execClearHistory (h : Head) (printer : Nat) (kinds : KindSet) (s : State) : Host.Outcome State Fault Refusal :=
  request h (.clearHistory printer kinds) (fun s =>
    onPrinter printer true (fun _ =>
      let left := s.history printer &&& ~~~kinds
      accept (.history left) (s.setHistory printer left)) s) s

/-- LIST_CALLOUTS (R153). -/
def execListCallouts (h : Head) (s : State) : Host.Outcome State Fault Refusal :=
  request h .listCallouts (fun s =>
    accept (.callouts s.cu.callouts.length s.cu.callouts s.cu.deferrals.length (s.cu.deferrals.take Config.listLength)
      s.cu.graceTimes s.cu.escalation) s) s

end Sys2Proof.Machine
end

