-- ==== Sys2Proof/Machine/Wire.lean ====
section
/-! DEFINITION. Frames as bytes (chapter 12): the check sequence, the headers, SUBMIT's body, the ten reports, the five
commands and the turn that sends one. The other requests' bodies are read in Sys2Proof/Machine/Bodies.lean, and answers are
built in Sys2Proof/Machine/Answers.lean. -/

namespace Sys2Proof.Machine

/-! ### Numbers and the check sequence -/

/-- A number in one byte. -/
def byte1 (n : Nat) : List Byte := [BitVec.ofNat 8 n]
/-- A number in two bytes, most significant first. -/
def byte2 (n : Nat) : List Byte := [BitVec.ofNat 8 (n / 256), BitVec.ofNat 8 n]
/-- A number in four bytes, most significant first. -/
def byte4 (n : Nat) : List Byte :=
  [BitVec.ofNat 8 (n / 16777216), BitVec.ofNat 8 (n / 65536), BitVec.ofNat 8 (n / 256), BitVec.ofNat 8 n]
/-- The number two bytes spell. -/
def read2 (a b : Byte) : Nat := a.toNat * 256 + b.toNat
/-- The number four bytes spell. -/
def read4 (a b c d : Byte) : Nat := a.toNat * 16777216 + b.toNat * 65536 + c.toNat * 256 + d.toNat
/-- A yes/no field: 0 no, 1 yes; any other value is none. -/
def readFlag (b : Byte) : Option Bool := if b = 0#8 then some false else if b = 1#8 then some true else none
/-- A yes/no field as sent. -/
def flagByte (b : Bool) : List Byte := byte1 (if b then 1 else 0)

/-- Section 12.1: one bit into the check. -/
def crcBit (c : BitVec 16) : BitVec 16 := if c.msb then (c <<< 1) ^^^ 0x1021#16 else c <<< 1

/-- Section 12.1: a byte into the check, most significant bit first. -/
def crcByte (c : BitVec 16) (b : Byte) : BitVec 16 :=
  crcBit (crcBit (crcBit (crcBit (crcBit (crcBit (crcBit (crcBit (c ^^^ (b.zeroExtend 16 <<< 8)))))))))

/-- Section 12.1: the check of a row of bytes, from 65535. -/
def crc16 (bs : List Byte) : BitVec 16 := bs.foldl crcByte 0xFFFF#16

/-- Section 12.1: the check sequence of a frame's bytes, most significant byte first. -/
def checkBytes (bs : List Byte) : List Byte := byte2 (crc16 bs).toNat

/-- A frame closed by its check sequence. -/
def closed (bs : List Byte) : List Byte := bs ++ checkBytes bs

/-! ### Floor-link frames -/

/-- Section 12.1: a floor-link frame. -/
def linkFrame (address kind : Nat) (body : List Byte) : List Byte :=
  closed (byte1 address ++ byte1 kind ++ byte1 body.length ++ body)

/-- A handle as sent (section 12.2). -/
def handleBytes (h : Handle) : List Byte := byte1 h.index ++ byte1 h.generation

/-- A LEVEL entry as sent: reading (255 absent), empty flag. -/
def readingBytes (r : LaneReading) : List Byte := byte1 (r.reading.getD 255) ++ flagByte r.empty

/-- The counts of PROGRESS and JOB_END as sent. -/
def countBytes (grant : Nat) (pages : PerClass Nat) : List Byte :=
  byte2 grant ++ byte2 pages.mono ++ byte2 pages.colour

/-- SELECT's body: the count, 0 for ALL, and the handles. -/
def choiceBytes : Choice → List Byte
  | .all => byte1 0
  | .handles hs => byte1 hs.length ++ hs.flatMap handleBytes

/-- Section 12.4: the kind, address and body of a report; none for another command. -/
def reportBody : Instr → Option (Nat × Nat × List Byte)
  | .hello l colour lanes meter => some (1, l.address, flagByte colour ++ byte1 lanes ++ byte4 meter)
  | .status l meter => some (2, l.address, byte4 meter)
  | .condition l kind onset => some (3, l.address, byte1 kind.code ++ flagByte onset)
  | .level l r => some (4, l.address, readingBytes r.k ++ readingBytes r.c ++ readingBytes r.m ++ readingBytes r.y)
  | .badge l number => some (5, l.address, byte4 number)
  | .select l choice => some (6, l.address, choiceBytes choice)
  | .sessionEnd l => some (7, l.address, [])
  | .progress l grant pages => some (8, l.address, countBytes grant pages)
  | .jobEnd l grant pages outcome => some (9, l.address, countBytes grant pages ++ flagByte (outcome == .aborted))
  | .installed l lane => some (10, l.address, byte1 lane.code)
  | _ => none

/-- The frame an agent sends for a report. -/
def reportBytes (i : Instr) : Option (List Byte) := (reportBody i).map (fun x => linkFrame x.2.1 x.1 x.2.2)

/-- The lane of a code (section 12.2). -/
def readLaneCode (b : Byte) : Option Lane :=
  if b = 0#8 then some .k else if b = 1#8 then some .c else if b = 2#8 then some .m
  else if b = 3#8 then some .y else none

/-- The condition kind of a CONDITION report's code 0..3 (section 12.4). -/
def readConditionCode (b : Byte) : Option ConditionKind :=
  if b = 0#8 then some .jam else if b = 1#8 then some .doorOpen else if b = 2#8 then some .paperOut
  else if b = 3#8 then some .hardware else none

/-- A LEVEL entry: reading 0..100 or 255, empty flag 0 or 1 (R180). -/
def readEntry (r e : Byte) : Option LaneReading :=
  match readFlag e with
  | none => none
  | some f =>
    if r = 255#8 then some ⟨none, f⟩ else if r.toNat ≤ 100 then some ⟨some r.toNat, f⟩ else none

/-- The handles of a SELECT body. -/
def readHandles : List Byte → Option (List Handle)
  | [] => some []
  | [_] => none
  | i :: g :: rest => (readHandles rest).map (fun l => ⟨i.toNat, g.toNat⟩ :: l)

/-- SELECT's body: count 0 is ALL, 1..8 handles (section 12.4, R180). -/
def readChoice : List Byte → Option Choice
  | [] => none
  | n :: rest =>
    if n = 0#8 then (if rest = [] then some .all else none)
    else if n.toNat ≤ 8 ∧ rest.length = 2 * n.toNat then (readHandles rest).map Choice.handles else none

/-- The counts of PROGRESS and JOB_END: grant 1..65535, pages 0..9999 (R180). -/
def readCounts (g1 g0 m1 m0 c1 c0 : Byte) : Option (Nat × PerClass Nat) :=
  let grant := read2 g1 g0
  let pages : PerClass Nat := ⟨read2 m1 m0, read2 c1 c0⟩
  if 1 ≤ grant ∧ pages.mono ≤ Config.pagesMax ∧ pages.colour ≤ Config.pagesMax then some (grant, pages) else none

/-- R180: a report body by its kind code; none where it is not well formed. -/
def readReport (l : LinkFrame) (kind : Nat) (body : List Byte) : Option Instr :=
  match kind, body with
  | 1, [c, n, m3, m2, m1, m0] =>
    if 1 ≤ n.toNat ∧ n.toNat ≤ 4 then (readFlag c).map (fun c => .hello l c n.toNat (read4 m3 m2 m1 m0)) else none
  | 2, [m3, m2, m1, m0] => some (.status l (read4 m3 m2 m1 m0))
  | 3, [k, o] =>
    match readConditionCode k, readFlag o with
    | some k, some o => some (.condition l k o)
    | _, _ => none
  | 4, [kr, ke, cr, ce, mr, me, yr, ye] =>
    match readEntry kr ke, readEntry cr ce, readEntry mr me, readEntry yr ye with
    | some k, some c, some m, some y => some (.level l ⟨k, c, m, y⟩)
    | _, _, _, _ => none
  | 5, [b3, b2, b1, b0] => some (.badge l (read4 b3 b2 b1 b0))
  | 6, body => (readChoice body).map (fun c => .select l c)
  | 7, [] => some (.sessionEnd l)
  | 8, [g1, g0, m1, m0, c1, c0] => (readCounts g1 g0 m1 m0 c1 c0).map (fun x => .progress l x.1 x.2)
  | 9, [g1, g0, m1, m0, c1, c0, o] =>
    match readCounts g1 g0 m1 m0 c1 c0, readFlag o with
    | some x, some o => some (.jobEnd l x.1 x.2 (if o then .aborted else .complete))
    | _, _ => none
  | 10, [b] => (readLaneCode b).map (fun x => .installed l x)
  | _, _ => none

/-- R178, R180: the report a frame's bytes spell; none where the frame fails its check or is not well formed. -/
def reportOf : List Byte → Option Instr
  | a :: k :: n :: rest =>
    let body := rest.take n.toNat
    if rest.length = n.toNat + 2 ∧ rest.drop n.toNat = checkBytes (a :: k :: n :: body) ∧ a.toNat < Config.printers then
      readReport ⟨a.toNat, true⟩ k.toNat body
    else none
  | _ => none

/-- OFFER's entry of a job. -/
def offeredBytes (o : OfferedJob) : List Byte :=
  handleBytes o.job ++ byte2 o.label ++ byte2 o.pages.mono ++ byte2 o.pages.colour

/-- PANEL_RESULT's entry of a job: grant 0 unless OK. -/
def resultBytes (r : JobResult) : List Byte := handleBytes r.job ++ byte1 r.result.code ++ byte2 (r.grant.getD 0)

/-- Section 12.4: the code and body of a command. -/
def commandBody : Command → Nat × List Byte
  | .offer jobs => (32, byte1 jobs.length ++ jobs.flatMap offeredBytes)
  | .panelResult session results =>
    (33, byte1 ((session.map PanelResult.code).getD 255) ++ byte1 results.length ++ results.flatMap resultBytes)
  | .expect grant tenant label pages =>
    (34, byte2 grant ++ byte1 tenant ++ byte2 label ++ byte2 pages.mono ++ byte2 pages.colour)
  | .abort grant => (35, byte2 grant)
  | .sessionClose reason => (36, byte1 reason.code)

/-- The frame the part sends an agent for a command. -/
def commandBytes (address : Nat) (c : Command) : List Byte := linkFrame address (commandBody c).1 (commandBody c).2

/-- What the part puts into a turn it grants to an agent (R158, R159): a greeting request or none, and a command or none. -/
structure Turn where
  greeting : Bool
  command : Option Command
  deriving DecidableEq, Repr

/-- R159: the command sent in a turn of an address: the one at the head of its queue, in every turn until it is confirmed; none
where the queue is empty. -/
def sentCommand (s : State) (a : Nat) : Option Command := (s.commands a).head?

/-- Section 9.3, R158: whether a turn granted to an address carries a greeting request. -/
def greetingRequested (s : State) (a : Nat) : Bool :=
  (s.printer a).enrolled && (s.printer a).presence == .unknown

/-- R158, R159: a turn granted to an address now. When turns are granted is no part of the spec (log entry 18). -/
def turnFor (s : State) (a : Nat) : Turn := ⟨greetingRequested s a, sentCommand s a⟩

/-- R159, R181: the command frame sent in a turn of an address. -/
def sentFrame (s : State) (a : Nat) : Option (List Byte) := (sentCommand s a).map (commandBytes a)

/-! ### Master-port frames -/

/-- Section 12.1: a master-port frame of a type, kind and tag. -/
def portFrame (type kind tag : Nat) (body : List Byte) : List Byte :=
  closed (byte1 type ++ byte2 body.length ++ byte1 kind ++ byte2 tag ++ body)

/-- A time as sent: day, minute; absent is minute 65535 with day 0 (section 12.2). -/
def timeBytes : Option Time → List Byte
  | some t => byte2 t.day ++ byte2 t.minute
  | none => byte2 0 ++ byte2 65535

/-- SUBMIT's request body (section 12.4). -/
def submissionBytes (j : Submission) : List Byte :=
  byte2 j.owner ++ byte2 j.label ++ byte2 j.pages.mono ++ byte2 j.pages.colour ++ byte1 j.kClass ++
    byte1 (j.colourClass.getD 255) ++ byte2 j.groups.toNat ++ byte1 0

/-- The frame a gateway sends for a SUBMIT. -/
def submitFrame (tag : Nat) (j : Submission) : List Byte := portFrame 1 48 tag (submissionBytes j)

/-- SUBMIT's body read; the reserved byte is not read (R179). -/
def readSubmission : List Byte → Option Submission
  | [o1, o0, l1, l0, m1, m0, c1, c0, k, x, g1, g0, _] =>
    some ⟨read2 o1 o0, read2 l1 l0, ⟨read2 m1 m0, read2 c1 c0⟩, k.toNat, if x = 255#8 then none else some x.toNat,
      BitVec.ofNat 16 (read2 g1 g0)⟩
  | _ => none

/-- R178: a request frame's kind, tag and body; none where the frame fails its check. -/
def readPortFrame : List Byte → Option (Nat × Nat × List Byte)
  | t :: n1 :: n0 :: k :: t1 :: t0 :: rest =>
    let n := read2 n1 n0
    let body := rest.take n
    if t = 1#8 ∧ n ≤ 512 ∧ rest.length = n + 2 ∧ rest.drop n = checkBytes (t :: n1 :: n0 :: k :: t1 :: t0 :: body) then
      some (k.toNat, read2 t1 t0, body)
    else none
  | _ => none

end Sys2Proof.Machine
end

