-- ==== Sys2Proof/Machine/Link.lean ====
section
/-! DEFINITION. Floor-link requests and the confirmation of a command (chapter 9). -/

namespace Sys2Proof.Machine

/-- R161: the stray set in ascending address. -/
def strayViews (s : State) : List StrayView :=
  s.flc.strays.filterMap (fun e => e.2.map (fun x => ⟨e.1, x.kind, x.time⟩))

/-- R161: each enrolled address with the length of its command queue, in ascending order. -/
def queueLengths (s : State) : List (Nat × Nat) :=
  ((List.range Config.printers).filter (fun a => (s.printer a).enrolled)).map (fun a => (a, (s.commands a).length))

/-- READ_LINK (R161). -/
def execReadLink (h : Head) (s : State) : Host.Outcome State Fault Refusal :=
  request h .readLink (fun s => accept (.link (strayViews s).length (strayViews s) (queueLengths s)) s) s

/-- R162: one address's stray entry removed, or all of them. -/
def clearStrays (address : Option Nat) (s : State) : State :=
  match address with
  | some a => s.setStray a none
  | none => { s with flc := { s.flc with strays := [] } }

/-- CLEAR_STRAY (R162); no address is ALL. -/
def execClearStray (h : Head) (address : Option Nat) (s : State) : Host.Outcome State Fault Refusal :=
  request h (.clearStray address) (fun s =>
    if ¬address.all (· < Config.printers) then refuse .outOfRange s
    else
      let s := clearStrays address s
      accept (.straysLeft s.flc.strays.length) s) s

/-- R159: the command at the head of an address's queue, the one its turns send (`sentCommand`), leaves it; later turns send
the next. R159 does not say what becomes of a confirmation of a command that R160 has discarded meanwhile: a confirmation names
its address alone, so whatever command now stands at the head leaves, and with an empty queue nothing does (log entry 35,
DESIGN CHOICE). -/
def confirm (a : Nat) (s : State) : State := s.setCommands a ((s.commands a).drop 1)

/-- COMMAND_CONFIRMATION (R159). -/
def execCommandConfirmation (address : Nat) (s : State) : Host.Outcome State Fault Refusal :=
  .next (takeEvent (confirm address) s)

end Sys2Proof.Machine
end

