-- ==== Sys2Proof/Machine/Time.lean ====
section
/-! DEFINITION. Time requests (chapter 11), the time base's events and the expiries of the timers (R171, R172). -/

namespace Sys2Proof.Machine

/-- R173: the clock's fields in range. -/
def clockOk (day minute weekday : Nat) : Bool := day ≤ 65535 && minute ≤ 1439 && weekday ≤ 6

/-- R173: the clock takes the three values, the second count becomes 0, the active policy is evaluated. Minute work still
owed was due at the old time and is taken first (log entry 24). -/
def setClockTo (c : Clock) (s : State) : State :=
  let s := settleMinuteWork (settleMinuteEvent s)
  evaluatePolicy { s with tb := { s.tb with clock := some c, second := 0 } }

/-- SET_CLOCK (R173). -/
def execSetClock (h : Head) (day minute weekday : Nat) (s : State) : Host.Outcome State Fault Refusal :=
  request h (.setClock day minute weekday) (fun s =>
    if ¬clockOk day minute weekday then refuse .outOfRange s
    else
      let s := setClockTo ⟨day, minute, weekday⟩ s
      accept (.clock s.tb.clock s.tb.active) s) s

/-- R174: an entry's fields in range. -/
def entryOk (e : ScheduleEntry) : Bool := e.weekday ≤ 6 && e.start ≤ 1440 && e.finish ≤ 1440

/-- R174: no weekday given twice, every field in range. -/
def scheduleOk (l : List ScheduleEntry) : Bool :=
  l.all entryOk && decide (l.map ScheduleEntry.weekday).Nodup

/-- R174: each weekday given takes its new start and end. -/
def changedSchedule (old : List DaySpan) (l : List ScheduleEntry) : List DaySpan :=
  l.foldl (fun d e => d.set e.weekday ⟨e.start, e.finish⟩) old

/-- SET_SCHEDULE (R174). -/
def execSetSchedule (h : Head) (entries : List ScheduleEntry) (s : State) : Host.Outcome State Fault Refusal :=
  request h (.setSchedule entries) (fun s =>
    if ¬scheduleOk entries then refuse .outOfRange s
    else
      let s := evaluatePolicy { s with tb := { s.tb with schedule := changedSchedule s.tb.schedule entries } }
      accept (.schedule s.tb.schedule s.tb.active) s) s

/-- READ_CLOCK (R173). -/
def execReadClock (h : Head) (s : State) : Host.Outcome State Fault Refusal :=
  request h .readClock (fun s =>
    accept (.clockView s.tb.clock s.tb.second s.tb.active s.tb.schedule s.tb.cause) s) s

/-- SECOND_EVENT (R171, R91). -/
def execSecondEvent (s : State) : Host.Outcome State Fault Refusal := .next (takeEvent secondTick s)

/-- MINUTE_EVENT (R171, R172). -/
def execMinuteEvent (s : State) : Host.Outcome State Fault Refusal := .next (takeEvent minuteTick s)

/-- SILENCE_EXPIRY (R91, R160). -/
def execSilenceExpiry (printer : Nat) (s : State) : Host.Outcome State Fault Refusal :=
  .next (takeEvent (takeSilenceExpiry printer) s)

/-- STALL_EXPIRY (R100). -/
def execStallExpiry (printer : Nat) (s : State) : Host.Outcome State Fault Refusal :=
  .next (takeEvent (takeStallExpiry printer) s)

/-- PERIOD_TIMER_UNDERFLOW (R26). -/
def execPeriodTimerUnderflow (tenant : Nat) (s : State) : Host.Outcome State Fault Refusal :=
  .next (takeEvent (takeUnderflow tenant) s)

/-- JOB_EXPIRY (R49). -/
def execJobExpiry (s : State) : Host.Outcome State Fault Refusal := .next (takeEvent takeJobExpiry s)

/-- GRACE_EXPIRY (R145). -/
def execGraceExpiry (s : State) : Host.Outcome State Fault Refusal := .next (takeEvent takeGraceExpiry s)

/-- CALLOUT_ESCALATION (R149). -/
def execCalloutEscalation (s : State) : Host.Outcome State Fault Refusal := .next (takeEvent takeEscalation s)

/-- SESSION_TIMEOUT (R70). -/
def execSessionTimeout (printer : Nat) (s : State) : Host.Outcome State Fault Refusal :=
  .next (takeEvent (takeSessionTimeout printer) s)

end Sys2Proof.Machine
end

