-- ==== Sys2Proof/Machine/Resets.lean ====
section
/-! DEFINITION. Resets and power (R175 to R177). Each reset is taken whole (log entry 9); whether the RESET line or a loss of
main power falls inside the reset just made is an operand of those commands. -/

namespace Sys2Proof.Machine

/-! ### The two resets -/

/-- R163: a port record after a reset: DETACHED if its link is up, DOWN otherwise. -/
def resetPort (s : State) (p : PortName) : Port := Port.reset p ((s.port p).state != .down)

/-- R163: all five ports after a reset. -/
def resetPorts (s : State) : Ports :=
  ⟨resetPort s .t0, resetPort s .t1, resetPort s .t2, resetPort s .t3, resetPort s .f⟩

/-- R176: a cold reset: every field at its cold-reset value, then the marker set. The links, the retained-memory supply and
the commands still waiting outside are not touched. -/
def coldReset (cause : ResetCause) (s : State) : State where
  ports := resetPorts s
  au := AccountUnit.cold
  jt := JobUnit.cold
  ru := ReleaseUnit.cold
  ft := FleetUnit.cold
  se := SupplyUnit.cold
  su := StockUnit.cold
  cu := CalloutUnit.cold
  flc := LinkUnit.cold
  tb := TimeUnit.cold cause
  rm := { s.rm with marker := true }
  phase := .justReset
  owed := Owed.nothing
  out := []
  pending := s.pending

/-- R2: what a warm reset changes in an account record. -/
def warmAccount (a : Account) : Account := { a with reserved := .both 0, liveJobs := 0 }

/-- R13: what a warm reset changes in a tenant record. -/
def warmTenant (t : Tenant) : Tenant := { t with reserved := .both 0 }

/-- R83: what a warm reset changes in a printer record. -/
def warmPrinter (p : Printer) : Printer :=
  { p with
    presence := .unknown
    capabilities := none
    conditions := []
    supplyOut := 0
    queue := []
    silence := if p.enrolled then some p.silenceLimit else none
    stall := none
    meter := none
    surplus := 0
    stalled := none
    protocolError := none }

/-- R107: what a warm reset changes in a lane record, before its state is computed again. -/
def warmLane (x : LaneRecord) : LaneRecord :=
  { x with candidate := none, confirmed := none, emptyFlag := false, committed := 0, uncounted := false }

/-- R177: the retained domain kept and every volatile field at its reset value; nothing reconciled yet. Work the time base's
events left owed is volatile and is dropped, a period timer's owed step too: the timer stands where it stood, and the next
minute event with the clock set owes that step again (log entry 32). -/
def warmCleared (cause : ResetCause) (s : State) : State where
  ports := resetPorts s
  au :=
    { accounts := Table.mapAll Account.free (fun _ a => warmAccount a) s.au.accounts
      tenants := Table.mapAll Tenant.cold (fun _ t => warmTenant t) s.au.tenants }
  jt := JobUnit.cold
  ru := ReleaseUnit.cold
  ft := { s.ft with printers := Table.mapAll Printer.cold (fun _ p => warmPrinter p) s.ft.printers }
  se := { s.se with lanes := Table.mapAll none (fun _ x => x.map warmLane) s.se.lanes }
  su := s.su
  cu := { s.cu with callouts := [], grace := [], deferrals := [], history := [] }
  flc := LinkUnit.cold
  tb := { s.tb with clock := none, second := 0, active := .afterHours, cause := cause }
  rm := s.rm
  phase := .justReset
  owed := Owed.nothing
  out := []
  pending := s.pending

/-- R83, R89: the draining test of every printer. -/
def drainAll (s : State) : State := (Table.numbers s.ft.printers).foldl (fun s n => drainingTest n s) s

/-- R177: a warm reset: cleared, the DRAINING printers out of service, the lanes reconciled (R112). -/
def warmReset (cause : ResetCause) (s : State) : State := reconcileLanes (drainAll (warmCleared cause s))

/-! ### The commands -/

/-- CLEAR_ALL (R176, R170): the answer leaves, and the cold reset follows (log entry 27). -/
def execClearAll (h : Head) (s : State) : Host.Outcome State Fault Refusal :=
  request h .clearAll (fun s => accept .none (coldReset .coldClear s)) s

/-- R176: the RESET line asserted. Inside a cold reset the cold reset starts again and keeps its cause; otherwise, inside a
warm reset too, the reset is warm and reported as WARM_LINE. A warm reset that starts again is made anew on the state the
first one left: the flags that one raised are cleared, and what it has done already is not done again (log entry 9). -/
def resetLine (duringReset : Bool) (s : State) : State :=
  if s.phase = .justReset ∧ duringReset ∧ s.tb.cause.isCold then coldReset s.tb.cause s
  else warmReset .warmLine s

/-- RESET_LINE_ASSERTED (R176); with main power off nothing happens. -/
def execResetLineAsserted (duringReset : Bool) (s : State) : Host.Outcome State Fault Refusal :=
  .next (if s.phase = .off then { s with out := [] } else resetLine duringReset s)

/-- R175, R176: main power comes on: cold with the marker clear, warm with it set. -/
def powerUp (retainedSupply : Bool) (s : State) : State :=
  let s := { s with rm := { s.rm with supply := retainedSupply } }
  if s.rm.marker then warmReset .warmPower s else coldReset .coldPower s

/-- POWER_ON (R175, R176), with the retained-memory supply present or not from then on; with main power present it is no
power-on and nothing happens. -/
def execPowerOn (retainedSupply : Bool) (s : State) : Host.Outcome State Fault Refusal :=
  .next (if s.phase = .off then powerUp retainedSupply s else { s with out := [] })

/-- R175: whether a loss of main power leaves the marker set: not when it cuts a cold reset short, and not without the
retained-memory supply. -/
def markerKept (duringReset : Bool) (s : State) : Bool :=
  s.rm.marker && s.rm.supply && !(s.phase == .justReset && duringReset && s.tb.cause.isCold)

/-- MAIN_POWER_LOSS (R175). Volatile state is lost: nothing reads it while power is off, and the next power-on gives all of
it its reset value (log entry 10). -/
def execMainPowerLoss (duringReset : Bool) (s : State) : Host.Outcome State Fault Refusal :=
  .next (if s.phase = .off then { s with out := [] }
    else { s with rm := { s.rm with marker := markerKept duringReset s }, phase := .off, out := [] })

/-- R175: the retained-memory supply is lost: with main power off too, the domain's contents are lost and the marker reads
clear. The spec names no event for its return while main power is present; in the model a lost supply comes back only with
POWER_ON's operand, so that a later loss of main power clears the marker (log entry 10, DESIGN CHOICE). -/
def supplyLoss (s : State) : State :=
  if s.phase = .off then { s with rm := ⟨false, false⟩, out := [] }
  else { s with rm := { s.rm with supply := false }, out := [] }

/-- RETAINED_SUPPLY_LOSS (R175). -/
def execRetainedSupplyLoss (s : State) : Host.Outcome State Fault Refusal := .next (supplyLoss s)

end Sys2Proof.Machine
end

