-- ==== Sys2Proof/Machine/Dispatch.lean ====
section
/-! DEFINITION. The dispatch: one arm for each constructor of Instr. -/

namespace Sys2Proof.Machine

/-- The effect of one command on everything but the queue of waiting commands. -/
def exec (i : Instr) (s : State) : Host.Outcome State Fault Refusal :=
  match i with
  -- Events at the master ports (R164 to R167)
  | .requestFrameArrival port frame => Sys2Proof.Machine.execRequestFrameArrival port frame s
  | .portLinkUp port => Sys2Proof.Machine.execPortLinkUp port s
  | .portLinkLoss port => Sys2Proof.Machine.execPortLinkLoss port s
  -- Requests of the MPC
  | .attach h => Sys2Proof.Machine.execAttach h s
  | .detach h => Sys2Proof.Machine.execDetach h s
  | .setNoticeMask h kinds => Sys2Proof.Machine.execSetNoticeMask h kinds s
  | .ackNotice h kinds => Sys2Proof.Machine.execAckNotice h kinds s
  | .readNotices h => Sys2Proof.Machine.execReadNotices h s
  | .readPorts h => Sys2Proof.Machine.execReadPorts h s
  -- Account and tenant requests (chapter 1)
  | .openAccount h index badge limits => Sys2Proof.Machine.execOpenAccount h index badge limits s
  | .setAccount h index changes => Sys2Proof.Machine.execSetAccount h index changes s
  | .setBadge h index badge => Sys2Proof.Machine.execSetBadge h index badge s
  | .clearBadge h index => Sys2Proof.Machine.execClearBadge h index s
  | .suspendAccount h index => Sys2Proof.Machine.execSuspendAccount h index s
  | .resumeAccount h index => Sys2Proof.Machine.execResumeAccount h index s
  | .closeAccount h index => Sys2Proof.Machine.execCloseAccount h index s
  | .adjustBalance h index cls delta => Sys2Proof.Machine.execAdjustBalance h index cls delta s
  | .readAccount h index => Sys2Proof.Machine.execReadAccount h index s
  | .readClosing h index => Sys2Proof.Machine.execReadClosing h index s
  | .readTenant h tenant => Sys2Proof.Machine.execReadTenant h tenant s
  | .assignTenant h tenant window share groups => Sys2Proof.Machine.execAssignTenant h tenant window share groups s
  | .setCeiling h tenant cls ceiling => Sys2Proof.Machine.execSetCeiling h tenant cls ceiling s
  -- Period and policy requests (chapter 2)
  | .closePeriod h => Sys2Proof.Machine.execClosePeriod h s
  | .setPolicy h policy changes => Sys2Proof.Machine.execSetPolicy h policy changes s
  | .readPeriod h tenant => Sys2Proof.Machine.execReadPeriod h tenant s
  | .readPolicy h tenant => Sys2Proof.Machine.execReadPolicy h tenant s
  | .setPeriodTimer h tenant unit length => Sys2Proof.Machine.execSetPeriodTimer h tenant unit length s
  | .startTimer h tenant => Sys2Proof.Machine.execStartTimer h tenant s
  | .stopTimer h tenant => Sys2Proof.Machine.execStopTimer h tenant s
  -- Job requests (chapter 3)
  | .submit h job => Sys2Proof.Machine.execSubmit h job s
  | .cancel h job => Sys2Proof.Machine.execCancel h job s
  | .listFinished h => Sys2Proof.Machine.execListFinished h s
  | .collect h job => Sys2Proof.Machine.execCollect h job s
  | .readJob h job => Sys2Proof.Machine.execReadJob h job s
  | .listActive h => Sys2Proof.Machine.execListActive h s
  -- Panel and fleet requests (chapters 4 and 5)
  | .setPanelTimeout h minutes => Sys2Proof.Machine.execSetPanelTimeout h minutes s
  | .enrol h printer fields => Sys2Proof.Machine.execEnrol h printer fields s
  | .unenroll h printer => Sys2Proof.Machine.execUnenroll h printer s
  | .setAdmin h printer target => Sys2Proof.Machine.execSetAdmin h printer target s
  | .flushPrinter h printer => Sys2Proof.Machine.execFlushPrinter h printer s
  | .setPrinterTimers h printer silence stall => Sys2Proof.Machine.execSetPrinterTimers h printer silence stall s
  | .setWalkup h margin coverage => Sys2Proof.Machine.execSetWalkup h margin coverage s
  | .clearCondition h printer kind => Sys2Proof.Machine.execClearCondition h printer kind s
  | .readPrinter h printer => Sys2Proof.Machine.execReadPrinter h printer s
  -- Lane requests (chapter 6)
  | .setWeights h k colour => Sys2Proof.Machine.execSetWeights h k colour s
  | .setEstimator h tolerance rebase => Sys2Proof.Machine.execSetEstimator h tolerance rebase s
  | .readWeights h => Sys2Proof.Machine.execReadWeights h s
  | .readLanes h printer => Sys2Proof.Machine.execReadLanes h printer s
  | .setFactor h printer lane factor => Sys2Proof.Machine.execSetFactor h printer lane factor s
  | .listUncounted h => Sys2Proof.Machine.execListUncounted h s
  | .ackUncounted h printer lane => Sys2Proof.Machine.execAckUncounted h printer lane s
  -- Stock requests (chapter 7)
  | .setType h type changes => Sys2Proof.Machine.execSetType h type changes s
  | .adjustStock h type onHand => Sys2Proof.Machine.execAdjustStock h type onHand s
  | .setLaneType h printer lane type => Sys2Proof.Machine.execSetLaneType h printer lane type s
  | .ackOrder h number => Sys2Proof.Machine.execAckOrder h number s
  | .receiveOrder h number received => Sys2Proof.Machine.execReceiveOrder h number received s
  | .cancelOrder h number => Sys2Proof.Machine.execCancelOrder h number s
  | .readType h type => Sys2Proof.Machine.execReadType h type s
  | .listOrders h => Sys2Proof.Machine.execListOrders h s
  -- Callout and link requests (chapters 8 and 9)
  | .setGrace h kind minutes => Sys2Proof.Machine.execSetGrace h kind minutes s
  | .setEscalation h minutes => Sys2Proof.Machine.execSetEscalation h minutes s
  | .ackCallout h number => Sys2Proof.Machine.execAckCallout h number s
  | .clearHistory h printer kinds => Sys2Proof.Machine.execClearHistory h printer kinds s
  | .listCallouts h => Sys2Proof.Machine.execListCallouts h s
  | .readLink h => Sys2Proof.Machine.execReadLink h s
  | .clearStray h address => Sys2Proof.Machine.execClearStray h address s
  -- Time requests (chapter 11)
  | .setClock h day minute weekday => Sys2Proof.Machine.execSetClock h day minute weekday s
  | .setSchedule h entries => Sys2Proof.Machine.execSetSchedule h entries s
  | .clearAll h => Sys2Proof.Machine.execClearAll h s
  | .readClock h => Sys2Proof.Machine.execReadClock h s
  -- Reports of the agents (chapter 9)
  | .hello l colour lanes meter => Sys2Proof.Machine.execHello l colour lanes meter s
  | .status l meter => Sys2Proof.Machine.execStatus l meter s
  | .condition l kind onset => Sys2Proof.Machine.execCondition l kind onset s
  | .level l readings => Sys2Proof.Machine.execLevel l readings s
  | .badge l number => Sys2Proof.Machine.execBadge l number s
  | .select l choice => Sys2Proof.Machine.execSelect l choice s
  | .sessionEnd l => Sys2Proof.Machine.execSessionEnd l s
  | .progress l grant pages => Sys2Proof.Machine.execProgress l grant pages s
  | .jobEnd l grant pages outcome => Sys2Proof.Machine.execJobEnd l grant pages outcome s
  | .installed l lane => Sys2Proof.Machine.execInstalled l lane s
  | .commandConfirmation address => Sys2Proof.Machine.execCommandConfirmation address s
  -- Events of the time base and expiries of the timers (R172)
  | .secondEvent => Sys2Proof.Machine.execSecondEvent s
  | .minuteEvent => Sys2Proof.Machine.execMinuteEvent s
  | .silenceExpiry printer => Sys2Proof.Machine.execSilenceExpiry printer s
  | .stallExpiry printer => Sys2Proof.Machine.execStallExpiry printer s
  | .periodTimerUnderflow tenant => Sys2Proof.Machine.execPeriodTimerUnderflow tenant s
  | .jobExpiry => Sys2Proof.Machine.execJobExpiry s
  | .graceExpiry => Sys2Proof.Machine.execGraceExpiry s
  | .calloutEscalation => Sys2Proof.Machine.execCalloutEscalation s
  | .sessionTimeout printer => Sys2Proof.Machine.execSessionTimeout printer s
  -- Resets and power (R175, R176), and the malformed request (R167)
  | .resetLineAsserted duringReset => Sys2Proof.Machine.execResetLineAsserted duringReset s
  | .powerOn retainedSupply => Sys2Proof.Machine.execPowerOn retainedSupply s
  | .mainPowerLoss duringReset => Sys2Proof.Machine.execMainPowerLoss duringReset s
  | .malformedRequest h kind => Sys2Proof.Machine.execMalformedRequest h kind s
  | .retainedSupplyLoss => Sys2Proof.Machine.execRetainedSupplyLoss s

end Sys2Proof.Machine
end

