-- ==== Sys2Proof/Safety.lean ====
section
/-! DEFINITION. What statements about the FC-64 speak of: a request that stands to be taken, what a request leaves when it is
answered and does nothing more, a report that is handed to its owner, and the laws the manual says its tables keep. A run is
safe while these laws hold; no command stops the machine (log entry 30). -/

namespace Sys2Proof.Machine

/-! ### Requests and reports that are taken -/

/-- R166: the request is the next its port takes: main power is on, the port is not DOWN, and the request stands at the head of
its queue, or the queue is empty and its frame arrives now (log entry 2). -/
abbrev Standing (h : Head) (r : Request) (s : State) : Prop :=
  s.phase ≠ .off ∧ (s.port h.port).state ≠ .down ∧
    ((s.port h.port).queue = [] ∨ (s.port h.port).queue.head? = some (queuedAs h r))

/-- R167: the request passes the MPC's three checks and goes to its owner. -/
abbrev Passes (h : Head) (r : Request) (s : State) : Prop :=
  inForm h.wellFormed r = true ∧ ((s.port h.port).state = .attached ∨ r = .attach) ∧ allowedOn h.port r = true

/-- The request is taken by its owner. -/
abbrev Ready (h : Head) (r : Request) (s : State) : Prop := Standing h r s ∧ Passes h r s

/-- The state with a request answered and out of its queue, and nothing else changed: what an answer alone leaves. -/
def answered (h : Head) (r : Request) (a : Answer) (s : State) : State :=
  { s with
    phase := .running
    out := [(h.port, .answer h.tag (kindCode r) a)]
    ports := s.ports.set h.port { s.port h.port with queue := (s.port h.port).queue.drop 1 } }

/-- R156: a report other than HELLO is taken: its check agrees, its printer is enrolled and PRESENT, main power is on. -/
abbrev Heard (l : LinkFrame) (s : State) : Prop :=
  s.phase ≠ .off ∧ l.checkOk = true ∧ l.address < Config.printers ∧ (s.printer l.address).enrolled = true ∧
    (s.printer l.address).presence = .present

/-- R91: the printer with its silence count restarted: what the presence step leaves where UNREACHABLE is not held. -/
def restarted (n : Nat) (s : State) : State :=
  let p := s.printer n
  { s with phase := .running, out := [] }.setPrinter n { p with silence := some p.silenceLimit }

/-- Section 9.2: the frame and kind of a report command; none for another command. -/
def reportKindOf : Instr → Option (LinkFrame × ReportKind)
  | .hello l _ _ _ => some (l, .hello)
  | .status l _ => some (l, .status)
  | .condition l _ _ => some (l, .condition)
  | .level l _ => some (l, .level)
  | .badge l _ => some (l, .badge)
  | .select l _ => some (l, .select)
  | .sessionEnd l => some (l, .sessionEnd)
  | .progress l _ _ => some (l, .progress)
  | .jobEnd l _ _ _ => some (l, .jobEnd)
  | .installed l _ => some (l, .installed)
  | _ => none

/-- R180: every field of a report lies in the range the rule states. -/
def ReportInRange : Instr → Prop
  | .hello _ _ lanes meter => 1 ≤ lanes ∧ lanes ≤ 4 ∧ meter < 4294967296
  | .status _ meter => meter < 4294967296
  | .condition _ kind _ => kind ∈ [.jam, .doorOpen, .paperOut, .hardware]
  | .level _ r => ∀ x ∈ [r.k, r.c, r.m, r.y], ∀ n, x.reading = some n → n ≤ 100
  | .badge _ number => number < 4294967296
  | .select _ choice =>
    ∀ hs, choice = .handles hs → 1 ≤ hs.length ∧ hs.length ≤ 8 ∧ ∀ h ∈ hs, h.index < 256 ∧ h.generation < 256
  | .progress _ grant pages | .jobEnd _ grant pages _ =>
    1 ≤ grant ∧ grant ≤ 65535 ∧ pages.mono ≤ 9999 ∧ pages.colour ≤ 9999
  | _ => True

/-- No expiry of an earlier minute event is left to take, whether or not the second count has issued the next minute event (log
entries 4 and 5). -/
def NoExpiryDue (s : State) : Prop :=
  s.owed = { Owed.nothing with minute := s.owed.minute } ∧ (∀ n k, s.grace n k ≠ .expiring) ∧
    (∀ n x, s.session n = some x → x.minutes ≠ 0) ∧ (∀ n, (s.printer n).stall ≠ some 0)

/-- No work of an earlier minute event is left to take (log entry 4). -/
def NothingDue (s : State) : Prop :=
  s.owed = Owed.nothing ∧ (∀ n k, s.grace n k ≠ .expiring) ∧ (∀ n x, s.session n = some x → x.minutes ≠ 0) ∧
    (∀ n, (s.printer n).stall ≠ some 0)

/-- R91: the report finds its printer reachable: the presence step restarts the silence count and nothing more. -/
abbrev HeardPlainly (l : LinkFrame) (s : State) : Prop :=
  Heard l s ∧ (s.printer l.address).holds .unreachable = false

/-- R3, R4: the request comes from tenant n's port and names an account index of its window. -/
abbrev Mine (h : Head) (n i : Nat) (s : State) : Prop :=
  h.port.tenant = some n ∧ i < 1024 ∧ (s.tenant n).owns i = true

/-- R40: the pages a job has printed under its present release. -/
def pagesPrinted (j : Job) : PerClass Nat :=
  ⟨j.done.mono - j.doneAtRelease.mono, j.done.colour - j.doneAtRelease.colour⟩

/-- R51, step 1: the pages a job has left after the release just ended. -/
def pagesToPrint (j : Job) : PerClass Nat :=
  ⟨j.pages.mono - (pagesPrinted j).mono, j.pages.colour - (pagesPrinted j).colour⟩

/-- R48: the time a number of minutes after another; past the last minute of day 65535 it is that minute. -/
def minutesAfter (u : Time) (minutes : Nat) : Time :=
  let late := min (timeMinutes u + minutes) (65535 * 1440 + 1439)
  ⟨late / 1440, late % 1440⟩

/-- R51, R102: a QUEUED job's entry j, and the entry k it has once it is sent back: HELD with nothing reserved and a fresh
expiry time, or DONE where it has nothing left to print, with the pages it was last released with (R50, log entry 14). -/
def SentBackAs (s : State) (j k : Job) : Prop :=
  (pagesToPrint j = ⟨0, 0⟩ → k = { j with
    state := .done, endReason := some .complete, finished := s.now, reservation := none, needs := none }) ∧
  (pagesToPrint j ≠ ⟨0, 0⟩ →
    k = { j with
      state := .held, pages := pagesToPrint j, reservation := none, needs := none, expiry := k.expiry
      colourClass := if (pagesToPrint j).colour = 0 then none else j.colourClass } ∧
    ∀ u, s.now = some u → k.expiry = minutesAfter u (activePolicy s j.tenant).holdTime)

/-- The jobs of tenant n that stand QUEUED in a printer's dispatch queue. -/
def queuedOf (s : State) (n m : Nat) : List Handle :=
  (s.printer m).queue.filter (fun h => (s.job h.index).state == .queued && (s.job h.index).tenant == n)

/-- The pages of a class that a job's entry records as reserved. -/
def recordedPages (j : Job) (c : PageClass) : Nat := (j.reservation.map (fun r => r.get c)).getD 0

/-- The need a job records for a lane; 0 where it records none. -/
def recordedNeed (j : Job) (l : Lane) : Nat := ((j.needs).map (fun p => p.get l)).getD 0

/-- R103, R51: every QUEUED job of tenant n is sent back: out of its queue, its entry as R51 leaves it, and REQUEUED raised on
the tenant's port, or FINISHED and a place in the finished list. -/
def JobsSentBack (n : Nat) (s t : State) : Prop :=
  ∀ m h, h ∈ queuedOf s n m →
    h ∉ (t.printer m).queue ∧ SentBackAs s (s.job h.index) (t.job h.index) ∧
    (pagesToPrint (s.job h.index) = ⟨0, 0⟩ →
      h ∈ t.finishedList n ∧ hasNotice (t.port (PortName.ofTenant n)).flags .finished = true) ∧
    (pagesToPrint (s.job h.index) ≠ ⟨0, 0⟩ → hasNotice (t.port (PortName.ofTenant n)).flags .requeued = true)

/-- R20, R114, R103: what the jobs sent back had claimed is returned, and nothing more: the accounts' and the tenant's reserved
pages and the lanes' committed needs fall by the figures the entries record. -/
def ClaimsReturned (n : Nat) (s t : State) : Prop :=
  let back : List Handle := (Table.numbers s.ft.printers).flatMap (queuedOf s n)
  (∀ i c, (t.account i).reserved.get c +
    ((back.filter (fun h => (s.job h.index).owner == i)).map (fun h => recordedPages (s.job h.index) c)).sum =
      (s.account i).reserved.get c) ∧
  (∀ c, (t.tenant n).reserved.get c + (back.map (fun h => recordedPages (s.job h.index) c)).sum =
    (s.tenant n).reserved.get c) ∧
  (∀ m l x, s.lane m l = some x → ∃ y, t.lane m l = some y ∧
    y.committed + ((queuedOf s n m).map (fun h => recordedNeed (s.job h.index) l)).sum = x.committed)

/-- R165, steps 2 and 3: tenant n's port has left ATTACHED between two states: its sessions' offers are withdrawn, other
sessions stand, and no job of the tenant is left QUEUED in a dispatch queue. -/
def SentAway (n : Nat) (s t : State) : Prop :=
  (∀ m x, s.session m = some x → x.tenant = n →
    t.session m = some { x with offers := [], withdrawn := x.withdrawn ++ x.offers }) ∧
  (∀ m x, s.session m = some x → x.tenant ≠ n → t.session m = some x) ∧
  (∀ m h, h ∈ (t.printer m).queue → (t.job h.index).state = .queued → (t.job h.index).tenant ≠ n)

/-- What no change of jobs, queues and conditions touches: the stock, the clock and schedule, the retained-memory marker, the
fleet's and the estimator's settings, the minute work owed, the commands waiting, and every account's balance and used count. -/
def Apart (s t : State) : Prop :=
  t.su = s.su ∧ t.tb = s.tb ∧ t.rm = s.rm ∧ t.owed = s.owed ∧ t.pending = s.pending ∧
  t.ft.walkupMargin = s.ft.walkupMargin ∧ t.ft.walkupClass = s.ft.walkupClass ∧
  t.se.kWeights = s.se.kWeights ∧ t.se.colourWeights = s.se.colourWeights ∧
  t.se.tolerance = s.se.tolerance ∧ t.se.rebaseLimit = s.se.rebaseLimit ∧
  (∀ i, (t.account i).balance = (s.account i).balance ∧ (t.account i).used = (s.account i).used)

/-- R113: the need of a job in one lane of a printer, rounded up; 0 in a lane the printer does not have. -/
def needOf (s : State) (n : Nat) (l : Lane) (j : Job) : Nat :=
  match s.lane n l with
  | none => 0
  | some x =>
    let units :=
      if l = .k then (j.pages.mono + j.pages.colour) * s.se.kWeights.getD j.kClass 0
      else j.pages.colour * s.se.colourWeights.getD (j.colourClass.getD 0) 0
    (units * x.factor + 63) / 64

/-- R109: a lane's effective level at a type's capacity. -/
def levelOf (x : LaneRecord) (capacity : Nat) : Nat :=
  match x.confirmed with
  | none => x.estimate
  | some r => min x.estimate (r * capacity / 100)

/-- R110: the state a lane's figures give it, from its type's capacity and percentages. -/
def StateFits (y : LaneRecord) (ty : CartridgeType) : Prop :=
  let level := match y.confirmed with
    | none => y.estimate
    | some r => min y.estimate (r * ty.capacity / 100)
  let percent := level * 100 / ty.capacity
  y.state =
    (if y.emptyFlag = true ∨ level = 0 then .empty
     else if percent ≤ ty.critical then .critical
     else if percent ≤ ty.reorder then .low
     else .ok)

/-- R21, R22: an account's record after a charge of both classes: balance, used, reserved, overrun. -/
def ChargedTo (a b : Account) (actual reservation : PerClass Nat) : Prop :=
  (b.overrun = true ↔
    a.overrun = true ∨ ∃ c, 0 < actual.get c ∧ a.balance.get c - (actual.get c : Int) < -((a.overdraft.get c : Nat) : Int)) ∧
  ∀ c, b.balance.get c = max (-65535) (min 1048575 (a.balance.get c - (actual.get c : Int))) ∧
    b.used.get c = min 16777215 (a.used.get c + actual.get c) ∧
    b.reserved.get c = a.reserved.get c - reservation.get c

/-- R115: a lane's estimate and fraction after a deduction of pages at a weight. -/
def Deducted (x y : LaneRecord) (pages weight : Nat) : Prop :=
  (pages = 0 → y.estimate = x.estimate ∧ y.fraction = x.fraction) ∧
  (pages ≠ 0 → y.estimate = x.estimate - (pages * weight * x.factor + x.fraction) / 64 ∧
    y.fraction = (pages * weight * x.factor + x.fraction) % 64)

/-- R116: every lane of a printer after the deduction of a job's pages: K every page at the K weight, C, M and Y the COLOUR
pages at the colour weight. -/
def LanesDeducted (s t : State) (n : Nat) (pages : PerClass Nat) (kClass : Nat) (colourClass : Option Nat) : Prop :=
  ∀ l x, s.lane n l = some x → ∃ y, t.lane n l = some y ∧
    (l = .k → Deducted x y (pages.mono + pages.colour) (s.se.kWeights.getD kClass 0)) ∧
    (l ≠ .k → Deducted x y pages.colour (s.se.colourWeights.getD (colourClass.getD 0) 0))

/-- R96: a job entry with the counts of a PROGRESS or JOB_END taken. -/
def countTaken (j : Job) (pages : PerClass Nat) : Job :=
  { j with done := ⟨min 19998 (j.done.mono + (pages.mono - (pagesPrinted j).mono)),
                    min 19998 (j.done.colour + (pages.colour - (pagesPrinted j).colour))⟩ }

/-- R99, R51, R50: an ACTIVE job's entry j, and the entry k an interruption leaves; one made DONE keeps its pages (log entry
14). -/
def EndedShort (j k : Job) : Prop :=
  let left := pagesToPrint j
  k.interrupts = j.interrupts + 1 ∧ k.done = j.done ∧ k.reservation = none ∧ k.needs = none ∧ k.printer = j.printer ∧
  k.grant = j.grant ∧
  (left = ⟨0, 0⟩ → k.state = .done ∧ k.endReason = some .complete ∧ k.pages = j.pages ∧ k.colourClass = j.colourClass) ∧
  (left ≠ ⟨0, 0⟩ → 3 ≤ j.interrupts + 1 → k.state = .failed ∧ k.endReason = some .interruptLimit) ∧
  (left ≠ ⟨0, 0⟩ → j.interrupts + 1 < 3 → k.state = .held ∧ k.pages = left ∧
    k.colourClass = if left.colour = 0 then none else j.colourClass)

/-- R97, R100: a CANCELLING job's entry j, and the entry k its end leaves. -/
def EndedCancelled (j k : Job) : Prop :=
  k.state = .cancelled ∧ k.endReason = some .cancelledByTenant ∧ k.reservation = none ∧ k.needs = none ∧ k.done = j.done

/-- The printer and kind of a callout. -/
def Callout.key (c : Callout) : Nat × CalloutKind := (c.printer, c.kind)
/-- The printer and kind of a deferral. -/
def Deferral.key (d : Deferral) : Nat × CalloutKind := (d.printer, d.kind)

/-- A condition stands as an item of the printer's SERVICE callout, or of its deferral. -/
def InService (s : State) (n : Nat) (k : ConditionKind) : Prop :=
  (∃ c ∈ s.cu.callouts, c.key = (n, .service) ∧ .condition k ∈ c.items) ∨
    (∃ d ∈ s.cu.deferrals, d.key = (n, .service) ∧ .condition k ∈ d.items)

/-- R174: the policy active at a clock under a schedule. -/
def PolicyAt (clock : Option Clock) (schedule : List DaySpan) (p : PolicyName) : Prop :=
  (clock = none → p = .afterHours) ∧
  (∀ c, clock = some c →
    (p = .day ↔ (schedule.getD c.weekday ⟨0, 0⟩).start ≤ c.minute ∧
      c.minute < (schedule.getD c.weekday ⟨0, 0⟩).finish))

/-- R163: a port's record after a reset, from whether its link is up. -/
def afterReset (s : State) (p : PortName) : Port where
  state := if (s.port p).state = .down then .down else .detached
  queue := []
  flags := 0
  mask := if p = .f then 0x03E0#16 else 0x001F#16

/-- R176: what a cold reset leaves: the state of power-on, but for the links, the retained-memory supply, the cause and the
commands still to come. -/
def coldAfter (cause : ResetCause) (s : State) : State :=
  { State.reset with
    ports := ⟨afterReset s .t0, afterReset s .t1, afterReset s .t2, afterReset s .t3, afterReset s .f⟩
    tb := { State.reset.tb with cause := cause }
    rm := ⟨true, s.rm.supply⟩
    phase := .justReset
    pending := s.pending }

/-! ### The laws of the tables -/

/-- Log entry 20: every table of the state is in the canonical form. -/
abbrev Canonical (s : State) : Prop :=
  Table.wf Account.free s.au.accounts = true ∧ Table.wf Tenant.cold s.au.tenants = true ∧
  Table.wf (Job.freeAt 0) s.jt.jobs = true ∧ Table.wf [] s.jt.finished = true ∧ Table.wf none s.ru.sessions = true ∧
  Table.wf Printer.cold s.ft.printers = true ∧ Table.wf none s.se.lanes = true ∧
  Table.wf CartridgeType.cold s.su.types = true ∧ Table.wf Grace.idle s.cu.grace = true ∧
  Table.wf 0 s.cu.history = true ∧ Table.wf [] s.flc.queues = true ∧ Table.wf none s.flc.strays = true

/-- The bounds of the queues: requests (R163), commands (R155), released jobs (R94), orders (section 7.4), callouts (R140). -/
def Bounded (s : State) : Prop :=
  (∀ p, (s.port p).queue.length ≤ 4) ∧ (∀ a, (s.commands a).length ≤ 8) ∧ (∀ n, (s.printer n).queue.length ≤ 4) ∧
    s.su.orders.length ≤ 16 ∧ s.cu.callouts.length ≤ 32

/-- R163, R169, section 10.4: every port's flags and mask name kinds of that port alone. -/
def NoticesOwn (s : State) : Prop :=
  ∀ p, (s.port p).flags &&& ~~~(portKinds p) = 0 ∧ (s.port p).mask &&& ~~~(portKinds p) = 0

/-- The orders of a type in the order queue. -/
def ordersOf (s : State) (t : Nat) : List Order := s.su.orders.filter (fun o => o.type == t)

/-- R132: at most one order of a type in the queue, on order equal to its quantity or 0; numbers differ. -/
def OrderLaw (s : State) : Prop :=
  s.su.orders.length ≤ 16 ∧ (s.su.orders.map Order.number).Nodup ∧
    ∀ t, (ordersOf s t = [] ∧ (s.ctype t).onOrder = 0) ∨ (∃ o, ordersOf s t = [o] ∧ (s.ctype t).onOrder = o.quantity)

/-- R139, R140, R148: at most 32 callouts, numbers differ, one for each printer and kind, none without an item; one deferral for each printer and
kind, none without an item, none for a printer and kind that has a callout, and none while the queue has room. -/
abbrev CalloutLaw (s : State) : Prop :=
  s.cu.callouts.length ≤ 32 ∧ (s.cu.callouts.map Callout.number).Nodup ∧
  (s.cu.callouts.map Callout.key).Nodup ∧ (∀ c ∈ s.cu.callouts, c.items ≠ []) ∧
  (s.cu.deferrals.map Deferral.key).Nodup ∧ (∀ d ∈ s.cu.deferrals, d.items ≠ []) ∧
  (∀ d ∈ s.cu.deferrals, d.key ∉ s.cu.callouts.map Callout.key) ∧
  (s.cu.deferrals ≠ [] → s.cu.callouts.length = 32)

/-- The lane records of a type that hold an allocation. -/
def allocatedLanes (s : State) (t : Nat) : List (Nat × Option LaneRecord) :=
  s.se.lanes.filter (fun e => e.2.any (fun x => x.type == t && x.allocation))

/-- R129, R123: allocated is at most on hand and counts the lanes that hold an allocation; no lane both holds and waits; a
wait list names, once each, the lanes of the type that wait; an unenrolled printer has no lane. -/
def StockLaw (s : State) : Prop :=
  (∀ t, (s.ctype t).allocated ≤ (s.ctype t).onHand ∧ (s.ctype t).onHand ≤ 999 ∧
    (s.ctype t).allocated = (allocatedLanes s t).length) ∧
  (∀ n l x, s.lane n l = some x → ¬(x.allocation = true ∧ x.waiting = true)) ∧
  (∀ t, (s.ctype t).waitList.Nodup) ∧
  (∀ t (w : LaneName), w ∈ (s.ctype t).waitList ↔ ∃ x, s.lane w.printer w.lane = some x ∧ x.type = t ∧ x.waiting = true) ∧
  (∀ n l, (s.printer n).enrolled = false → s.lane n l = none)

/-- R94: the jobs of the dispatch queues are the released jobs, each in one queue, once, and only a head prints; a printer
OUT_OF_SERVICE has an empty queue, and one not enrolled is OUT_OF_SERVICE (R87, R88). -/
def DispatchLaw (s : State) : Prop :=
  (∀ n, (s.printer n).queue.length ≤ 4 ∧ (s.printer n).queue.Nodup) ∧
  (∀ n h, h ∈ (s.printer n).queue →
    (s.job h.index).generation = h.generation ∧ (s.job h.index).state.released = true ∧
      (s.job h.index).printer = some n) ∧
  (∀ i, (s.job i).state.released = true →
    ∃ n, (s.job i).printer = some n ∧ (⟨i, (s.job i).generation⟩ : Handle) ∈ (s.printer n).queue) ∧
  (∀ n h, h ∈ (s.printer n).queue.tail → (s.job h.index).state = .queued) ∧
  (∀ n, (s.printer n).admin = .outOfService → (s.printer n).queue = []) ∧
  (∀ n, (s.printer n).enrolled = false → (s.printer n).admin = .outOfService)

/-- R67: an account has at most one open session, and every job in a session's lists is HELD, owned by its account, and
listed once. -/
def SessionLaw (s : State) : Prop :=
  (∀ n m x y, s.session n = some x → s.session m = some y → x.account = y.account → n = m) ∧
  (∀ n x h, s.session n = some x → h ∈ x.offers ++ x.withdrawn →
    (s.job h.index).state = .held ∧ (s.job h.index).generation = h.generation ∧
      (s.job h.index).owner = x.account) ∧
  (∀ n x, s.session n = some x → (x.offers ++ x.withdrawn).Nodup)

/-- R114: every lane's committed need is the sum of the needs recorded for it by the jobs of its printer's queue. -/
def CommittedLaw (s : State) : Prop :=
  ∀ n l x, s.lane n l = some x →
    x.committed = ((s.printer n).queue.map (fun h => recordedNeed (s.job h.index) l)).sum

/-- R110: every lane's state is the one its figures give. -/
def LaneLaw (s : State) : Prop := ∀ n l x, n < 64 → s.lane n l = some x → StateFits x (s.ctype x.type)

/-- R14: the pages a job's reservation counts for: those of a QUEUED, ACTIVE or CANCELLING job. -/
def reservedPages (j : Job) (c : PageClass) : Nat := if j.state.released then recordedPages j c else 0

/-- R3, R8, R10: a FREE account holds the reset values; no two accounts hold one badge; windows share no index; a non-FREE account
lies in a window; a job's owner is a non-FREE account in the window of the job's tenant. -/
def WindowLaw (s : State) : Prop :=
  (∀ i, (s.account i).state = .free → s.account i = Account.free) ∧
  (∀ i j b, (s.account i).badge = some b → (s.account j).badge = some b → i = j) ∧
  (∀ m n i, m < 4 → n < 4 → (s.tenant m).owns i = true → (s.tenant n).owns i = true → m = n) ∧
  (∀ i, (s.account i).state ≠ .free → ∃ n, n < 4 ∧ (s.tenant n).owns i = true) ∧
  (∀ i, (s.job i).state ≠ .free → (s.job i).tenant < 4 ∧
    (s.tenant (s.job i).tenant).owns (s.job i).owner = true ∧ (s.account (s.job i).owner).state ≠ .free)

/-- R14, R23, R47: reserved pages are the sums of the reservations, and of the accounts' reserved pages; live jobs counts the
account's live entries, at most 8; a tenant has at most its share of entries in use, and the shares sum to at most 256. -/
def CountLaw (s : State) : Prop :=
  (∀ i c, (s.account i).reserved.get c =
    ((s.jt.jobs.filter (fun e => e.2.owner == i)).map (fun e => reservedPages e.2 c)).sum) ∧
  (∀ n c, n < 4 → (s.tenant n).reserved.get c =
    ((s.au.accounts.filter (fun e => (s.tenant n).owns e.1)).map (fun e => e.2.reserved.get c)).sum) ∧
  (∀ i, (s.account i).liveJobs = (s.jt.jobs.filter (fun e => e.2.state.live && e.2.owner == i)).length ∧
    (s.account i).liveJobs ≤ 8) ∧
  (∀ n, n < 4 → (s.jt.jobs.filter (fun e => e.2.state != .free && e.2.tenant == n)).length ≤ (s.tenant n).share) ∧
  (s.tenant 0).share + (s.tenant 1).share + (s.tenant 2).share + (s.tenant 3).share ≤ 256

/-- The laws that speak of each other's tables, kept together. -/
def FleetLaws (s : State) : Prop :=
  Canonical s ∧ StockLaw s ∧ DispatchLaw s ∧ SessionLaw s ∧ CommittedLaw s

/-- The laws of the accounts, with the fleet's laws they rest on. -/
def AccountLaws (s : State) : Prop := FleetLaws s ∧ WindowLaw s ∧ CountLaw s

/-- The step keeps a law: whenever it answers a next state from one where the law holds, the law holds there. -/
def KeptByStep (law : State → Prop) : Prop := ∀ s s', law s → step s = .next s' → law s'

/-! ### What a warm reset leaves -/

/-- R112, R129: at a warm reset a lane that comes out OK holds no claim and another does; an allocation kept across the reset
stays with a lane that needs it, and a lane that waited waits or has been served. -/
def ClaimsReconciled (s t : State) : Prop :=
  (∀ n l x y, n < 64 → s.lane n l = some x → t.lane n l = some y → y.state ≠ .ok →
    (y.allocation = true ∨ y.waiting = true) ∧ (x.allocation = true → y.allocation = true)) ∧
  (StockLaw s → ∀ n l y, n < 64 → t.lane n l = some y → (y.state = .ok ↔ y.allocation = false ∧ y.waiting = false))

/-- R123, R130 to R132, R177: the stock after a warm reset of a state s: the settings and the count on hand kept, the orders kept
with new ones behind them, raised with no time and numbered on from the counter; where the stock law holds, a type none of
whose lanes gained or lost a claim stands as it stood, in the deferral list too; a type newly deferred wants an order the
queue has no room for. -/
def StockReconciled (s t : State) : Prop :=
  (∀ u, (t.ctype u).capacity = (s.ctype u).capacity ∧ (t.ctype u).reorder = (s.ctype u).reorder ∧
    (t.ctype u).critical = (s.ctype u).critical ∧ (t.ctype u).onHand = (s.ctype u).onHand ∧
    (t.ctype u).level = (s.ctype u).level ∧ (t.ctype u).quantity = (s.ctype u).quantity ∧
    (t.ctype u).ordering = (s.ctype u).ordering) ∧
  (∃ fresh, t.su.orders = s.su.orders ++ fresh ∧ (∀ o ∈ fresh, o.acknowledged = false ∧ o.raised = none) ∧
    (fresh = [] → t.su.orderCounter = s.su.orderCounter) ∧
    (∀ o, fresh.getLast? = some o → t.su.orderCounter = if o.number < 65535 then o.number + 1 else 1)) ∧
  (StockLaw s → ∀ u, (∀ n l x y, s.lane n l = some x → x.type = u → t.lane n l = some y →
      y.allocation = x.allocation ∧ y.waiting = x.waiting) →
    t.ctype u = s.ctype u ∧ (u ∈ t.su.deferred ↔ u ∈ s.su.deferred)) ∧
  (∀ u, u ∈ t.su.deferred → u ∉ s.su.deferred → (t.ctype u).ordering = true ∧ 16 ≤ t.su.orders.length ∧
    ((t.ctype u).onHand : Int) + (t.ctype u).onOrder - (t.ctype u).allocated - (t.ctype u).waitList.length ≤
      (t.ctype u).level)

/-- R112, R139, R147, R148, R177: the callouts after a warm reset of a state s: SUPPLY alone, with no times, one item for each lane
that came out CRITICAL or EMPTY, numbered on from the counter kept; deferrals only with the queue full. -/
def CalloutsRebuilt (s t : State) : Prop :=
  (∀ c ∈ t.cu.callouts, c.kind = .supply ∧ c.level = 1 ∧ c.acknowledged = false ∧ c.raised = none ∧ c.deadline = none) ∧
  (∀ d ∈ t.cu.deferrals, d.kind = .supply ∧ d.time = none ∧ t.cu.callouts.length = 32) ∧
  (∀ n l y, n < 64 → t.lane n l = some y →
    ((y.state = .critical ∨ y.state = .empty) ↔
      (∃ c ∈ t.cu.callouts, c.key = (n, .supply) ∧ .lane l ∈ c.items) ∨
        (∃ d ∈ t.cu.deferrals, d.key = (n, .supply) ∧ .lane l ∈ d.items))) ∧
  (t.cu.callouts = [] → t.cu.calloutCounter = s.cu.calloutCounter) ∧
  (∀ c, t.cu.callouts.head? = some c → c.number = s.cu.calloutCounter) ∧
  (∀ c, t.cu.callouts.getLast? = some c → t.cu.calloutCounter = if c.number < 65535 then c.number + 1 else 1)

/-- R177, R112, R83, R130, R139: port F's flags after a warm reset of a state s: FLEET where a printer was DRAINING, CALLOUT where
a callout is made, ORDER where an order is raised, and no other. -/
def FlagsRaised (s t : State) : Prop :=
  (∀ k, hasNotice (t.port .f).flags k = true → k = .fleet ∨ k = .callout ∨ k = .order) ∧
  (hasNotice (t.port .f).flags .fleet = true ↔ ∃ n, (s.printer n).admin = .draining) ∧
  (hasNotice (t.port .f).flags .callout = true ↔ t.cu.callouts ≠ []) ∧
  (hasNotice (t.port .f).flags .order = true ↔ s.su.orders.length < t.su.orders.length)

/-- R152, R112: every fault history is empty after a warm reset, but for SUPPLY_OUT of a printer with a lane computed EMPTY. -/
def HistoriesRestarted (t : State) : Prop :=
  (∀ n k, n < 64 →
    (hasKind (t.history n) k = true ↔ k = .supplyOut ∧ ∃ l y, t.lane n l = some y ∧ y.state = .empty)) ∧
  (∀ n, 64 ≤ n → t.history n = 0)

/-- R177, R2, R13, R41, R61, R83, R107, R112, R142, R152, R155, R163, R171: what a warm reset leaves of a state s. -/
def WarmAfter (cause : ResetCause) (s t : State) : Prop :=
  (∀ i, t.account i = { s.account i with reserved := ⟨0, 0⟩, liveJobs := 0 }) ∧
  (∀ n, t.tenant n = { s.tenant n with reserved := ⟨0, 0⟩ }) ∧
  (∀ i, t.job i = State.reset.job i) ∧ (∀ n, t.finishedList n = []) ∧
  (∀ n, t.session n = none) ∧ t.ru.panelTimeout = 2 ∧ t.ru.grantCounter = 1 ∧
  (∀ n, ∃ conditions supplyOut, t.printer n = { s.printer n with
    admin := if (s.printer n).admin = .draining then .outOfService else (s.printer n).admin
    presence := .unknown, capabilities := none, conditions := conditions, supplyOut := supplyOut, queue := []
    silence := if (s.printer n).enrolled = true then some (s.printer n).silenceLimit else none
    stall := none, meter := none, surplus := 0, stalled := none, protocolError := none }) ∧
  (∀ n k, k ≠ .supplyOut → (t.printer n).holds k = false) ∧
  (∀ n l, n < 64 →
    (hasLane (t.printer n).supplyOut l = true ↔ ∃ x, t.lane n l = some x ∧ x.state = .empty)) ∧
  (∀ n, n < 64 → ((t.printer n).holds .supplyOut = true ↔ (t.printer n).supplyOut ≠ 0)) ∧ HistoriesRestarted t ∧
  (∀ n l x, s.lane n l = some x → ∃ y, t.lane n l = some y ∧ y.type = x.type ∧ y.estimate = x.estimate ∧
    y.fraction = x.fraction ∧ y.factor = x.factor ∧ y.candidate = none ∧ y.confirmed = none ∧ y.emptyFlag = false ∧
    y.committed = 0 ∧ y.uncounted = false ∧ (n < 64 → StateFits y (s.ctype x.type))) ∧
  (∀ n l, s.lane n l = none → t.lane n l = none) ∧
  t.se.kWeights = s.se.kWeights ∧ t.se.colourWeights = s.se.colourWeights ∧ t.se.tolerance = s.se.tolerance ∧
  t.se.rebaseLimit = s.se.rebaseLimit ∧ t.ft.walkupMargin = s.ft.walkupMargin ∧ t.ft.walkupClass = s.ft.walkupClass ∧
  ClaimsReconciled s t ∧ StockReconciled s t ∧ CalloutsRebuilt s t ∧
  (∀ n k, t.grace n k = .idle) ∧ t.cu.graceTimes = s.cu.graceTimes ∧ t.cu.escalation = s.cu.escalation ∧
  (∀ a, t.commands a = []) ∧ (∀ a, t.stray a = none) ∧
  t.tb = { s.tb with clock := none, second := 0, active := .afterHours, cause := cause } ∧
  (∀ p, (t.port p).state = (afterReset s p).state ∧ (t.port p).queue = [] ∧ (t.port p).mask = (afterReset s p).mask) ∧
  (∀ p, p ≠ .f → (t.port p).flags = 0) ∧ FlagsRaised s t ∧
  t.phase = .justReset ∧ t.owed = Owed.nothing ∧ t.out = [] ∧ t.pending = s.pending

end Sys2Proof.Machine
end

