-- ==== Sys2Proof/Certificates/Slice0/Obligations.lean ====
section
/-! DEFINITION. The statements for the provers, from the numbered rules of spec/. A statement's title, text and cites are in
OBLIGATIONS.json. -/

open Sys2Proof Sys2Proof.Machine

/-! ### The step, the reset, the laws -/

/-- A step takes the command at the front of the queue and runs it on the state with the queue's rest; an empty queue idles.
The queue is the model's own (log entry 1). -/
def Obligations.StepTakesTheFrontCommand : Prop :=
  (∀ (c : Instr) (rest : List Instr) (s : State),
    step { s with pending := c :: rest } = exec c { s with pending := rest }) ∧
  (∀ s : State, step { s with pending := [] } = .next { s with pending := [] })

/-- The machine right after a cold reset (R1, R13, R24, R35, R41, R61, R82, R83, R107, R108, R123, R139, R141, R142, R148,
R152, R155, R163, R171, R174, R176). That the port links are down is the model's choice (log entry 11). -/
def Obligations.ResetLeavesAFreshPart : Prop :=
  (∀ i, State.reset.account i =
    ({ state := .free, badge := none, allowance := ⟨0, 0⟩, balance := ⟨0, 0⟩, reserved := ⟨0, 0⟩, used := ⟨0, 0⟩,
       overdraft := ⟨0, 0⟩, carryCap := ⟨0, 0⟩, closingUsed := ⟨none, none⟩, closingBalance := ⟨none, none⟩,
       liveJobs := 0, overrun := false } : Account)) ∧
  (∀ n, State.reset.tenant n =
    ({ window := none, share := 0, groups := 0, ceiling := ⟨none, none⟩, used := ⟨0, 0⟩, reserved := ⟨0, 0⟩,
       day := ⟨true, 9999, 480, false⟩, afterHours := ⟨false, 200, 720, false⟩,
       timer := { unit := .hours, length := 720, count := 720, hourStep := 0, running := false },
       period := 0 } : Tenant)) ∧
  (∀ i, State.reset.job i =
    ({ state := .free, generation := 0, tenant := 0, owner := 0, label := 0, pages := ⟨0, 0⟩, kClass := 0
       colourClass := none, groups := 0, submitted := ⟨0, 0⟩, expiry := ⟨0, 0⟩, printer := none, grant := none
       reservation := none, needs := none, done := ⟨0, 0⟩, doneAtRelease := ⟨0, 0⟩, interrupts := 0, endReason := none
       finished := none } : Job)) ∧
  (∀ n, State.reset.finishedList n = []) ∧
  (∀ n, State.reset.session n = none) ∧ State.reset.ru.panelTimeout = 2 ∧ State.reset.ru.grantCounter = 1 ∧
  (∀ n, State.reset.printer n =
    ({ enrolled := false, floor := 0, group := 0, colour := false, laneTypes := ⟨none, none, none, none⟩
       silenceLimit := 90, stallLimit := 20, admin := .outOfService, presence := .unknown, capabilities := none
       conditions := [], supplyOut := 0, queue := [], silence := none, stall := none, meter := none, surplus := 0
       walkup := 0, stalled := none, protocolError := none } : Printer)) ∧
  State.reset.ft.walkupMargin = 10 ∧ State.reset.ft.walkupClass = 2 ∧
  (∀ n l, State.reset.lane n l = none) ∧
  State.reset.se.kWeights = [1, 2, 3, 4, 6, 9, 13, 18] ∧ State.reset.se.colourWeights = [1, 2, 4, 6, 9, 13, 19, 27] ∧
  State.reset.se.tolerance = 4 ∧ State.reset.se.rebaseLimit = 15 ∧
  (∀ t, State.reset.ctype t =
    ({ capacity := 10000, reorder := 20, critical := 5, onHand := 0, allocated := 0, level := 0, quantity := 1,
       onOrder := 0, ordering := false, waitList := [] } : CartridgeType)) ∧
  State.reset.su.orders = [] ∧ State.reset.su.deferred = [] ∧ State.reset.su.orderCounter = 1 ∧
  State.reset.cu.callouts = [] ∧ State.reset.cu.calloutCounter = 1 ∧ State.reset.cu.deferrals = [] ∧
  (∀ n k, State.reset.grace n k = .idle) ∧ (∀ n, State.reset.history n = 0) ∧
  State.reset.cu.graceTimes = [10, 5, 20, 0, 3, 0, 0] ∧ State.reset.cu.escalation = 30 ∧
  (∀ a, State.reset.commands a = []) ∧ (∀ a, State.reset.stray a = none) ∧
  State.reset.tb.clock = none ∧ State.reset.tb.second = 0 ∧ State.reset.tb.active = .afterHours ∧
  State.reset.tb.schedule =
    [⟨480, 1080⟩, ⟨480, 1080⟩, ⟨480, 1080⟩, ⟨480, 1080⟩, ⟨480, 1080⟩, ⟨0, 0⟩, ⟨0, 0⟩] ∧
  State.reset.tb.cause = .coldPower ∧ State.reset.rm.marker = true ∧
  (∀ p, (State.reset.port p).state = .down ∧ (State.reset.port p).queue = [] ∧ (State.reset.port p).flags = 0 ∧
    (State.reset.port p).mask = (if p = .f then 0x03E0#16 else 0x001F#16)) ∧
  State.reset.out = [] ∧ State.reset.pending = []

/-- Every law stated below to be kept by each step holds after reset. -/
def Obligations.LawsHoldAtReset : Prop :=
  Canonical State.reset ∧ Bounded State.reset ∧ NoticesOwn State.reset ∧ OrderLaw State.reset ∧
    CalloutLaw State.reset ∧ FleetLaws State.reset ∧ LaneLaw State.reset ∧ AccountLaws State.reset

/-- The model's own law (log entry 20): equal tables are equal data. -/
def Obligations.StepKeepsTablesCanonical : Prop := KeptByStep Canonical

/-- R163, R155, R94, section 7.4, R140: the queues keep their bounds. -/
def Obligations.StepKeepsQueuesBounded : Prop := KeptByStep (fun s => Canonical s ∧ Bounded s)

/-- R163, R168, R169: a port never holds a flag or a mask bit of another port's kind. -/
def Obligations.StepKeepsNoticeKinds : Prop := KeptByStep NoticesOwn

/-- R132. -/
def Obligations.StepKeepsOrderLaw : Prop := KeptByStep OrderLaw

/-- R140, R148. -/
def Obligations.StepKeepsCalloutLaw : Prop := KeptByStep CalloutLaw

/-- R129, R94, R67, R114, with the canonical form of the tables they speak of. -/
def Obligations.StepKeepsFleetLaws : Prop := KeptByStep FleetLaws

/-- R110: no lane's stored state ever differs from the state its figures give. -/
def Obligations.StepKeepsLaneStates : Prop := KeptByStep (fun s => Canonical s ∧ LaneLaw s)

/-- R3, R8, R10, R14, R23, R47, with the fleet's laws, which say which jobs are released. -/
def Obligations.StepKeepsAccountLaws : Prop := KeptByStep AccountLaws

/-- Section 12.4, R178, R180: the frame of a report that is well formed spells that report, with every field at every value
its range admits. -/
def Obligations.ReportFramesRoundTrip : Prop :=
  ∀ (i : Instr) (l : LinkFrame) (k : ReportKind), reportKindOf i = some (l, k) → l.checkOk = true → l.address < 64 →
    ReportInRange i → ∃ bs, reportBytes i = some bs ∧ reportOf bs = some i

/-! ### The master ports -/

/-- R167, R179: the MPC's checks of a request, in their order; the first that fails is the answer, and nothing else changes.
MALFORMED_REQUEST is such a request: its kind code is no request code. A request of numbers, sets or no fields at all has
nothing in its body that its form could fail on: the model's reading of R179 (log entry 7). -/
def Obligations.PortChecksComeInOrder : Prop :=
  (∀ (i : Instr) (h : Head) (r : Request) (s : State), i.asRequest = some (h, r) → Standing h r s →
    (inForm h.wellFormed r = false → exec i s = .next (answered h r (.refused .malformed) s)) ∧
    (inForm h.wellFormed r = true → (s.port h.port).state ≠ .attached → r ≠ .attach →
      exec i s = .next (answered h r (.refused .notAttached) s)) ∧
    (inForm h.wellFormed r = true → ((s.port h.port).state = .attached ∨ r = .attach) →
      allowedOn h.port r = false → exec i s = .next (answered h r (.refused .wrongPort) s))) ∧
  (∀ (h : Head) (k : Nat) (s : State), Standing h (.unknown k) s →
    exec (.malformedRequest h k) s = .next (answered h (.unknown k) (.refused .malformed) s)) ∧
  (∀ (w : Bool) (r : Request),
    r ∈ [.attach, .detach, .readNotices, .readPorts, .closePeriod, .listFinished, .listActive, .readWeights, .listUncounted,
      .listOrders, .listCallouts, .readLink, .clearAll, .readClock] → inForm w r = true)

/-- R166, R178: a frame arriving at a port is dropped, refused BUSY, or queued. R169: SET_NOTICE_MASK and ACK_NOTICE; bits
10..15 of a set are not read (R179). R168: raising a notice kind. -/
def Obligations.PortFramesAndNotices : Prop :=
  (∀ (p : PortName) (f : RequestFrame) (s : State), s.phase ≠ .off → (s.port p).state ≠ .down →
     (f.checkOk = false → exec (.requestFrameArrival p f) s = .next { s with phase := .running, out := [] }) ∧
     (f.checkOk = true → (s.port p).queue.length ≥ 4 →
       exec (.requestFrameArrival p f) s = .next { s with
         phase := .running
         out := [(p, .answer f.carried.tag (kindCode f.carried.request) (.refused .busy))] }) ∧
     (f.checkOk = true → (s.port p).queue.length < 4 →
       exec (.requestFrameArrival p f) s = .next
         ({ s with phase := .running, out := [] }.setPort p
           { s.port p with queue := (s.port p).queue ++ [f.carried] }))) ∧
  (∀ (h : Head) (kinds : NoticeSet) (s : State),
     let p := s.port h.port
     let named := kinds &&& 0x03FF#16
     let fresh := named &&& ~~~p.mask &&& p.flags
     let queue := p.queue.drop 1
     (Ready h (.setNoticeMask kinds) s →
       (named &&& ~~~(portKinds h.port) ≠ 0 →
         exec (.setNoticeMask h kinds) s = .next (answered h (.setNoticeMask kinds) (.refused .outOfRange) s)) ∧
       (named &&& ~~~(portKinds h.port) = 0 →
         exec (.setNoticeMask h kinds) s = .next { s with
           phase := .running
           ports := s.ports.set h.port { p with mask := named, queue := queue }
           out := (h.port, .answer h.tag 3 (.accepted (.notices named p.flags))) ::
             (if fresh = 0 then [] else [(h.port, .notice fresh)]) })) ∧
     (Ready h (.ackNotice kinds) s →
       (named &&& ~~~(portKinds h.port) ≠ 0 →
         exec (.ackNotice h kinds) s = .next (answered h (.ackNotice kinds) (.refused .outOfRange) s)) ∧
       (named &&& ~~~(portKinds h.port) = 0 →
         exec (.ackNotice h kinds) s = .next { s with
           phase := .running
           ports := s.ports.set h.port { p with flags := p.flags &&& ~~~named, queue := queue }
           out := [(h.port, .answer h.tag 4 (.accepted (.flags (p.flags &&& ~~~named))))] }))) ∧
  (∀ (p : PortName) (k : NoticeKind) (s : State),
     (hasNotice (s.port p).flags k = true → raise p k s = s) ∧
     (hasNotice (s.port p).flags k = false →
       raise p k s = { s with
         ports := s.ports.set p { s.port p with flags := (s.port p).flags ||| k.only }
         out := s.out ++
           (if hasNotice (s.port p).mask k = true ∧ (s.port p).state = .attached then [(p, .notice k.only)] else []) }))

/-- R164, R165, R103: a link comes up or is lost. What an ATTACHED tenant port's loss sends back is stated where the fleet's laws
hold, and the sums it returns where the accounts' laws hold and every command queue has room. The pages of a job made DONE
by it follow R50's sentence (log entry 14). -/
def Obligations.PortLinkUpAndLoss : Prop :=
  (∀ (p : PortName) (s : State), s.phase ≠ .off → (s.port p).state = .down →
    exec (.portLinkUp p) s = .next
      ({ s with phase := .running, out := [] }.setPort p { s.port p with state := .detached })) ∧
  (∀ (p : PortName) (s : State), s.phase ≠ .off → ((s.port p).state = .detached ∨ p = .f) →
    exec (.portLinkLoss p) s = .next
      ({ s with phase := .running, out := [] }.setPort p { s.port p with state := .down, queue := [] })) ∧
  (∀ (p : PortName) (n : Nat) (s : State), s.phase ≠ .off → (s.port p).state = .attached → p.tenant = some n →
    ∃ t, exec (.portLinkLoss p) s = .next t ∧ (t.port p).state = .down ∧ (t.port p).queue = [] ∧
      (t.port p).mask = (s.port p).mask ∧ hasNotice (t.port .f).flags .tenant = true ∧ SentAway n s t ∧ Apart s t ∧
      (FleetLaws s → JobsSentBack n s t) ∧
      (AccountLaws s → (∀ a, (s.commands a).length < 8) → ClaimsReturned n s t))

/-- R164: ATTACH. Family code and revision are free values (log entry 8). -/
def Obligations.AttachOpensAPort : Prop :=
  ∀ (h : Head) (s : State), Ready h .attach s →
    ((s.port h.port).state = .attached → exec (.attach h) s = .next (answered h .attach (.refused .badState) s)) ∧
    ((s.port h.port).state = .detached → (∃ n, h.port.tenant = some n ∧ (s.tenant n).window = none) →
      exec (.attach h) s = .next (answered h .attach (.refused .notAssigned) s)) ∧
    ((s.port h.port).state = .detached → (∀ n, h.port.tenant = some n → (s.tenant n).window ≠ none) →
      let p := s.port h.port
      let pendingKinds := p.flags &&& p.mask
      let t : State := { s with
        phase := .running
        ports := s.ports.set h.port { p with state := .attached, queue := p.queue.drop 1 }
        out := (h.port, .answer h.tag 1 (.accepted (.attached Config.partFamilyCode Config.partRevision h.port))) ::
          (if pendingKinds = 0 then [] else [(h.port, .notice pendingKinds)]) }
      exec (.attach h) s = .next (if h.port = .f then t else raise .f .tenant t))

/-- R165, R103: DETACH on an ATTACHED port; the answer is the first frame. What it sends back is stated where the fleet's laws
hold, and the sums it returns where the accounts' laws hold and every command queue has room. The pages of a job made DONE
by it follow R50's sentence (log entry 14). -/
def Obligations.DetachClosesAPort : Prop :=
  (∀ (h : Head) (s : State), Ready h .detach s → h.port = .f →
    exec (.detach h) s = .next ((answered h .detach (.accepted .none) s).setPort .f
      { s.port .f with state := .detached, queue := (s.port .f).queue.drop 1 })) ∧
  (∀ (h : Head) (n : Nat) (s : State), Ready h .detach s → h.port.tenant = some n →
    ∃ t, exec (.detach h) s = .next t ∧ (t.port h.port).state = .detached ∧
      (t.port h.port).queue = (s.port h.port).queue.drop 1 ∧ (t.port h.port).mask = (s.port h.port).mask ∧
      t.out.head? = some (h.port, .answer h.tag 2 (.accepted .none)) ∧
      hasNotice (t.port .f).flags .tenant = true ∧ SentAway n s t ∧ Apart s t ∧
      (FleetLaws s → JobsSentBack n s t) ∧
      (AccountLaws s → (∀ a, (s.commands a).length < 8) → ClaimsReturned n s t))

/-! ### Accounts and tenants -/

/-- R5, R8: OPEN_ACCOUNT makes a FREE record ACTIVE; every other record stands. -/
def Obligations.OpenAccountFillsARecord : Prop :=
  ∀ (h : Head) (n i : Nat) (badge : Option Nat) (l : PerClass Limits) (s : State), Canonical s →
    Ready h (.openAccount i badge l) s → Mine h n i s →
    (∀ c, (l.get c).allowance ≤ 65535 ∧ (l.get c).overdraft ≤ 65535 ∧ (l.get c).carryCap ≤ 65535) →
    (∀ b, badge = some b → 1 ≤ b ∧ b ≤ 4294967295) →
    ((s.account i).state ≠ .free →
      exec (.openAccount h i badge l) s =
        .next (answered h (.openAccount i badge l) (.refused .badState) s)) ∧
    ((s.account i).state = .free →
      (∃ j b, badge = some b ∧ j ≠ i ∧ (s.account j).state ≠ .free ∧ (s.account j).badge = some b) →
      exec (.openAccount h i badge l) s =
        .next (answered h (.openAccount i badge l) (.refused .badgeInUse) s)) ∧
    ((s.account i).state = .free →
      (∀ j b, badge = some b → j ≠ i → (s.account j).state ≠ .free → (s.account j).badge ≠ some b) →
      exec (.openAccount h i badge l) s = .next
        ((answered h (.openAccount i badge l) (.accepted (.index i)) s).setAccount i
          { state := .active, badge := badge
            allowance := ⟨l.mono.allowance, l.colour.allowance⟩
            balance := ⟨l.mono.allowance, l.colour.allowance⟩
            reserved := ⟨0, 0⟩, used := ⟨0, 0⟩
            overdraft := ⟨l.mono.overdraft, l.colour.overdraft⟩
            carryCap := ⟨l.mono.carryCap, l.colour.carryCap⟩
            closingUsed := ⟨none, none⟩, closingBalance := ⟨none, none⟩, liveJobs := 0, overrun := false }))

/-- R6, R7, R9, R11: the requests that change one field group of a non-FREE account, and nothing else. -/
def Obligations.AccountFieldsChange : Prop :=
  ∀ (h : Head) (n i : Nat) (s : State), Mine h n i s → (s.account i).state ≠ .free →
    (∀ c : PerClass LimitChanges, Ready h (.setAccount i c) s →
      (∀ k x, ((c.get k).allowance = some x ∨ (c.get k).overdraft = some x ∨ (c.get k).carryCap = some x) → x ≤ 65535) →
      let a := s.account i
      let allowance : PerClass Nat := ⟨c.mono.allowance.getD a.allowance.mono, c.colour.allowance.getD a.allowance.colour⟩
      let overdraft : PerClass Nat := ⟨c.mono.overdraft.getD a.overdraft.mono, c.colour.overdraft.getD a.overdraft.colour⟩
      let cap : PerClass Nat := ⟨c.mono.carryCap.getD a.carryCap.mono, c.colour.carryCap.getD a.carryCap.colour⟩
      exec (.setAccount h i c) s = .next
        ((answered h (.setAccount i c) (.accepted (.limits allowance overdraft cap)) s).setAccount i
          { a with allowance := allowance, overdraft := overdraft, carryCap := cap })) ∧
    (∀ b, Ready h (.setBadge i b) s → 1 ≤ b → b ≤ 4294967295 → Canonical s →
      (∀ j, j ≠ i → (s.account j).state ≠ .free → (s.account j).badge ≠ some b) →
      exec (.setBadge h i b) s = .next
        ((answered h (.setBadge i b) (.accepted .none) s).setAccount i { s.account i with badge := some b })) ∧
    (Ready h (.clearBadge i) s →
      exec (.clearBadge h i) s = .next
        ((answered h (.clearBadge i) (.accepted .none) s).setAccount i { s.account i with badge := none })) ∧
    (Ready h (.resumeAccount i) s → (s.account i).state = .suspended →
      exec (.resumeAccount h i) s = .next
        ((answered h (.resumeAccount i) (.accepted .none) s).setAccount i { s.account i with state := .active })) ∧
    (∀ (k : PageClass) (d : Int), Ready h (.adjustBalance i k d) s → -65535 ≤ d → d ≤ 65535 →
      let b := max (-65535) (min 1048575 ((s.account i).balance.get k + d))
      exec (.adjustBalance h i k d) s = .next
        ((answered h (.adjustBalance i k d) (.accepted (.balance b)) s).setAccount i
          { s.account i with balance := (s.account i).balance.set k b }))

/-- R9, R10, R72: SUSPEND_ACCOUNT and CLOSE_ACCOUNT, with no session of the account open, and with one open at printer m whose
command queue has room; nothing else changes. -/
def Obligations.SuspendAndCloseAccount : Prop :=
  ∀ (h : Head) (n i : Nat) (s : State), Canonical s → SessionLaw s → Mine h n i s →
    (Ready h (.suspendAccount i) s → (s.account i).state = .active →
      let t := (answered h (.suspendAccount i) (.accepted .none) s).setAccount i { s.account i with state := .suspended }
      ((∀ m x, s.session m = some x → x.account ≠ i) → exec (.suspendAccount h i) s = .next t) ∧
      (∀ m x, s.session m = some x → x.account = i → (s.commands m).length < 8 →
        exec (.suspendAccount h i) s = .next
          ((t.setSession m none).setCommands m (s.commands m ++ [.sessionClose .account])))) ∧
    (Ready h (.closeAccount i) s → (s.account i).state ≠ .free →
      ((0 < (s.account i).liveJobs ∨ ∃ j, (s.job j).state ≠ .free ∧ (s.job j).owner = i) →
        exec (.closeAccount h i) s = .next (answered h (.closeAccount i) (.refused .badState) s)) ∧
      ((s.account i).liveJobs = 0 → (∀ j, (s.job j).state ≠ .free → (s.job j).owner ≠ i) →
        let t := (answered h (.closeAccount i) (.accepted .none) s).setAccount i Account.free
        ((∀ m x, s.session m = some x → x.account ≠ i) → exec (.closeAccount h i) s = .next t) ∧
        (∀ m x, s.session m = some x → x.account = i → (s.commands m).length < 8 →
          exec (.closeAccount h i) s = .next
            ((t.setSession m none).setCommands m (s.commands m ++ [.sessionClose .account])))))

/-- R12, R17, R39: the reads of an account and of a tenant's record and policies, on a tenant port and on F. R57, R59, R60: the
reads of jobs. They change nothing. -/
def Obligations.AccountTenantAndJobReads : Prop :=
  ((∀ (h : Head) (i : Nat) (s : State), i < 1024 → (∀ n, h.port.tenant = some n → (s.tenant n).owns i = true) →
     (Ready h (.readAccount i) s →
       exec (.readAccount h i) s = .next (answered h (.readAccount i) (.accepted (.account (s.account i))) s)) ∧
     (Ready h (.readClosing i) s →
       exec (.readClosing h i) s = .next (answered h (.readClosing i) (.accepted (.closing (s.account i).closingUsed
         (s.account i).closingBalance
         (if (s.account i).state = .free then none else (owningTenant s i).map (fun n => (s.tenant n).period)))) s))) ∧
   (∀ (h : Head) (m n : Nat) (s : State), (h.port.tenant = some n ∨ (h.port = .f ∧ m = n ∧ n < 4)) →
     (Ready h (.readTenant m) s →
       exec (.readTenant h m) s = .next (answered h (.readTenant m) (.accepted (.tenant
         { window := (s.tenant n).window, share := (s.tenant n).share, entries := entriesInUse s n
           groups := (s.tenant n).groups, ceiling := (s.tenant n).ceiling, used := (s.tenant n).used
           reserved := (s.tenant n).reserved, active := s.tb.active, period := (s.tenant n).period })) s)) ∧
     (Ready h (.readPolicy m) s →
       exec (.readPolicy h m) s = .next
         (answered h (.readPolicy m) (.accepted (.policies (s.tenant n).day (s.tenant n).afterHours s.tb.active)) s))) ∧
   (∀ (h : Head) (m : Nat) (s : State), h.port = .f → 4 ≤ m → Ready h (.readTenant m) s →
     exec (.readTenant h m) s = .next (answered h (.readTenant m) (.refused .outOfRange) s))) ∧
  ((∀ (h : Head) (n : Nat) (j : Handle) (s : State), h.port.tenant = some n → Ready h (.readJob j) s → j.index < 256 →
     (s.job j.index).state ≠ .free → (s.job j.index).generation = j.generation → (s.job j.index).tenant = n →
     let e := s.job j.index
     exec (.readJob h j) s = .next (answered h (.readJob j) (.accepted (.job
       { state := e.state, generation := e.generation, owner := e.owner, label := e.label, pages := e.pages
         kClass := e.kClass, colourClass := e.colourClass, groups := e.groups, submitted := e.submitted, expiry := e.expiry
         printer := e.printer, grant := e.grant, reservation := e.reservation, needs := e.needs, done := e.done
         doneAtRelease := e.doneAtRelease, interrupts := e.interrupts, endReason := e.endReason
         finished := e.finished })) s)) ∧
   (∀ (h : Head) (n : Nat) (s : State), h.port.tenant = some n → Ready h .listFinished s →
     exec (.listFinished h) s = .next (answered h .listFinished (.accepted (.finished (s.finishedList n).length
       (((s.finishedList n).take 16).map (fun k => ⟨k, (s.job k.index).owner, (s.job k.index).label,
         (s.job k.index).endReason, (s.job k.index).finished⟩)))) s)) ∧
   (∀ (h : Head) (n : Nat) (s : State), Canonical s → h.port.tenant = some n → Ready h .listActive s →
     ∃ l, exec (.listActive h) s = .next (answered h .listActive (.accepted (.active l)) s) ∧
       (∀ v : ActiveView, v ∈ l ↔ v.job ∈ (s.printer v.printer).queue ∧ (s.job v.job.index).state = .active ∧
         (s.job v.job.index).tenant = n ∧ v.label = (s.job v.job.index).label ∧ v.grant = (s.job v.job.index).grant ∧
         v.pages = (s.job v.job.index).pages) ∧
       l.Pairwise (fun v w => v.printer ≤ w.printer)))

/-- R34, whole: READ_PERIOD. -/
def Obligations.ReadPeriodShowsTheTimer : Prop :=
  (∀ (h : Head) (m n : Nat) (s : State), (h.port.tenant = some n ∨ (h.port = .f ∧ m = n ∧ n < 4)) →
    Ready h (.readPeriod m) s →
    exec (.readPeriod h m) s = .next (answered h (.readPeriod m) (.accepted (.periodView
      { timer := (s.tenant n).timer
        counting := (s.tenant n).timer.running && s.tb.clock.isSome
        minutesToRollover :=
          match (s.tenant n).timer.unit with
          | .minutes => (s.tenant n).timer.count
          | .hours => ((s.tenant n).timer.count - 1) * 60 + (60 - (s.tenant n).timer.hourStep)
        period := (s.tenant n).period })) s)) ∧
  (∀ (h : Head) (m : Nat) (s : State), h.port = .f → 4 ≤ m → Ready h (.readPeriod m) s →
    exec (.readPeriod h m) s = .next (answered h (.readPeriod m) (.refused .outOfRange) s))

/-- R15, R16, R27, R28, R36: the requests that set fields of a tenant's record, and nothing else. -/
def Obligations.TenantSettingsChange : Prop :=
  (∀ (h : Head) (n : Nat) (w : Option Window) (share : Nat) (g : GroupSet) (s : State), Canonical s → h.port = .f →
    Ready h (.assignTenant n w share g) s → n < 4 → (∀ x, w = some x → x.base ≤ x.limit ∧ x.limit < 1024) → share ≤ 256 →
    (s.port (PortName.ofTenant n)).state ≠ .attached → (∀ i, (s.job i).state ≠ .free → (s.job i).tenant ≠ n) →
    (∀ m x y i, m < 4 → m ≠ n → w = some x → (s.tenant m).window = some y →
      ¬(x.base ≤ i ∧ i ≤ x.limit ∧ y.base ≤ i ∧ i ≤ y.limit)) →
    (∀ m y, m < 4 → (s.tenant m).window = some y → y.base ≤ y.limit) →
    (∀ i, (s.account i).state ≠ .free → (s.tenant n).owns i = true → ∃ x, w = some x ∧ x.base ≤ i ∧ i ≤ x.limit) →
    share + ((((List.range 4).filter (· ≠ n)).map (fun m => (s.tenant m).share)).sum) ≤ 256 →
    exec (.assignTenant h n w share g) s = .next
      ((answered h (.assignTenant n w share g) (.accepted .none) s).setTenant n
        { s.tenant n with window := w, share := share, groups := g })) ∧
  (∀ (h : Head) (n : Nat) (k : PageClass) (c : Option Nat) (s : State), h.port = .f → Ready h (.setCeiling n k c) s →
    ((n < 4 ∧ ∀ x, c = some x → 1 ≤ x ∧ x ≤ 16777215) →
      exec (.setCeiling h n k c) s = .next
        ((answered h (.setCeiling n k c) (.accepted .none) s).setTenant n
          { s.tenant n with ceiling := (s.tenant n).ceiling.set k c })) ∧
    (c = some 0 → exec (.setCeiling h n k c) s = .next (answered h (.setCeiling n k c) (.refused .outOfRange) s))) ∧
  (∀ (h : Head) (n : Nat) (u : TimerUnit) (len : Nat) (s : State), h.port = .f → Ready h (.setPeriodTimer n u len) s →
    (n < 4 → 1 ≤ len → len ≤ 65535 →
      let timer : PeriodTimer := ⟨u, len, len, 0, (s.tenant n).timer.running⟩
      exec (.setPeriodTimer h n u len) s = .next
        ((answered h (.setPeriodTimer n u len) (.accepted (.timer timer)) s).setTenant n
          { s.tenant n with timer := timer })) ∧
    ((4 ≤ n ∨ len = 0 ∨ 65535 < len) →
      exec (.setPeriodTimer h n u len) s = .next (answered h (.setPeriodTimer n u len) (.refused .outOfRange) s))) ∧
  (∀ (h : Head) (n : Nat) (s : State), h.port = .f → n < 4 →
    (Ready h (.startTimer n) s →
      exec (.startTimer h n) s = .next
        (if (s.tenant n).timer.running = true then answered h (.startTimer n) (.refused .badState) s
         else (answered h (.startTimer n) (.accepted .none) s).setTenant n
           { s.tenant n with timer := { (s.tenant n).timer with running := true } })) ∧
    (Ready h (.stopTimer n) s →
      exec (.stopTimer h n) s = .next
        (if (s.tenant n).timer.running = false then answered h (.stopTimer n) (.refused .badState) s
         else (answered h (.stopTimer n) (.accepted .none) s).setTenant n
           { s.tenant n with timer := { (s.tenant n).timer with running := false } }))) ∧
  (∀ (h : Head) (n : Nat) (name : PolicyName) (c : PolicyChanges) (s : State), h.port.tenant = some n →
    Ready h (.setPolicy name c) s → (∀ x, c.maxPages = some x → 1 ≤ x ∧ x ≤ 9999) →
    (∀ x, c.holdTime = some x → 1 ≤ x ∧ x ≤ 10080) →
    let old := match name with | .day => (s.tenant n).day | .afterHours => (s.tenant n).afterHours
    let new : Policy := ⟨c.colourAllowed.getD old.colourAllowed, c.maxPages.getD old.maxPages,
      c.holdTime.getD old.holdTime, c.overdraftAllowed.getD old.overdraftAllowed⟩
    exec (.setPolicy h name c) s = .next
      ((answered h (.setPolicy name c) (.accepted (.policy new)) s).setTenant n
        (match name with
         | .day => { s.tenant n with day := new }
         | .afterHours => { s.tenant n with afterHours := new })))

/-- R29, R30, R31: CLOSE_PERIOD rolls the sender's tenant over and starts a full period; other tenants' records and the
accounts outside the window stand. -/
def Obligations.ClosePeriodRollsOver : Prop :=
  ∀ (h : Head) (n : Nat) (s : State), Canonical s → h.port.tenant = some n → Ready h .closePeriod s →
    ∃ t, exec (.closePeriod h) s = .next t ∧
      (∀ i, t.account i =
        (if (s.tenant n).owns i = true ∧ (s.account i).state ≠ .free then
          { s.account i with
            closingUsed := ⟨some (s.account i).used.mono, some (s.account i).used.colour⟩
            closingBalance := ⟨some (s.account i).balance.mono, some (s.account i).balance.colour⟩
            balance := ⟨refilled (s.account i).balance.mono (s.account i).allowance.mono (s.account i).carryCap.mono,
              refilled (s.account i).balance.colour (s.account i).allowance.colour (s.account i).carryCap.colour⟩
            used := ⟨0, 0⟩
            overrun := false }
         else s.account i)) ∧
      (∀ b : Int, ∀ a c : Nat, refilled b a c = (if 0 ≤ b then (a : Int) + min b (c : Int) else (a : Int) + b)) ∧
      t.tenant n = { s.tenant n with
        used := ⟨0, 0⟩
        period := if (s.tenant n).period = 65535 then 0 else ((s.tenant n).period + 1) % 65536
        timer := { (s.tenant n).timer with count := (s.tenant n).timer.length, hourStep := 0 } } ∧
      (∀ m, m ≠ n → t.tenant m = s.tenant m) ∧
      hasNotice (t.port h.port).flags .period = true ∧
      t.out.head? = some (h.port, .answer h.tag 32 (.accepted (.period (t.tenant n).period))) ∧
      t.jt = s.jt ∧ t.ru = s.ru ∧ t.ft = s.ft ∧ t.se = s.se ∧ t.su = s.su ∧ t.cu = s.cu ∧ t.flc = s.flc ∧ t.tb = s.tb

/-! ### Jobs -/

/-- R45: the nine checks of a SUBMIT in their order, the first that fails giving the refusal, with nothing changed. R46, R48: an
accepted SUBMIT takes the FREE entry of lowest index, raises the owner's live jobs, and changes nothing else. -/
def Obligations.SubmitFillsTheLowestEntry : Prop :=
  (∀ (h : Head) (n i : Nat) (j : Submission) (c : Clock) (s : State), h.port.tenant = some n → Ready h (.submit j) s →
     j.owner < 1024 → j.pages.mono ≤ 9999 → j.pages.colour ≤ 9999 → 0 < j.pages.mono + j.pages.colour → j.kClass ≤ 7 →
     (0 < j.pages.colour → ∃ k, j.colourClass = some k ∧ k ≤ 7) → (j.pages.colour = 0 → j.colourClass = none) →
     s.tb.clock = some c → (s.tenant n).owns j.owner = true → (s.account j.owner).state = .active →
     j.groups &&& (s.tenant n).groups ≠ 0 → (s.account j.owner).liveJobs < 8 →
     entriesInUse s n < (s.tenant n).share → i < 256 → (s.job i).state = .free → (∀ k, k < i → (s.job k).state ≠ .free) →
     let policy := match s.tb.active with | .day => (s.tenant n).day | .afterHours => (s.tenant n).afterHours
     let minutes := min (c.day * 1440 + c.minute + policy.holdTime) (65535 * 1440 + 1439)
     let expiry : Time := ⟨minutes / 1440, minutes % 1440⟩
     let g := ((s.job i).generation + 1) % 256
     let groups := j.groups &&& (s.tenant n).groups
     exec (.submit h j) s = .next
       (((answered h (.submit j) (.accepted (.submitted ⟨i, g⟩ groups ⟨c.day, c.minute⟩ expiry)) s).setJob i
           { state := .held, generation := g, tenant := n, owner := j.owner, label := j.label, pages := j.pages
             kClass := j.kClass, colourClass := j.colourClass, groups := groups, submitted := ⟨c.day, c.minute⟩
             expiry := expiry, printer := none, grant := none, reservation := none, needs := none, done := ⟨0, 0⟩
             doneAtRelease := ⟨0, 0⟩, interrupts := 0, endReason := none, finished := none }).setAccount j.owner
         { s.account j.owner with liveJobs := (s.account j.owner).liveJobs + 1 })) ∧
  (∀ (h : Head) (n : Nat) (j : Submission) (s : State), h.port.tenant = some n → Ready h (.submit j) s →
    let refused : RefusalCode → Prop := fun c => exec (.submit h j) s = .next (answered h (.submit j) (.refused c) s)
    let f1 : Prop := ¬(j.owner < 1024 ∧ j.pages.mono ≤ 9999 ∧ j.pages.colour ≤ 9999 ∧
      0 < j.pages.mono + j.pages.colour ∧ j.kClass ≤ 7 ∧
      (0 < j.pages.colour → ∃ k, j.colourClass = some k ∧ k ≤ 7) ∧ (j.pages.colour = 0 → j.colourClass = none))
    let f2 : Prop := s.tb.clock = none
    let f3 : Prop := (s.tenant n).owns j.owner = false
    let f4 : Prop := (s.account j.owner).state = .free
    let f5 : Prop := (s.account j.owner).state ≠ .active
    let f6 : Prop := j.groups &&& (s.tenant n).groups = 0
    let f7 : Prop := 8 ≤ (s.account j.owner).liveJobs
    let f8 : Prop := (s.tenant n).share ≤ (s.jt.jobs.filter (fun e => e.2.state != .free && e.2.tenant == n)).length
    let f9 : Prop := ∀ k, k < 256 → (s.job k).state ≠ .free
    (f1 → refused .outOfRange) ∧
    (¬f1 → f2 → refused .clockNotSet) ∧
    (¬f1 → ¬f2 → f3 → refused .outOfWindow) ∧
    (¬f1 → ¬f2 → ¬f3 → f4 → refused .noSuchAccount) ∧
    (¬f1 → ¬f2 → ¬f3 → ¬f4 → f5 → refused .badState) ∧
    (¬f1 → ¬f2 → ¬f3 → ¬f4 → ¬f5 → f6 → refused .noGroup) ∧
    (¬f1 → ¬f2 → ¬f3 → ¬f4 → ¬f5 → ¬f6 → f7 → refused .accountLimit) ∧
    (¬f1 → ¬f2 → ¬f3 → ¬f4 → ¬f5 → ¬f6 → ¬f7 → f8 → refused .shareFull) ∧
    (¬f1 → ¬f2 → ¬f3 → ¬f4 → ¬f5 → ¬f6 → ¬f7 → ¬f8 → f9 → refused .tableFull))

/-- R52 to R54, R50: CANCEL by the state of the job it names. -/
def Obligations.CancelActsOnTheState : Prop :=
  ∀ (h : Head) (n : Nat) (j : Handle) (s : State), h.port.tenant = some n → Ready h (.cancel j) s → j.index < 256 →
    (s.job j.index).generation = j.generation → (s.job j.index).tenant = n →
    ((s.job j.index).state = .held →
      ∃ t, exec (.cancel h j) s = .next t ∧
        t.job j.index = { s.job j.index with
          state := .cancelled, endReason := some .cancelledByTenant, finished := s.now, reservation := none
          needs := none } ∧
        (∀ i, i ≠ j.index → t.job i = s.job i) ∧
        t.account (s.job j.index).owner = { s.account (s.job j.index).owner with
          liveJobs := (s.account (s.job j.index).owner).liveJobs - 1 } ∧
        (∀ i, i ≠ (s.job j.index).owner → t.account i = s.account i) ∧ (∀ m, t.tenant m = s.tenant m) ∧
        t.finishedList n = s.finishedList n ++ [j] ∧ (∀ m, m ≠ n → t.finishedList m = s.finishedList m) ∧
        (∀ m x, t.session m = some x → j ∉ x.offers ∧ j ∉ x.withdrawn) ∧
        hasNotice (t.port (PortName.ofTenant n)).flags .finished = true ∧
        t.out.head? = some (h.port, .answer h.tag 49 (.accepted (.jobState .cancelled))) ∧
        t.ft = s.ft ∧ t.se = s.se ∧ t.su = s.su ∧ t.cu = s.cu ∧ t.flc = s.flc ∧ t.tb = s.tb ∧ t.owed = s.owed) ∧
    (∀ p r ν, (s.job j.index).state = .queued → (s.job j.index).printer = some p → (s.printer p).queue = [j] →
      (s.job j.index).reservation = some r → (s.job j.index).needs = some ν →
      ∃ t, exec (.cancel h j) s = .next t ∧
        t.job j.index = { s.job j.index with
          state := .cancelled, endReason := some .cancelledByTenant, finished := s.now, reservation := none
          needs := none } ∧
        t.printer p = { s.printer p with
          queue := [], admin := if (s.printer p).admin = .draining then .outOfService else (s.printer p).admin } ∧
        t.account (s.job j.index).owner = { s.account (s.job j.index).owner with
          reserved := ⟨(s.account (s.job j.index).owner).reserved.mono - r.mono,
            (s.account (s.job j.index).owner).reserved.colour - r.colour⟩
          liveJobs := (s.account (s.job j.index).owner).liveJobs - 1 } ∧
        (∀ l x, s.lane p l = some x → t.lane p l = some { x with committed := x.committed - ν.get l }) ∧
        t.finishedList n = s.finishedList n ++ [j] ∧
        hasNotice (t.port (PortName.ofTenant n)).flags .finished = true ∧
        t.out.head? = some (h.port, .answer h.tag 49 (.accepted (.jobState .cancelled))) ∧
        t.su = s.su ∧ t.cu = s.cu ∧ t.flc = s.flc ∧ t.tb = s.tb ∧ t.ru = s.ru) ∧
    (∀ p, FleetLaws s → (s.job j.index).state = .queued → (s.job j.index).printer = some p →
      ∃ t, exec (.cancel h j) s = .next t ∧ (t.job j.index).state = .cancelled ∧ j ∉ (t.printer p).queue ∧
        t.out.head? = some (h.port, .answer h.tag 49 (.accepted (.jobState .cancelled))) ∧ Apart s t) ∧
    (∀ p g, (s.job j.index).state = .active → (s.job j.index).printer = some p → (s.job j.index).grant = some g →
      (s.commands p).length < 8 →
      exec (.cancel h j) s = .next
        (((answered h (.cancel j) (.accepted (.jobState .cancelling)) s).setJob j.index
            { s.job j.index with state := .cancelling }).setCommands p (s.commands p ++ [.abort g]))) ∧
    ((s.job j.index).state ∈ [.cancelling, .done, .cancelled, .expired, .failed] →
      exec (.cancel h j) s = .next (answered h (.cancel j) (.refused .badState) s))

/-- R42, R58: COLLECT frees a finished entry and keeps its generation; a live job is refused, and so is a handle that names no
job of the sender. -/
def Obligations.CollectFreesTheEntry : Prop :=
  ∀ (h : Head) (n : Nat) (j : Handle) (s : State), h.port.tenant = some n → Ready h (.collect j) s → j.index < 256 →
    ((s.job j.index).state ∈ [.done, .cancelled, .expired, .failed] → (s.job j.index).generation = j.generation →
      (s.job j.index).tenant = n →
      exec (.collect h j) s = .next
        (((answered h (.collect j) (.accepted (.collected (s.job j.index).endReason (s.job j.index).done)) s).setFinishedList
            n ((s.finishedList n).filter (· ≠ j))).setJob j.index
          { state := .free, generation := j.generation, tenant := 0, owner := 0, label := 0, pages := ⟨0, 0⟩, kClass := 0
            colourClass := none, groups := 0, submitted := ⟨0, 0⟩, expiry := ⟨0, 0⟩, printer := none, grant := none
            reservation := none, needs := none, done := ⟨0, 0⟩, doneAtRelease := ⟨0, 0⟩, interrupts := 0
            endReason := none, finished := none })) ∧
    ((s.job j.index).state ∈ [.held, .queued, .active, .cancelling] → (s.job j.index).generation = j.generation →
      (s.job j.index).tenant = n →
      exec (.collect h j) s = .next (answered h (.collect j) (.refused .badState) s)) ∧
    (((s.job j.index).state = .free ∨ (s.job j.index).generation ≠ j.generation ∨ (s.job j.index).tenant ≠ n) →
      exec (.collect h j) s = .next (answered h (.collect j) (.refused .noSuchJob) s))

/-! ### The panel -/

/-- R62, whole: SET_PANEL_TIMEOUT. -/
def Obligations.PanelTimeoutIsSet : Prop :=
  (∀ (h : Head) (m : Nat) (s : State), h.port = .f → Ready h (.setPanelTimeout m) s →
    (1 ≤ m → m ≤ 15 →
      exec (.setPanelTimeout h m) s = .next
        { answered h (.setPanelTimeout m) (.accepted (.panelTimeout m)) s with
          ru := { s.ru with panelTimeout := m } }) ∧
    ((m = 0 ∨ 15 < m) →
      exec (.setPanelTimeout h m) s = .next (answered h (.setPanelTimeout m) (.refused .outOfRange) s))) ∧
  (∀ (h : Head) (m : Nat) (s : State), h.port ≠ .f → Standing h (.setPanelTimeout m) s → h.wellFormed = true →
    (s.port h.port).state = .attached →
    exec (.setPanelTimeout h m) s = .next (answered h (.setPanelTimeout m) (.refused .wrongPort) s)) ∧
  (∀ (n a : Nat) (s : State), ∃ x, (openSession n a s).session n = some x ∧ x.minutes = s.ru.panelTimeout) ∧
  (∀ (c : ResetCause) (s : State), (coldReset c s).ru.panelTimeout = 2 ∧ (warmReset c s).ru.panelTimeout = 2)

/-- R63 to R66, R61: BADGE answered with a session result, or with a session and its OFFER; the printer's command queue has
room. -/
def Obligations.BadgeOpensOrRefuses : Prop :=
  ∀ (l : LinkFrame) (b : Nat) (s : State), Canonical s → HeardPlainly l s → b < 4294967296 →
    (s.commands l.address).length < 8 →
    let q := s.commands l.address
    let heard := restarted l.address s
    ((s.printer l.address).admin ≠ .inService →
      exec (.badge l b) s = .next (heard.setCommands l.address (q ++ [.panelResult (some .printerUnavailable) []]))) ∧
    ((s.printer l.address).admin = .inService →
      (∀ i, (s.account i).state ≠ .free → (s.account i).badge ≠ some b) →
      exec (.badge l b) s = .next (heard.setCommands l.address (q ++ [.panelResult (some .unknownBadge) []]))) ∧
    (∀ i, (s.printer l.address).admin = .inService →
      (∀ k, (s.account k).state ≠ .free → (s.account k).badge = some b → k = i) → (s.account i).badge = some b →
      ((s.account i).state = .suspended →
        exec (.badge l b) s = .next (heard.setCommands l.address (q ++ [.panelResult (some .accountSuspended) []]))) ∧
      (∀ n, (s.account i).state = .active → owningTenant s i = some n →
        ∃ t x, exec (.badge l b) s = .next t ∧ t.session l.address = some x ∧ x.account = i ∧ x.tenant = n ∧
          x.withdrawn = [] ∧ x.minutes = s.ru.panelTimeout ∧
          (∀ h, h ∈ x.offers ↔ (t.job h.index).state = .held ∧ (t.job h.index).generation = h.generation ∧
            (t.job h.index).owner = i ∧ (t.job h.index).groups.getLsbD (s.printer l.address).group = true ∧
            (t.port (PortName.ofTenant (t.job h.index).tenant)).state = .attached ∧
            ((t.job h.index).pages.colour = 0 ∨ ((s.printer l.address).colour = true ∧
              (activePolicy s (t.job h.index).tenant).colourAllowed = true))) ∧
          x.offers.Pairwise (fun h k => timeMinutes (t.job h.index).submitted < timeMinutes (t.job k.index).submitted ∨
            (timeMinutes (t.job h.index).submitted = timeMinutes (t.job k.index).submitted ∧ h.index < k.index)) ∧
          (∀ m y, t.session m = some y → y.account = i → m = l.address) ∧
          t.commands l.address = q ++ [.offer (x.offers.map (fun h =>
            ⟨h, (t.job h.index).label, (t.job h.index).pages⟩))] ∧ Apart s t))

/-- R73: a SELECT that finds no session: STALE for every handle, no result for ALL; nothing else changes. R74, R79, R80: one that
finds a session takes its handles in order, or for ALL the offers in theirs, each checked in the state those before it
left; the session closes, and PANEL_RESULT follows what the releases issued, one result for each job. R159, R160: a command
issued joins its address's queue; one issued to a queue of 8 is discarded, the queue is emptied, the silence count stops and
UNREACHABLE is added with onset time now, as R91 and R143 have it; where it is held already the condition set stands. -/
def Obligations.SelectTakesItsJobs : Prop :=
  (∀ (l : LinkFrame) (s : State), HeardPlainly l s → s.session l.address = none →
    exec (.select l .all) s = .next (issue l.address (.panelResult none []) (restarted l.address s))) ∧
  (∀ (l : LinkFrame) (hs : List Handle) (s : State), HeardPlainly l s → s.session l.address = none →
    1 ≤ hs.length → hs.length ≤ 8 → (∀ h ∈ hs, h.index < 256 ∧ h.generation < 256) →
    exec (.select l (.handles hs)) s = .next
      (issue l.address (.panelResult none (hs.map (fun h => ⟨h, .stale, none⟩))) (restarted l.address s))) ∧
  (∀ (n : Nat) (c : Command) (s : State), (s.commands n).length < 8 →
    issue n c s = s.setCommands n (s.commands n ++ [c])) ∧
  (∀ (n : Nat) (c : Command) (s : State), 8 ≤ (s.commands n).length →
    let t := issue n c s
    let counted := s.setPrinter n { s.printer n with silence := none }
    let grace := s.cu.graceTimes.getD ConditionKind.unreachable.code 0
    t.commands n = [] ∧ (∀ a, a ≠ n → t.commands a = s.commands a) ∧ (t.printer n).silence = none ∧
    (t.printer n).presence = (s.printer n).presence ∧ (t.printer n).holds .unreachable = true ∧
    (∀ m, m ≠ n → t.printer m = s.printer m) ∧ Apart s t ∧
    ((s.printer n).holds .unreachable = true → t = counted.setCommands n []) ∧
    ((s.printer n).holds .unreachable = false →
      Table.get none (t.printer n).conditions ConditionKind.unreachable.code = some ⟨s.now⟩ ∧
      (∀ k : ConditionKind, k ≠ .unreachable → Table.get none (t.printer n).conditions k.code =
        Table.get none (s.printer n).conditions k.code) ∧
      t.history n = s.history n ||| ConditionKind.unreachable.only ∧
      t.grace n .unreachable = (if 0 < grace then .running grace else .spent) ∧
      (0 < grace → t.cu.callouts = s.cu.callouts ∧ t.jt = s.jt) ∧
      (grace = 0 → (s.printer n).admin ≠ .outOfService → InService t n .unreachable))) ∧
  (∀ (l : LinkFrame) (choice : Choice) (x : Session) (s : State), HeardPlainly l s → s.session l.address = some x →
    (∀ hs, choice = .handles hs → 1 ≤ hs.length ∧ hs.length ≤ 8 ∧ ∀ h ∈ hs, h.index < 256 ∧ h.generation < 256) →
    let jobs : List Handle := match choice with
      | .all => x.offers
      | .handles hs => hs
    let taken := takeChoices l.address jobs (restarted l.address s)
    taken.2.map JobResult.job = jobs ∧
    exec (.select l choice) s = .next ((issue l.address (.panelResult none taken.2) taken.1).setSession l.address none) ∧
    (FleetLaws s → (s.commands l.address).length ≤ 6 → ∃ t mid, exec (.select l choice) s = .next t ∧
      t.commands l.address = s.commands l.address ++ mid ++ [.panelResult none taken.2] ∧
      ∀ c ∈ mid, ∃ g tenant label pages, c = .expect g tenant label pages)) ∧
  (∀ (n : Nat) (h : Handle) (rest : List Handle) (s : State),
    takeChoices n [] s = (s, []) ∧
    takeChoices n (h :: rest) s = ((takeChoices n rest (takeChoice n h s).1).1,
      (takeChoice n h s).2 :: (takeChoices n rest (takeChoice n h s).1).2)) ∧
  (∀ (n : Nat) (h : Handle) (x : Session) (s : State), s.session n = some x →
    (∀ r, selectCheck s n x h = some r → takeChoice n h s = (s, ⟨h, r, none⟩)) ∧
    (selectCheck s n x h = none → takeChoice n h s = (release n h s, ⟨h, .ok, some s.ru.grantCounter⟩)))

/-- R74 to R78: the nine checks of a job at a SELECT, the first that fails giving the result. The seventh compares the need of
R113 with the effective level of R109 less the committed need. -/
def Obligations.SelectChecksComeInOrder : Prop :=
  ∀ (s : State) (n : Nat) (x : Session) (h : Handle),
    let j := s.job h.index
    let p := s.printer n
    let policy := activePolicy s j.tenant
    let account := s.account j.owner
    let tenant := s.tenant j.tenant
    let f1 : Prop := h ∉ x.offers ∧ h ∉ x.withdrawn
    let f2 : Prop := h ∈ x.withdrawn ∨ (s.port (PortName.ofTenant j.tenant)).state ≠ .attached
    let f3 : Prop := p.admin ≠ .inService ∨
      ∃ k ∈ [ConditionKind.jam, .doorOpen, .paperOut, .hardware, .unreachable, .mismatch], p.holds k = true
    let f4 : Prop := p.holds .supplyOut = true ∧ (hasLane p.supplyOut .k = true ∨ (0 < j.pages.colour ∧
      (hasLane p.supplyOut .c = true ∨ hasLane p.supplyOut .m = true ∨ hasLane p.supplyOut .y = true)))
    let f5 : Prop := policy.maxPages < j.pages.mono + j.pages.colour ∨ (0 < j.pages.colour ∧ policy.colourAllowed = false)
    let f6 : Prop := 4 ≤ p.queue.length
    let f7 : Prop := ∃ l r, (l = .k ∨ 0 < j.pages.colour) ∧ s.lane n l = some r ∧
      ((levelOf r (s.ctype r.type).capacity : Int) - (r.committed : Int) < (needOf s n l j : Int))
    let f8 : Prop := ∃ c m, 0 < j.pages.get c ∧ tenant.ceiling.get c = some m ∧
      m < tenant.used.get c + tenant.reserved.get c + j.pages.get c
    let f9 : Prop := ∃ c, 0 < j.pages.get c ∧
      account.balance.get c - (account.reserved.get c : Int) +
        (if policy.overdraftAllowed = true then (account.overdraft.get c : Int) else 0) < (j.pages.get c : Int)
    (f1 → selectCheck s n x h = some .stale) ∧
    (¬f1 → f2 → selectCheck s n x h = some .gatewayAway) ∧
    (¬f1 → ¬f2 → f3 → selectCheck s n x h = some .printerUnavailable) ∧
    (¬f1 → ¬f2 → ¬f3 → f4 → selectCheck s n x h = some .classUnavailable) ∧
    (¬f1 → ¬f2 → ¬f3 → ¬f4 → f5 → selectCheck s n x h = some .policyLimit) ∧
    (¬f1 → ¬f2 → ¬f3 → ¬f4 → ¬f5 → f6 → selectCheck s n x h = some .printerBusy) ∧
    (¬f1 → ¬f2 → ¬f3 → ¬f4 → ¬f5 → ¬f6 → f7 → selectCheck s n x h = some .insufficientSupply) ∧
    (¬f1 → ¬f2 → ¬f3 → ¬f4 → ¬f5 → ¬f6 → ¬f7 → f8 → selectCheck s n x h = some .tenantCeiling) ∧
    (¬f1 → ¬f2 → ¬f3 → ¬f4 → ¬f5 → ¬f6 → ¬f7 → ¬f8 → f9 → selectCheck s n x h = some .quota) ∧
    (¬f1 → ¬f2 → ¬f3 → ¬f4 → ¬f5 → ¬f6 → ¬f7 → ¬f8 → ¬f9 → selectCheck s n x h = none)

/-- R79, R80, R95, R113, R19: a SELECT of one job. One that fails a check changes nothing but the session, which it closes; one
that passes is released, its pages reserved for the account and the tenant that owns it, its needs those of R113, and is
promoted at once where the queue was empty, the stall count running and DISPATCH raised; a waiting head that may print is
promoted with it. -/
def Obligations.SelectReleasesAJob : Prop :=
  ∀ (l : LinkFrame) (h : Handle) (x : Session) (s : State), HeardPlainly l s → s.session l.address = some x →
    h.index < 256 → h.generation < 256 → (s.commands l.address).length ≤ 6 →
    (∀ r, selectCheck (restarted l.address s) l.address x h = some r →
      exec (.select l (.handles [h])) s = .next
        (((restarted l.address s).setSession l.address none).setCommands l.address
          (s.commands l.address ++ [.panelResult none [⟨h, r, none⟩]]))) ∧
    (selectCheck (restarted l.address s) l.address x h = none → FleetLaws s →
      ∃ t, exec (.select l (.handles [h])) s = .next t ∧ t.session l.address = none ∧
        (t.printer l.address).queue = (s.printer l.address).queue ++ [h] ∧
        t.ru.grantCounter = (if s.ru.grantCounter < 65535 then s.ru.grantCounter + 1 else 1) ∧
        t.job h.index = { s.job h.index with
          state := (if (s.printer l.address).queue = [] then .active else .queued)
          printer := some l.address, grant := some s.ru.grantCounter, reservation := some (s.job h.index).pages
          needs := some ⟨needOf s l.address .k (s.job h.index), needOf s l.address .c (s.job h.index),
            needOf s l.address .m (s.job h.index), needOf s l.address .y (s.job h.index)⟩
          doneAtRelease := (s.job h.index).done } ∧
        (∀ i, i ≠ h.index → (∀ g ∈ (s.printer l.address).queue.head?, g.index = i → mayPromote s l.address g = false) →
          t.job i = s.job i) ∧
        t.account (s.job h.index).owner = { s.account (s.job h.index).owner with
          reserved := ⟨(s.account (s.job h.index).owner).reserved.mono + (s.job h.index).pages.mono,
            (s.account (s.job h.index).owner).reserved.colour + (s.job h.index).pages.colour⟩ } ∧
        (∀ i, i ≠ (s.job h.index).owner → t.account i = s.account i) ∧
        (∀ m, owningTenant s (s.job h.index).owner = some m → t.tenant m = { s.tenant m with
          reserved := ⟨(s.tenant m).reserved.mono + (s.job h.index).pages.mono,
            (s.tenant m).reserved.colour + (s.job h.index).pages.colour⟩ }) ∧
        (∀ m, owningTenant s (s.job h.index).owner ≠ some m → t.tenant m = s.tenant m) ∧
        ((s.printer l.address).queue = [] →
          (t.printer l.address).stall = some (s.printer l.address).stallLimit ∧
          hasNotice (t.port (PortName.ofTenant (s.job h.index).tenant)).flags .dispatch = true) ∧
        (∀ lane r, s.lane l.address lane = some r → t.lane l.address lane =
          some { r with committed := r.committed + needOf s l.address lane (s.job h.index) }) ∧
        (∃ mid, t.commands l.address =
          s.commands l.address ++ mid ++ [.panelResult none [⟨h, .ok, some s.ru.grantCounter⟩]] ∧
          ((s.printer l.address).queue = [] → mid = [.expect s.ru.grantCounter (s.job h.index).tenant
            (s.job h.index).label (s.job h.index).pages])) ∧
        t.su = s.su ∧ t.tb = s.tb ∧ t.cu = s.cu)

/-- R71, whole: SESSION_END closes the session at its printer, whatever the session, and sends no command; with none open
nothing changes, and it is no protocol error. A SELECT after it finds no session. -/
def Obligations.SessionEndClosesTheSession : Prop :=
  (∀ (l : LinkFrame) (s : State), HeardPlainly l s →
    exec (.sessionEnd l) s = .next ((restarted l.address s).setSession l.address none)) ∧
  (∀ (l : LinkFrame) (s : State), HeardPlainly l s → s.session l.address = none →
    ∃ t, exec (.sessionEnd l) s = .next t ∧ (∀ m, t.session m = s.session m) ∧ t.flc = s.flc ∧ t.ports = s.ports ∧
      (t.printer l.address).protocolError = (s.printer l.address).protocolError) ∧
  (∀ (l : LinkFrame) (s : State), Heard l s → ∃ t, exec (.sessionEnd l) s = .next t ∧ t.session l.address = none)

/-! ### The fleet -/

/-- R84, R107, R157: ENROL of a number that is not enrolled. -/
def Obligations.EnrolMakesAPrinter : Prop :=
  ∀ (h : Head) (n : Nat) (e : Enrolment) (s : State), h.port = .f → Ready h (.enrol n e) s → n < 64 →
    (s.printer n).enrolled = false → e.floor ≤ 99 → e.group ≤ 15 →
    (∀ l, (l = .k ∨ e.colour = true) → ∃ ty, e.types.get l = some ty ∧ ty < 32) →
    (∀ l, l ≠ .k → e.colour = false → e.types.get l = none) →
    (∀ ty, 1 ≤ (s.ctype ty).capacity ∧ (s.ctype ty).critical ≤ 99 ∧ (s.ctype ty).reorder ≤ 99) →
    ∃ t, exec (.enrol h n e) s = .next t ∧
      t.printer n =
        { enrolled := true, floor := e.floor, group := e.group, colour := e.colour, laneTypes := e.types
          silenceLimit := 90, stallLimit := 20, admin := .outOfService, presence := .unknown, capabilities := none
          conditions := [], supplyOut := 0, queue := [], silence := some 90, stall := none, meter := none, surplus := 0
          walkup := 0, stalled := none, protocolError := none } ∧
      (∀ m, m ≠ n → t.printer m = s.printer m) ∧
      (∀ l ty, e.types.get l = some ty → t.lane n l = some
        { type := ty, estimate := (s.ctype ty).capacity, fraction := 0, factor := 64, candidate := none
          confirmed := none, emptyFlag := false, committed := 0, state := .ok, allocation := false, waiting := false
          uncounted := false }) ∧
      (∀ m l, m ≠ n → t.lane m l = s.lane m l) ∧ t.stray n = none ∧ (∀ a, a ≠ n → t.stray a = s.stray a) ∧
      t.out = [(h.port, .answer h.tag 64 (.accepted (.enrolled (t.printer n))))] ∧
      (∀ l, e.types.get l = none → t.lane n l = s.lane n l) ∧
      t.ports = s.ports.set h.port { s.port h.port with queue := (s.port h.port).queue.drop 1 } ∧
      t.au = s.au ∧ t.jt = s.jt ∧ t.ru = s.ru ∧ t.cu = s.cu ∧ Apart s t ∧ t.phase = .running ∧
      (∀ a, t.commands a = s.commands a)

/-- R85, R92: ENROL of an enrolled printer, taken OUT_OF_SERVICE alone; and R87: UNENROLL. A re-enrolment keeps the rest of the
record, the limits and the conditions but MISMATCH and SUPPLY_OUT among it; of a colour printer made mono the lanes C, M and
Y leave the SUPPLY callout or deferral and the SUPPLY_OUT list, and SUPPLY_OUT is held while that list names a lane. -/
def Obligations.ReEnrolAndUnenroll : Prop :=
  (∀ (h : Head) (n : Nat) (e : Enrolment) (s : State), h.port = .f → Ready h (.enrol n e) s → n < 64 →
    (s.printer n).enrolled = true → e.floor ≤ 99 → e.group ≤ 15 →
    (∀ l, (l = .k ∨ e.colour = true) → ∃ ty, e.types.get l = some ty ∧ ty < 32) →
    (∀ l, l ≠ .k → e.colour = false → e.types.get l = none) →
    ((s.printer n).admin ≠ .outOfService →
      exec (.enrol h n e) s = .next (answered h (.enrol n e) (.refused .badState) s)) ∧
    ((s.printer n).admin = .outOfService →
      ∃ t, exec (.enrol h n e) s = .next t ∧
        (∃ conditions supplyOut, t.printer n = { s.printer n with
          floor := e.floor, group := e.group, colour := e.colour, laneTypes := e.types
          conditions := conditions, supplyOut := supplyOut }) ∧
        (∀ m, m ≠ n → (t.printer m).conditions = (s.printer m).conditions ∧
          (s.cu.deferrals = [] → t.printer m = s.printer m)) ∧
        (∀ k : ConditionKind, k ≠ .mismatch → k ≠ .supplyOut → Table.get none (t.printer n).conditions k.code =
          Table.get none (s.printer n).conditions k.code) ∧
        (∀ l, (t.lane n l).map LaneRecord.type = e.types.get l) ∧
        (∀ l, l ≠ .k → e.colour = false → (s.lane n l).isSome → t.lane n l = none ∧
          hasLane (t.printer n).supplyOut l = false ∧
          (hasLane (s.printer n).supplyOut l = true →
            ((t.printer n).holds .supplyOut = true ↔ (t.printer n).supplyOut ≠ 0)) ∧
          (CalloutLaw s → (∀ c ∈ t.cu.callouts, c.key = (n, .supply) → .lane l ∉ c.items) ∧
            (∀ d ∈ t.cu.deferrals, d.key = (n, .supply) → .lane l ∉ d.items))) ∧
        ((t.printer n).holds .mismatch = true ↔ ∃ c, (s.printer n).capabilities = some c ∧
          ¬(c.colour = e.colour ∧ c.lanes = if e.colour = true then 4 else 1)))) ∧
  (∀ (h : Head) (n : Nat) (s : State), h.port = .f → Ready h (.unenroll n) s → n < 64 →
    (s.printer n).enrolled = true →
    ((s.printer n).admin ≠ .outOfService →
      exec (.unenroll h n) s = .next (answered h (.unenroll n) (.refused .badState) s)) ∧
    ((s.printer n).admin = .outOfService →
      ∃ t, exec (.unenroll h n) s = .next t ∧ t.printer n = Printer.cold ∧ (∀ l, t.lane n l = none) ∧
        t.session n = none ∧ (∀ c ∈ t.cu.callouts, c.printer ≠ n) ∧ (∀ d ∈ t.cu.deferrals, d.printer ≠ n) ∧
        t.history n = 0 ∧ (∀ k, k ≠ .supplyOut → t.grace n k = .idle) ∧
        ((s.session n).isSome = true → (s.commands n).length < 8 →
          t.commands n = s.commands n ++ [.sessionClose .printer]) ∧
        (s.session n = none → t.commands n = s.commands n)))

/-- R88, R89: SET_ADMIN, by its target and the printer's queue; no session is closed. R146: a move from OUT_OF_SERVICE to
IN_SERVICE makes one SERVICE raise of the kinds whose grace record is SPENT, in the order of R141. -/
def Obligations.SetAdminMovesThePrinter : Prop :=
  ∀ (h : Head) (n : Nat) (target : AdminState) (s : State), h.port = .f → Ready h (.setAdmin n target) s → n < 64 →
    (s.printer n).enrolled = true →
    ((s.printer n).admin = target →
      exec (.setAdmin h n target) s = .next (answered h (.setAdmin n target) (.accepted (.admin target)) s)) ∧
    ((s.printer n).admin ≠ target → target = .outOfService → (s.printer n).queue ≠ [] →
      exec (.setAdmin h n target) s = .next (answered h (.setAdmin n target) (.refused .badState) s)) ∧
    ((s.printer n).admin ≠ target → (target = .outOfService → (s.printer n).queue = []) →
      ∃ t, exec (.setAdmin h n target) s = .next t ∧
        (t.printer n).admin = (if target = .draining ∧ (s.printer n).queue = [] then .outOfService else target) ∧
        t.out.head? = some (h.port, .answer h.tag 66 (.accepted (.admin (t.printer n).admin))) ∧
        (target = .draining → (s.printer n).queue = [] → hasNotice (t.port .f).flags .fleet = true) ∧
        (∀ m, t.session m = s.session m) ∧ Apart s t ∧
        (FleetLaws s → (s.printer n).admin = .outOfService → target = .inService →
          let spent := [ConditionKind.jam, .doorOpen, .paperOut, .hardware, .unreachable, .mismatch, .meterFault].filter
            (fun k => s.grace n k = .spent)
          (spent = [] → t.cu = s.cu) ∧
          (∀ k ∈ spent, InService t n k) ∧
          (spent ≠ [] → (∀ c ∈ s.cu.callouts, c.key ≠ (n, .service)) → s.cu.callouts.length < 32 →
            hasNotice (t.port .f).flags .callout = true ∧
            ∃ number, number ∉ s.cu.callouts.map Callout.number ∧
              (s.cu.calloutCounter ∉ s.cu.callouts.map Callout.number → number = s.cu.calloutCounter) ∧
              t.cu.callouts = s.cu.callouts ++
              [⟨number, n, .service, spent.map .condition, 1, false, s.now,
                s.now.map (fun u => minutesAfter u s.cu.escalation)⟩])) ∧
        (¬((s.printer n).admin = .outOfService ∧ target = .inService) → (s.commands n).length < 8 → t.cu = s.cu))

/-- R90: FLUSH_PRINTER of a DRAINING printer whose command queue has room. -/
def Obligations.FlushEndsEveryJob : Prop :=
  ∀ (h : Head) (n : Nat) (s : State), h.port = .f → Ready h (.flushPrinter n) s → n < 64 →
    (s.printer n).enrolled = true →
    ((s.printer n).admin ≠ .draining →
      exec (.flushPrinter h n) s = .next (answered h (.flushPrinter n) (.refused .badState) s)) ∧
    ((s.printer n).admin = .draining → FleetLaws s → LaneLaw s → (s.commands n).length < 8 →
      ∃ t, exec (.flushPrinter h n) s = .next t ∧ (t.printer n).queue = [] ∧ (t.printer n).admin = .outOfService ∧
        (∀ j ∈ (s.printer n).queue, (t.job j.index).state = .failed ∧
          (t.job j.index).endReason = some .printerRemoved ∧ (t.job j.index).reservation = none ∧
          (t.job j.index).needs = none ∧ (t.job j.index).interrupts = (s.job j.index).interrupts) ∧
        (∀ j ∈ (s.printer n).queue.head?, (s.job j.index).state ∈ [.active, .cancelling] →
          ∃ g, (t.printer n).stalled = some g ∧ g.grant = (s.job j.index).grant.getD 0 ∧
            g.account = (s.job j.index).owner ∧ g.pages = (s.job j.index).printed ∧
            t.commands n = s.commands n ++ [.abort g.grant]) ∧
        hasNotice (t.port .f).flags .fleet = true ∧
        t.out.head? = some (h.port, .answer h.tag 67 (.accepted (.flushed (s.printer n).queue.length))))

/-- R86, R93, R108, R120, R121: the facility's settings of printers and lanes. R141, R152: SET_GRACE, SET_ESCALATION and
CLEAR_HISTORY. Each request changes what it names and nothing else; a held METER_FAULT cleared may close its callout and so
serve the deferral list (R151). The answers of SET_WEIGHTS, SET_ESTIMATOR and SET_FACTOR carry no fields by the model's
choice (log entry 26). -/
def Obligations.FacilitySettings : Prop :=
  ((∀ (h : Head) (n : Nat) (a b : Option Nat) (s : State), h.port = .f → Ready h (.setPrinterTimers n a b) s → n < 64 →
     (s.printer n).enrolled = true → (∀ x, a = some x → 10 ≤ x ∧ x ≤ 255) → (∀ x, b = some x → 1 ≤ x ∧ x ≤ 255) →
     let p := s.printer n
     exec (.setPrinterTimers h n a b) s = .next
       ((answered h (.setPrinterTimers n a b)
           (.accepted (.printerTimers (a.getD p.silenceLimit) (b.getD p.stallLimit))) s).setPrinter n
         { p with silenceLimit := a.getD p.silenceLimit, stallLimit := b.getD p.stallLimit })) ∧
   (∀ (h : Head) (a b : Option Nat) (s : State), h.port = .f → Ready h (.setWalkup a b) s →
     (∀ x, a = some x → x ≤ 255) → (∀ x, b = some x → x ≤ 7) →
     exec (.setWalkup h a b) s = .next
       { answered h (.setWalkup a b) (.accepted (.walkup (a.getD s.ft.walkupMargin) (b.getD s.ft.walkupClass))) s with
         ft := { s.ft with walkupMargin := a.getD s.ft.walkupMargin, walkupClass := b.getD s.ft.walkupClass } }) ∧
   (∀ (h : Head) (n : Nat) (k : ConditionKind) (s : State), h.port = .f → Ready h (.clearCondition n k) s → n < 64 →
     (s.printer n).enrolled = true →
     (k ≠ .meterFault →
       exec (.clearCondition h n k) s = .next (answered h (.clearCondition n k) (.refused .badState) s)) ∧
     (k = .meterFault → (s.printer n).holds .meterFault = false →
       exec (.clearCondition h n k) s = .next (answered h (.clearCondition n k) (.accepted .none) s)) ∧
     (k = .meterFault → (s.printer n).holds .meterFault = true → CalloutLaw s →
       ∃ t, exec (.clearCondition h n k) s = .next t ∧ (t.printer n).holds .meterFault = false ∧
         (∀ x, x ≠ .meterFault → (t.printer n).holds x = (s.printer n).holds x) ∧ t.grace n .meterFault = .idle ∧
         ¬InService t n .meterFault ∧ t.out.head? = some (h.port, .answer h.tag 70 (.accepted .none)) ∧
         (∀ m, m ≠ n → (t.printer m).conditions = (s.printer m).conditions) ∧
         (∀ m x, (m, x) ≠ (n, .meterFault) → t.grace m x = s.grace m x) ∧
         (∀ m, t.history m = s.history m) ∧ (∀ a, t.commands a = s.commands a) ∧ Apart s t)) ∧
   (∀ (h : Head) (k c : Option (List Nat)) (s : State), h.port = .f → Ready h (.setWeights k c) s →
     (∀ w, k = some w ∨ c = some w → ∀ x ∈ w, x ≤ 255) →
     exec (.setWeights h k c) s = .next
       { answered h (.setWeights k c) (.accepted .none) s with
         se := { s.se with kWeights := k.getD s.se.kWeights, colourWeights := c.getD s.se.colourWeights } }) ∧
   (∀ (h : Head) (a b : Option Nat) (s : State), h.port = .f → Ready h (.setEstimator a b) s →
     (∀ x, a = some x → x ≤ 100) → (∀ x, b = some x → x ≤ 100) →
     exec (.setEstimator h a b) s = .next
       { answered h (.setEstimator a b) (.accepted .none) s with
         se := { s.se with tolerance := a.getD s.se.tolerance, rebaseLimit := b.getD s.se.rebaseLimit } }) ∧
   (∀ (h : Head) (n f : Nat) (l : Lane) (s : State), h.port = .f → n < 64 → (s.printer n).enrolled = true →
     (Ready h (.setFactor n l f) s → 32 ≤ f → f ≤ 96 →
       (s.lane n l = none →
         exec (.setFactor h n l f) s = .next (answered h (.setFactor n l f) (.refused .noSuchPrinter) s)) ∧
       (∀ x, s.lane n l = some x →
         exec (.setFactor h n l f) s = .next
           ((answered h (.setFactor n l f) (.accepted .none) s).setLane n l (some { x with factor := f })))) ∧
     (Ready h (.ackUncounted n l) s →
       (s.lane n l = none →
         exec (.ackUncounted h n l) s = .next (answered h (.ackUncounted n l) (.refused .noSuchPrinter) s)) ∧
       (∀ x, s.lane n l = some x →
         exec (.ackUncounted h n l) s = .next
           ((answered h (.ackUncounted n l) (.accepted .none) s).setLane n l (some { x with uncounted := false })))))) ∧
  ((∀ (h : Head) (k : ConditionKind) (m : Nat) (s : State), h.port = .f → Ready h (.setGrace k m) s →
     (k ≠ .supplyOut → m ≤ 255 →
       exec (.setGrace h k m) s = .next
         { answered h (.setGrace k m) (.accepted (.settings (s.cu.graceTimes.set k.code m) s.cu.escalation)) s with
           cu := { s.cu with graceTimes := s.cu.graceTimes.set k.code m } }) ∧
     ((k = .supplyOut ∨ 255 < m) →
       exec (.setGrace h k m) s = .next (answered h (.setGrace k m) (.refused .outOfRange) s))) ∧
   (∀ (h : Head) (m : Nat) (s : State), h.port = .f → Ready h (.setEscalation m) s →
     (1 ≤ m → m ≤ 255 →
       exec (.setEscalation h m) s = .next
         { answered h (.setEscalation m) (.accepted (.settings s.cu.graceTimes m)) s with
           cu := { s.cu with escalation := m } }) ∧
     ((m = 0 ∨ 255 < m) →
       exec (.setEscalation h m) s = .next (answered h (.setEscalation m) (.refused .outOfRange) s))) ∧
   (∀ (h : Head) (n : Nat) (k : KindSet) (s : State), h.port = .f → Ready h (.clearHistory n k) s → n < 64 →
     (s.printer n).enrolled = true →
     exec (.clearHistory h n k) s = .next
       ((answered h (.clearHistory n k) (.accepted (.history (s.history n &&& ~~~k))) s).setHistory n
         (s.history n &&& ~~~k))))

/-! ### Reads -/

/-- R169, R170, R105, R108, R109, R120, R121, R124, R138, R161, R173: the reads of the ports, the fleet, the lanes, the stock,
the link and the clock. They change nothing. The request being answered is counted in port F's queue (log entry 19), a place
in the deferral list is counted from 0 (log entry 26), and the ports are shown in the order T0, T1, T2, T3, F (log entry 33):
all three the model's choice. -/
def Obligations.ReadsChangeNothing : Prop :=
  (∀ (h : Head) (s : State), Ready h .readNotices s →
    exec (.readNotices h) s = .next
      (answered h .readNotices (.accepted (.notices (s.port h.port).mask (s.port h.port).flags)) s)) ∧
  (∀ (h : Head) (s : State), h.port = .f → Ready h .readPorts s →
    exec (.readPorts h) s = .next (answered h .readPorts (.accepted (.ports
      [⟨s.ports.t0.state, s.ports.t0.queue.length, s.ports.t0.flags, s.ports.t0.mask⟩,
       ⟨s.ports.t1.state, s.ports.t1.queue.length, s.ports.t1.flags, s.ports.t1.mask⟩,
       ⟨s.ports.t2.state, s.ports.t2.queue.length, s.ports.t2.flags, s.ports.t2.mask⟩,
       ⟨s.ports.t3.state, s.ports.t3.queue.length, s.ports.t3.flags, s.ports.t3.mask⟩,
       ⟨s.ports.f.state, max 1 s.ports.f.queue.length, s.ports.f.flags, s.ports.f.mask⟩])) s)) ∧
  (∀ (h : Head) (n : Nat) (s : State), h.port = .f → Ready h (.readPrinter n) s → n < 64 →
    let p := s.printer n
    exec (.readPrinter h n) s = .next (answered h (.readPrinter n) (.accepted (.printer
      { enrolled := p.enrolled, floor := p.floor, group := p.group, colour := p.colour, silenceLimit := p.silenceLimit
        stallLimit := p.stallLimit, admin := p.admin, presence := p.presence, capabilities := p.capabilities
        conditions := p.conditions, supplyOut := p.supplyOut
        queue := p.queue.map (fun j => ⟨(s.job j.index).grant, (s.job j.index).tenant, (s.job j.index).state,
          (s.job j.index).pages⟩)
        silence := p.silence, stall := p.stall, meter := p.meter, surplus := p.surplus, walkup := p.walkup
        stalled := p.stalled, protocolError := p.protocolError, history := s.history n })) s)) ∧
  (∀ (h : Head) (s : State), h.port = .f → Ready h .readWeights s →
    exec (.readWeights h) s = .next (answered h .readWeights
      (.accepted (.weights s.se.kWeights s.se.colourWeights s.se.tolerance s.se.rebaseLimit)) s)) ∧
  (∀ (h : Head) (n : Nat) (s : State), h.port = .f → Ready h (.readLanes n) s → n < 64 →
    (s.printer n).enrolled = true →
    let view : Lane → Option LaneView := fun l => (s.lane n l).map (fun x =>
      let capacity := (s.ctype x.type).capacity
      let level := match x.confirmed with
        | none => x.estimate
        | some r => min x.estimate (r * capacity / 100)
      { lane := l, record := x, effective := level, percent := level * 100 / capacity, capacity := capacity })
    exec (.readLanes h n) s = .next (answered h (.readLanes n) (.accepted (.lanes
      ([Lane.k, .c, .m, .y].filterMap view))) s)) ∧
  (∀ (h : Head) (s : State), Canonical s → h.port = .f → Ready h .listUncounted s →
    ∃ l : List LaneName, exec (.listUncounted h) s =
        .next (answered h .listUncounted (.accepted (.uncounted l.length (l.take 16))) s) ∧
      (∀ w : LaneName, w ∈ l ↔ ∃ x, s.lane w.printer w.lane = some x ∧ x.uncounted = true) ∧
      l.Pairwise (fun v w => v.printer < w.printer ∨ (v.printer = w.printer ∧ v.lane.code < w.lane.code))) ∧
  (∀ (h : Head) (ty : Nat) (s : State), Canonical s → h.port = .f → Ready h (.readType ty) s → ty < 32 →
    let r := s.ctype ty
    exec (.readType h ty) s = .next (answered h (.readType ty) (.accepted (.typeView
      { record := r
        position := (r.onHand : Int) + r.onOrder - r.allocated - r.waitList.length
        deferralPlace := s.su.deferred.idxOf? ty
        lanes := (s.se.lanes.filter (fun e => e.2.any (fun x => x.type == ty))).length
        lanesAllocated := (allocatedLanes s ty).length })) s)) ∧
  (∀ (h : Head) (s : State), h.port = .f → Ready h .listOrders s →
    exec (.listOrders h) s = .next (answered h .listOrders
      (.accepted (.orders s.su.orders.length s.su.orders s.su.deferred.length)) s)) ∧
  (∀ (h : Head) (s : State), Canonical s → h.port = .f → Ready h .readLink s →
    ∃ l : List StrayView, exec (.readLink h) s = .next (answered h .readLink (.accepted (.link l.length l
        (((List.range 64).filter (fun a => (s.printer a).enrolled)).map (fun a => (a, (s.commands a).length))))) s) ∧
      (∀ v : StrayView, v ∈ l ↔ s.stray v.address = some ⟨v.kind, v.time⟩) ∧
      l.Pairwise (fun v w => v.address < w.address)) ∧
  (∀ (h : Head) (s : State), Ready h .readClock s →
    exec (.readClock h) s = .next (answered h .readClock
      (.accepted (.clockView s.tb.clock s.tb.second s.tb.active s.tb.schedule s.tb.cause)) s))

/-! ### The stock -/

/-- R125, R136, R124: SET_TYPE and ADJUST_STOCK on a type; other types, the clock and every account's balance stand. -/
def Obligations.TypeAndStockAreSet : Prop :=
  (∀ (h : Head) (ty : Nat) (c : TypeChanges) (s : State), Canonical s → h.port = .f → Ready h (.setType ty c) s → ty < 32 →
    (∀ x, c.capacity = some x → 1 ≤ x ∧ x ≤ 65535) → (∀ x, c.reorder = some x → 1 ≤ x ∧ x ≤ 99) →
    (∀ x, c.critical = some x → 1 ≤ x ∧ x ≤ 99) → (∀ x, c.level = some x → x ≤ 999) →
    (∀ x, c.quantity = some x → 1 ≤ x ∧ x ≤ 999) →
    let old := s.ctype ty
    (c.reorder.getD old.reorder ≤ c.critical.getD old.critical →
      exec (.setType h ty c) s = .next (answered h (.setType ty c) (.refused .outOfRange) s)) ∧
    (c.critical.getD old.critical < c.reorder.getD old.reorder →
      ∃ t, exec (.setType h ty c) s = .next t ∧
        (t.ctype ty).capacity = c.capacity.getD old.capacity ∧ (t.ctype ty).reorder = c.reorder.getD old.reorder ∧
        (t.ctype ty).critical = c.critical.getD old.critical ∧ (t.ctype ty).level = c.level.getD old.level ∧
        (t.ctype ty).quantity = c.quantity.getD old.quantity ∧ (t.ctype ty).ordering = true ∧
        (t.ctype ty).onHand = old.onHand ∧
        (c.capacity.getD old.capacity ≠ old.capacity → ∀ n l x, s.lane n l = some x → x.type = ty →
          ∃ y, t.lane n l = some y ∧ y.estimate = min x.estimate (c.capacity.getD old.capacity) ∧
            StateFits y (t.ctype ty)) ∧
        (∀ u, u ≠ ty → t.ctype u = s.ctype u) ∧
        t.out.head? = some (h.port, .answer h.tag 96 (.accepted (.type (t.ctype ty)))) ∧ t.tb = s.tb ∧
        (∀ i, (t.account i).balance = (s.account i).balance ∧ (t.account i).used = (s.account i).used))) ∧
  (∀ (h : Head) (ty x : Nat) (s : State), h.port = .f → Ready h (.adjustStock ty x) s → ty < 32 →
    ((999 < x ∨ x < (s.ctype ty).allocated) →
      exec (.adjustStock h ty x) s = .next (answered h (.adjustStock ty x) (.refused .outOfRange) s)) ∧
    (x ≤ 999 → (s.ctype ty).allocated ≤ x →
      ∃ t, exec (.adjustStock h ty x) s = .next t ∧ (t.ctype ty).onHand = x ∧
        ((t.ctype ty).allocated = x ∨ (t.ctype ty).waitList = []) ∧
        (t.ctype ty).allocated + (t.ctype ty).waitList.length =
          (s.ctype ty).allocated + (s.ctype ty).waitList.length ∧
        (∃ served, (s.ctype ty).waitList = served ++ (t.ctype ty).waitList) ∧
        t.out.head? = some (h.port, .answer h.tag 97 (.accepted (.stock x (t.ctype ty).allocated (t.ctype ty).onOrder
          (t.ctype ty).waitList.length ((x : Int) + (t.ctype ty).onOrder - (t.ctype ty).allocated -
            (t.ctype ty).waitList.length)))) ∧
        (∀ u, u ≠ ty → t.ctype u = s.ctype u) ∧ t.au = s.au ∧ t.jt = s.jt ∧ t.ru = s.ru ∧ t.ft = s.ft ∧ t.cu = s.cu ∧
        t.flc = s.flc ∧ t.tb = s.tb))

/-- R137: SET_LANE_TYPE: the lane's own type changes nothing; another takes the lane's claim back, moves the lane, and claims
again where the lane is not OK. -/
def Obligations.LaneMovesToAnotherType : Prop :=
  ∀ (h : Head) (n ty : Nat) (l : Lane) (s : State), FleetLaws s → h.port = .f → Ready h (.setLaneType n l ty) s →
    n < 64 → ty < 32 → (s.printer n).enrolled = true →
    (s.lane n l = none →
      exec (.setLaneType h n l ty) s = .next (answered h (.setLaneType n l ty) (.refused .noSuchPrinter) s)) ∧
    (∀ x, s.lane n l = some x →
      (x.type = ty →
        exec (.setLaneType h n l ty) s =
          .next (answered h (.setLaneType n l ty) (.accepted (.lane (some x))) s)) ∧
      (x.type ≠ ty →
        ∃ t y, exec (.setLaneType h n l ty) s = .next t ∧ t.lane n l = some y ∧ y.type = ty ∧
          y.estimate = min x.estimate (s.ctype ty).capacity ∧ y.fraction = x.fraction ∧ y.factor = x.factor ∧
          y.candidate = x.candidate ∧ y.confirmed = x.confirmed ∧ y.emptyFlag = x.emptyFlag ∧
          y.uncounted = x.uncounted ∧ StateFits y (s.ctype ty) ∧
          (y.state = .ok ↔ y.allocation = false ∧ y.waiting = false) ∧
          (t.printer n).laneTypes = (s.printer n).laneTypes.set l (some ty) ∧
          (t.ctype x.type).onHand = (s.ctype x.type).onHand ∧ (t.ctype ty).onHand = (s.ctype ty).onHand ∧
          t.out.head? = some (h.port, .answer h.tag 98 (.accepted (.lane (some y))))))

/-- R133, whole: ACK_ORDER, and the port check of chapter 7's requests. -/
def Obligations.AckOrderMarksTheOrder : Prop :=
  (∀ (h : Head) (n : Nat) (s : State), h.port = .f → Ready h (.ackOrder n) s →
    ((n = 0 ∨ 65535 < n) →
      exec (.ackOrder h n) s = .next (answered h (.ackOrder n) (.refused .outOfRange) s)) ∧
    (1 ≤ n → n ≤ 65535 → (∀ o ∈ s.su.orders, o.number ≠ n) →
      exec (.ackOrder h n) s = .next (answered h (.ackOrder n) (.refused .noSuchOrder) s)) ∧
    (∀ o ∈ s.su.orders, o.number = n → 1 ≤ n → n ≤ 65535 → OrderLaw s →
      (o.acknowledged = true →
        exec (.ackOrder h n) s = .next (answered h (.ackOrder n) (.refused .badState) s)) ∧
      (o.acknowledged = false →
        exec (.ackOrder h n) s = .next
          ((answered h (.ackOrder n) (.accepted (.order { o with acknowledged := true })) s).setOrders
            (s.su.orders.map (fun x => if x = o then { o with acknowledged := true } else x)))))) ∧
  (∀ (i : Instr) (h : Head) (r : Request) (s : State), i.asRequest = some (h, r) → 96 ≤ kindCode r → kindCode r ≤ 103 →
    Standing h r s → h.wellFormed = true → formOk r = true → (s.port h.port).state = .attached → h.port ≠ .f →
    exec i s = .next (answered h r (.refused .wrongPort) s))

/-- R134, R135: an order received or cancelled. A received order's type has its waiters served from the head of the wait list
while a cartridge is free (R128), the deferral list is served while the order queue has room, and a type still at or below
its level has an order in the queue or stands deferred. R124, R130 to R132: the ordering trigger of a type: its three
conditions, the order it raises with its quantity and number, the deferral list it joins with the queue full and leaves once
it wants no more. -/
def Obligations.OrdersRaisedReceivedAndCancelled : Prop :=
  (∀ (u : Nat) (s : State),
    let r := s.ctype u
    let position : Int := (r.onHand : Int) + r.onOrder - r.allocated - r.waitList.length
    let wants : Prop := position ≤ r.level ∧ r.ordering = true ∧ ∀ o ∈ s.su.orders, o.type ≠ u
    let used := s.su.orders.map Order.number
    let after : Nat → Nat := fun x => if 65535 ≤ x then 1 else x + 1
    (wants → s.su.orders.length < 16 → ∃ number quantity tries : Nat,
      tries ≤ 16 ∧ number = Nat.iterate after tries s.su.orderCounter ∧ number ∉ used ∧
      (∀ k, k < tries → Nat.iterate after k s.su.orderCounter ∈ used) ∧
      (quantity : Int) = min 999 (max (r.quantity : Int) ((r.level : Int) + 1 - position)) ∧
      trigger u s = raise .f .order ({ s with
        su := { s.su with
          orders := s.su.orders ++ [Order.mk number u quantity false s.now]
          orderCounter := after number } }.setType u { r with onOrder := quantity })) ∧
    (wants → 16 ≤ s.su.orders.length →
      trigger u s = if u ∈ s.su.deferred then s else s.setDeferredTypes (s.su.deferred ++ [u])) ∧
    ((r.level : Int) < position ∨ r.ordering = false →
      trigger u s = s.setDeferredTypes (s.su.deferred.filter (· ≠ u))) ∧
    (¬wants → ¬((r.level : Int) < position ∨ r.ordering = false) → trigger u s = s)) ∧
  (∀ s : State, 16 ≤ s.su.orders.length → serveDeferredTypes s = s) ∧
  (∀ (u : Nat) (rest : List Nat) (s : State), s.su.orders.length < 16 → s.su.deferred = u :: rest → s.su.deferred.Nodup →
    serveDeferredTypes s = serveDeferredTypes (trigger u (s.setDeferredTypes rest))) ∧
  ∀ (h : Head) (o : Order) (s : State), OrderLaw s → h.port = .f → o ∈ s.su.orders → 1 ≤ o.number → o.number ≤ 65535 →
    (∀ x : Nat, Ready h (.receiveOrder o.number x) s →
      (999 < x →
        exec (.receiveOrder h o.number x) s =
          .next (answered h (.receiveOrder o.number x) (.refused .outOfRange) s)) ∧
      (x ≤ 999 →
        ∃ t raised, exec (.receiveOrder h o.number x) s = .next t ∧
          (t.ctype o.type).onHand = min 999 ((s.ctype o.type).onHand + x) ∧
          (t.ctype o.type).allocated + (t.ctype o.type).waitList.length =
            (s.ctype o.type).allocated + (s.ctype o.type).waitList.length ∧
          ((t.ctype o.type).onHand ≤ (t.ctype o.type).allocated ∨ (t.ctype o.type).waitList = []) ∧
          ((s.ctype o.type).allocated ≤ (s.ctype o.type).onHand → (s.ctype o.type).onHand ≤ 999 →
            (t.ctype o.type).allocated ≤ (t.ctype o.type).onHand) ∧
          (∃ served, (s.ctype o.type).waitList = served ++ (t.ctype o.type).waitList ∧
            (∀ w ∈ served, ∀ l, s.lane w.printer w.lane = some l →
              t.lane w.printer w.lane = some { l with waiting := false, allocation := true }) ∧
            (∀ n l, LaneName.mk n l ∉ served → t.lane n l = s.lane n l)) ∧
          (∀ y ∈ s.su.orders, y ≠ o → y ∈ t.su.orders) ∧
          (∀ y ∈ t.su.orders, y.type = o.type → y.acknowledged = false ∧ y.raised = s.now) ∧
          (16 ≤ t.su.orders.length ∨ t.su.deferred = []) ∧
          (((t.ctype o.type).onHand : Int) + (t.ctype o.type).onOrder - (t.ctype o.type).allocated -
              (t.ctype o.type).waitList.length ≤ (t.ctype o.type).level → (t.ctype o.type).ordering = true →
            (∀ y ∈ t.su.orders, y.type ≠ o.type) → 16 ≤ t.su.orders.length ∧ o.type ∈ t.su.deferred) ∧
          (∀ u, u ≠ o.type → (t.ctype u).onHand = (s.ctype u).onHand ∧
            (t.ctype u).allocated = (s.ctype u).allocated ∧ (t.ctype u).waitList = (s.ctype u).waitList) ∧
          t.out.head? = some (h.port, .answer h.tag 100 (.accepted (.received (t.ctype o.type).onHand
            (t.ctype o.type).allocated (t.ctype o.type).onOrder raised))) ∧
          (∀ k, raised = some k → ∃ y ∈ t.su.orders, y.number = k ∧ y.type = o.type) ∧
          (o.type ∉ s.su.deferred → ∀ y ∈ t.su.orders, y.type = o.type → raised = some y.number) ∧
          t.au = s.au ∧ t.jt = s.jt ∧ t.ru = s.ru ∧ t.ft = s.ft ∧ t.cu = s.cu ∧ t.flc = s.flc ∧ t.tb = s.tb)) ∧
    (Ready h (.cancelOrder o.number) s →
      ∃ t, exec (.cancelOrder h o.number) s = .next t ∧
        t.ctype o.type = { s.ctype o.type with onOrder := 0, ordering := false } ∧
        (∀ y ∈ s.su.orders, y ≠ o → y ∈ t.su.orders) ∧ (∀ y ∈ t.su.orders, y.type ≠ o.type) ∧
        (∀ u, u ≠ o.type → (t.ctype u).onHand = (s.ctype u).onHand ∧
          (t.ctype u).allocated = (s.ctype u).allocated ∧ (t.ctype u).waitList = (s.ctype u).waitList) ∧
        t.out.head? = some (h.port, .answer h.tag 101 (.accepted .none)) ∧
        t.au = s.au ∧ t.jt = s.jt ∧ t.ru = s.ru ∧ t.ft = s.ft ∧ t.se = s.se ∧ t.cu = s.cu ∧ t.flc = s.flc ∧
        t.tb = s.tb)

/-! ### Callouts and the link -/

/-- R150, whole: ACK_CALLOUT. -/
def Obligations.AckCalloutMarksTheCallout : Prop :=
  (∀ (h : Head) (n : Nat) (s : State), h.port = .f → Ready h (.ackCallout n) s →
    ((n = 0 ∨ 65535 < n) →
      exec (.ackCallout h n) s = .next (answered h (.ackCallout n) (.refused .outOfRange) s)) ∧
    (1 ≤ n → n ≤ 65535 → (∀ c ∈ s.cu.callouts, c.number ≠ n) →
      exec (.ackCallout h n) s = .next (answered h (.ackCallout n) (.refused .noSuchCallout) s)) ∧
    (∀ c ∈ s.cu.callouts, c.number = n → 1 ≤ n → n ≤ 65535 → CalloutLaw s →
      (c.acknowledged = true →
        exec (.ackCallout h n) s = .next (answered h (.ackCallout n) (.refused .badState) s)) ∧
      (c.acknowledged = false →
        exec (.ackCallout h n) s = .next
          ((answered h (.ackCallout n) (.accepted (.callout { c with acknowledged := true })) s).setCallouts
            (s.cu.callouts.map (fun x => if x = c then { c with acknowledged := true } else x)))))) ∧
  (∀ (h : Head) (n : Nat) (s : State), h.port ≠ .f → Standing h (.ackCallout n) s → h.wellFormed = true →
    (s.port h.port).state = .attached →
    exec (.ackCallout h n) s = .next (answered h (.ackCallout n) (.refused .wrongPort) s)) ∧
  (∀ s : State, CalloutLaw s → ∃ t, exec .calloutEscalation s = .next t ∧
    ∀ c ∈ s.cu.callouts, c.acknowledged = true → c ∈ t.cu.callouts) ∧
  (∀ (n : Nat) (k : CalloutKind) (items : List CalloutItem) (s : State),
    ∀ c ∈ (extendCallout n k items s).cu.callouts, c.key = (n, k) → c.acknowledged = false)

/-- R153, whole: LIST_CALLOUTS. -/
def Obligations.ListCalloutsShowsTheQueue : Prop :=
  ∀ (h : Head) (s : State), h.port = .f → Ready h .listCallouts s →
    exec (.listCallouts h) s = .next (answered h .listCallouts (.accepted (.callouts s.cu.callouts.length s.cu.callouts
      s.cu.deferrals.length (s.cu.deferrals.take 16) s.cu.graceTimes s.cu.escalation)) s)

/-- R162, whole: CLEAR_STRAY, the stray report that follows it, and the port check of READ_LINK and CLEAR_STRAY. -/
def Obligations.ClearStrayEmptiesTheSet : Prop :=
  (∀ (h : Head) (a : Nat) (s : State), h.port = .f → Ready h (.clearStray (some a)) s →
    (a < 64 →
      exec (.clearStray h (some a)) s = .next
        ((answered h (.clearStray (some a))
          (.accepted (.straysLeft (s.flc.strays.filter (fun e => e.1 ≠ a)).length)) s).setStray a none)) ∧
    (a < 64 → Canonical s → s.stray a = none →
      exec (.clearStray h (some a)) s = .next
        (answered h (.clearStray (some a)) (.accepted (.straysLeft s.flc.strays.length)) s)) ∧
    (64 ≤ a → exec (.clearStray h (some a)) s = .next (answered h (.clearStray (some a)) (.refused .outOfRange) s))) ∧
  (∀ (h : Head) (s : State), h.port = .f → Ready h (.clearStray none) s →
    exec (.clearStray h none) s = .next
      { answered h (.clearStray none) (.accepted (.straysLeft 0)) s with flc := { s.flc with strays := [] } }) ∧
  (∀ (i : Instr) (l : LinkFrame) (k : ReportKind) (s : State), reportKindOf i = some (l, k) → s.phase ≠ .off →
    l.checkOk = true → l.address < 64 → ReportInRange i → (s.printer l.address).enrolled = false →
    ∃ t, exec i s = .next t ∧ t.stray l.address = some ⟨k, s.now⟩ ∧ hasNotice (t.port .f).flags .fleet = true) ∧
  (∀ (h : Head) (a : Option Nat) (s : State), h.port ≠ .f → h.wellFormed = true →
    (s.port h.port).state = .attached →
    (Standing h .readLink s → exec (.readLink h) s = .next (answered h .readLink (.refused .wrongPort) s)) ∧
    (Standing h (.clearStray a) s →
      exec (.clearStray h a) s = .next (answered h (.clearStray a) (.refused .wrongPort) s)))

/-! ### Time and resets -/

/-- R173, R174: SET_CLOCK and SET_SCHEDULE. -/
def Obligations.ClockAndScheduleAreSet : Prop :=
  (∀ (h : Head) (d m w : Nat) (s : State), h.port = .f → Ready h (.setClock d m w) s →
    (d ≤ 65535 → m ≤ 1439 → w ≤ 6 → ∀ p, PolicyAt (some ⟨d, m, w⟩) s.tb.schedule p →
      (∃ t, exec (.setClock h d m w) s = .next t ∧
        t.tb = { s.tb with clock := some ⟨d, m, w⟩, second := 0, active := p }) ∧
      (Canonical s → NothingDue s →
        exec (.setClock h d m w) s = .next
          { answered h (.setClock d m w) (.accepted (.clock (some ⟨d, m, w⟩) p)) s with
            tb := { s.tb with clock := some ⟨d, m, w⟩, second := 0, active := p } })) ∧
    ((65535 < d ∨ 1439 < m ∨ 6 < w) →
      exec (.setClock h d m w) s = .next (answered h (.setClock d m w) (.refused .outOfRange) s))) ∧
  (∀ (h : Head) (es : List ScheduleEntry) (s : State), h.port = .f → Ready h (.setSchedule es) s →
    ((∀ e ∈ es, e.weekday ≤ 6 ∧ e.start ≤ 1440 ∧ e.finish ≤ 1440) → (es.map ScheduleEntry.weekday).Nodup →
      let schedule := es.foldl (fun d e => d.set e.weekday ⟨e.start, e.finish⟩) s.tb.schedule
      ∀ p, PolicyAt s.tb.clock schedule p →
        exec (.setSchedule h es) s = .next
          { answered h (.setSchedule es) (.accepted (.schedule schedule p)) s with
            tb := { s.tb with schedule := schedule, active := p } }) ∧
    (((∃ e ∈ es, 6 < e.weekday ∨ 1440 < e.start ∨ 1440 < e.finish) ∨ ¬(es.map ScheduleEntry.weekday).Nodup) →
      exec (.setSchedule h es) s = .next (answered h (.setSchedule es) (.refused .outOfRange) s)))

/-- R175, R176: CLEAR_ALL, power-on with the marker clear, the RESET line inside a cold reset, and the losses of the two
supplies. The reset phase, its operands and the supply's presence are the model's (log entries 9, 10, 11). -/
def Obligations.ColdResetsAndPowerLoss : Prop :=
  (∀ (h : Head) (s : State), h.port = .f → Ready h .clearAll s →
    exec (.clearAll h) s = .next
      { coldAfter .coldClear s with out := [(h.port, .answer h.tag 130 (.accepted .none))] }) ∧
  (∀ (supply : Bool) (s : State), s.phase = .off → s.rm.marker = false →
    exec (.powerOn supply) s = .next { coldAfter .coldPower s with rm := ⟨true, supply⟩ }) ∧
  (∀ s : State, s.phase = .justReset → s.tb.cause ∈ [.coldPower, .coldClear] →
    exec (.resetLineAsserted true) s = .next (coldAfter s.tb.cause s)) ∧
  (∀ (inReset : Bool) (s : State), s.phase ≠ .off →
    ∃ t, exec (.mainPowerLoss inReset) s = .next t ∧ t = { s with rm := t.rm, phase := .off, out := [] } ∧
      t.rm.supply = s.rm.supply ∧
      (t.rm.marker = true ↔ s.rm.marker = true ∧ s.rm.supply = true ∧
        ¬(s.phase = .justReset ∧ inReset = true ∧ s.tb.cause ∈ [.coldPower, .coldClear]))) ∧
  (∀ s : State, s.phase ≠ .off →
    exec .retainedSupplyLoss s = .next { s with rm := { s.rm with supply := false }, out := [] }) ∧
  (∀ s : State, s.phase = .off → exec .retainedSupplyLoss s = .next { s with rm := ⟨false, false⟩, out := [] })

/-- R177, R176: the two warm resets keep the retained domain, reconcile the claims, the stock and the SUPPLY callouts (R112,
R123, R139), raise FLEET, CALLOUT and ORDER where they act, and give the rest its reset values, the fault histories (R152)
among it. That a RESET assertion during
a warm reset makes another on the state the first left, and that work the time base left owed is dropped, is the model's
choice (log entries 9 and 32). -/
def Obligations.WarmResetKeepsTheRetained : Prop :=
  (∀ (inReset : Bool) (s : State), Canonical s → s.phase ≠ .off →
    ¬(s.phase = .justReset ∧ inReset = true ∧ s.tb.cause ∈ [.coldPower, .coldClear]) →
    ∃ t, exec (.resetLineAsserted inReset) s = .next t ∧ WarmAfter .warmLine s t ∧ t.rm = s.rm) ∧
  (∀ (supply : Bool) (s : State), Canonical s → s.phase = .off → s.rm.marker = true →
    ∃ t, exec (.powerOn supply) s = .next t ∧ WarmAfter .warmPower s t ∧ t.rm = ⟨true, supply⟩)

/-! ### Reports -/

/-- R92, R91, R160, R99, R51: HELLO, whatever the printer's presence. The pages of a job it makes DONE follow R50's sentence (log
entry 14). -/
def Obligations.HelloMakesPresent : Prop :=
  ∀ (l : LinkFrame) (colour : Bool) (lanes meter : Nat) (s : State), Canonical s → s.phase ≠ .off → l.checkOk = true →
    l.address < 64 → (s.printer l.address).enrolled = true → 1 ≤ lanes → lanes ≤ 4 → meter < 4294967296 →
    let n := l.address
    let p := s.printer n
    let fits : Prop := colour = p.colour ∧ lanes = if p.colour = true then 4 else 1
    (∃ t, exec (.hello l colour lanes meter) s = .next t ∧ (t.printer n).presence = .present ∧
      (t.printer n).capabilities = some ⟨colour, lanes, meter⟩ ∧ (t.printer n).meter = none ∧
      (t.printer n).surplus = 0 ∧ (t.printer n).stalled = none ∧ (t.printer n).silence = some p.silenceLimit ∧
      (t.printer n).holds .unreachable = false ∧ ((t.printer n).holds .mismatch = true ↔ ¬fits) ∧
      (∀ c ∈ t.commands n, ∃ g tenant label pages, c = .expect g tenant label pages) ∧
      (∀ h rest, p.queue = h :: rest → (s.job h.index).state ∈ [.active, .cancelling] → FleetLaws s →
        h ∉ (t.printer n).queue ∧
        ((s.job h.index).state = .active → EndedShort (s.job h.index) (t.job h.index)) ∧
        ((s.job h.index).state = .cancelling → EndedCancelled (s.job h.index) (t.job h.index)))) ∧
    (fits → p.queue = [] → p.holds .unreachable = false → p.holds .mismatch = false →
      exec (.hello l colour lanes meter) s = .next
        ((({ s with phase := .running, out := [] } : State).setCommands n []).setPrinter n
          { p with silence := some p.silenceLimit, presence := .present, capabilities := some ⟨colour, lanes, meter⟩
                   meter := none, surplus := 0, stalled := none }))

/-- R104: STATUS: the first meter, a meter that rose, the walk-up pages, a meter that fell. -/
def Obligations.StatusCountsTheMeter : Prop :=
  ∀ (l : LinkFrame) (m : Nat) (s : State), Canonical s → HeardPlainly l s → m < 4294967296 →
    let n := l.address
    let p := (restarted n s).printer n
    let printing : Prop := ∃ h rest, p.queue = h :: rest ∧ (s.job h.index).state ∈ [.active, .cancelling]
    (p.meter = none → exec (.status l m) s = .next ((restarted n s).setPrinter n { p with meter := some m })) ∧
    (∀ old, p.meter = some old → old ≤ m →
      let surplus := min 65535 (p.surplus + ((m - old : Nat) : Int))
      ((surplus ≤ (s.ft.walkupMargin : Int) ∨ printing) →
        exec (.status l m) s = .next
          ((restarted n s).setPrinter n { p with meter := some m, surplus := surplus })) ∧
      ((s.ft.walkupMargin : Int) < surplus → ¬printing →
        ∃ t, exec (.status l m) s = .next t ∧ (t.printer n).meter = some m ∧ (t.printer n).surplus = 0 ∧
          (t.printer n).walkup = min 4294967295 (p.walkup + surplus.toNat) ∧
          (∀ x, s.lane n .k = some x → ∃ y, t.lane n .k = some y ∧
            Deducted x y surplus.toNat (s.se.kWeights.getD s.ft.walkupClass 0)) ∧
          (∀ lane x, lane ≠ .k → s.lane n lane = some x →
            ∃ y, t.lane n lane = some y ∧ y.estimate = x.estimate ∧ y.fraction = x.fraction) ∧
          (∀ i, (t.account i).balance = (s.account i).balance ∧ (t.account i).used = (s.account i).used))) ∧
    (∀ old, p.meter = some old → m < old →
      (p.holds .meterFault = true →
        exec (.status l m) s = .next ((restarted n s).setPrinter n { p with meter := some m })) ∧
      (p.holds .meterFault = false →
        ∃ t, exec (.status l m) s = .next t ∧ (t.printer n).holds .meterFault = true ∧
          (t.printer n).meter = some m ∧ (t.printer n).surplus = p.surplus ∧
          hasKind (t.history n) .meterFault = true))

/-- R93, R143, R144, R145, R102: CONDITION: an onset or a clear that changes nothing, an onset with a grace time and one with
none, and a clear. -/
def Obligations.ConditionOnsetAndClear : Prop :=
  ∀ (l : LinkFrame) (k : ConditionKind) (s : State), Canonical s → HeardPlainly l s →
    k ∈ [.jam, .doorOpen, .paperOut, .hardware] →
    let n := l.address
    let p := (restarted n s).printer n
    let grace := s.cu.graceTimes.getD k.code 0
    (p.holds k = true → exec (.condition l k true) s = .next (restarted n s)) ∧
    (p.holds k = false → exec (.condition l k false) s = .next (restarted n s)) ∧
    (p.holds k = false → 0 < grace →
      exec (.condition l k true) s = .next
        ((((restarted n s).setPrinter n
            { p with conditions := Table.set none p.conditions k.code (some ⟨s.now⟩) }).setHistory n
          (s.history n ||| k.only)).setGrace n k (.running grace))) ∧
    (p.holds k = false → grace = 0 →
      ∃ t, exec (.condition l k true) s = .next t ∧ (t.printer n).holds k = true ∧ t.grace n k = .spent ∧
        hasKind (t.history n) k = true ∧ (p.admin = .outOfService → t.cu.callouts = s.cu.callouts) ∧
        (p.admin ≠ .outOfService → InService t n k) ∧
        (p.admin ≠ .outOfService → FleetLaws s → (∀ c ∈ s.cu.callouts, c.key ≠ (n, .service)) →
          s.cu.callouts.length < 32 →
          hasNotice (t.port .f).flags .callout = true ∧
          ∀ h ∈ (t.printer n).queue, (t.job h.index).state ≠ .queued)) ∧
    (p.holds k = true →
      ∃ t, exec (.condition l k false) s = .next t ∧ (t.printer n).holds k = false ∧ t.grace n k = .idle ∧
        (CalloutLaw s → ¬InService t n k))

/-- R117, R118, R119, R109, R110: LEVEL, lane by lane, and INSTALLED. -/
def Obligations.LevelAndInstalled : Prop :=
  (∀ (l : LinkFrame) (r : PerLane LaneReading) (s : State), Canonical s → HeardPlainly l s →
    (∀ lane n, (r.get lane).reading = some n → n ≤ 100) →
    ∃ t, exec (.level l r) s = .next t ∧
      (∀ lane, s.lane l.address lane = none → t.lane l.address lane = none) ∧
      (∀ lane x, s.lane l.address lane = some x →
        let capacity := (s.ctype x.type).capacity
        let e := r.get lane
        ∃ y, t.lane l.address lane = some y ∧ y.type = x.type ∧ y.emptyFlag = e.empty ∧
          StateFits y (s.ctype x.type) ∧
          (e.reading = none → y.candidate = x.candidate ∧ y.confirmed = x.confirmed ∧ y.estimate = x.estimate ∧
            y.fraction = x.fraction ∧ y.factor = x.factor) ∧
          (∀ n, e.reading = some n → y.candidate = some n ∧
            ((∀ c, x.candidate = some c → c + 2 < n ∨ n + 2 < c) →
              y.confirmed = x.confirmed ∧ y.estimate = x.estimate ∧ y.fraction = x.fraction ∧ y.factor = x.factor) ∧
            (∀ c, x.candidate = some c → c ≤ n + 2 → n ≤ c + 2 →
              let d : Int := ((x.estimate * 100 / capacity : Nat) : Int) - (n : Int)
              y.confirmed = some n ∧
              y.factor = (if (s.se.tolerance : Int) < d then min 96 (x.factor + 1)
                else if d < -(s.se.tolerance : Int) then max 32 (x.factor - 1) else x.factor) ∧
              ((s.se.rebaseLimit : Int) < d ∨ d < -(s.se.rebaseLimit : Int) →
                y.estimate = n * capacity / 100 ∧ y.fraction = 0) ∧
              (¬((s.se.rebaseLimit : Int) < d ∨ d < -(s.se.rebaseLimit : Int)) →
                y.estimate = x.estimate ∧ y.fraction = x.fraction))))) ∧
  (∀ (l : LinkFrame) (lane : Lane) (s : State), HeardPlainly l s → s.lane l.address lane = none →
    exec (.installed l lane) s = .next (restarted l.address s)) ∧
  (∀ (l : LinkFrame) (lane : Lane) (x : LaneRecord) (s : State), FleetLaws s → HeardPlainly l s →
    s.lane l.address lane = some x →
    let ty := s.ctype x.type
    1 ≤ ty.capacity → ty.critical ≤ 99 → ty.reorder ≤ 99 →
    ∃ t y, exec (.installed l lane) s = .next t ∧ t.lane l.address lane = some y ∧ y.type = x.type ∧
      y.estimate = ty.capacity ∧ y.fraction = 0 ∧ y.candidate = none ∧ y.confirmed = none ∧ y.emptyFlag = false ∧
      y.factor = x.factor ∧ y.state = .ok ∧ y.allocation = false ∧ (x.state ≠ .ok → y.waiting = false) ∧
      (x.allocation = true → (t.ctype x.type).onHand = ty.onHand - 1 ∧ (t.ctype x.type).allocated = ty.allocated - 1 ∧
        y.uncounted = x.uncounted) ∧
      (x.allocation = false → ty.allocated < ty.onHand → (t.ctype x.type).onHand = ty.onHand - 1 ∧
        (t.ctype x.type).allocated = ty.allocated ∧ y.waiting = false ∧ y.uncounted = x.uncounted) ∧
      (x.allocation = false → ty.onHand ≤ ty.allocated → (t.ctype x.type).onHand = ty.onHand ∧
        (t.ctype x.type).allocated = ty.allocated ∧ y.uncounted = true ∧
        hasNotice (t.port .f).flags .supply = true))

/-- R96, R97, R100: PROGRESS of the printing head, of the stalled grant, and of a grant the FT cannot place. The stall count
restarts where done rose in some class; at done 19998 a higher count lowers the surplus alone (log entry 31). That a head's
PROGRESS keeps a stalled grant of the same number is the model's choice (log entry 34). -/
def Obligations.ProgressTakesTheCounts : Prop :=
  ∀ (l : LinkFrame) (g : Nat) (pages : PerClass Nat) (s : State), Canonical s → HeardPlainly l s → 1 ≤ g → g ≤ 65535 →
    pages.mono ≤ 9999 → pages.colour ≤ 9999 →
    let n := l.address
    let p := (restarted n s).printer n
    (∀ h rest, p.queue = h :: rest → (s.job h.index).state ∈ [.active, .cancelling] → (s.job h.index).grant = some g →
      let j := s.job h.index
      let up := (pages.mono - (pagesPrinted j).mono) + (pages.colour - (pagesPrinted j).colour)
      exec (.progress l g pages) s = .next
        (((restarted n s).setJob h.index (countTaken j pages)).setPrinter n
          { p with surplus := max (-65535) (min 65535 (p.surplus - (up : Int)))
                   stall := if j.done.mono < (countTaken j pages).done.mono ∨ j.done.colour < (countTaken j pages).done.colour
                     then some p.stallLimit else p.stall })) ∧
    ((∀ h rest, p.queue = h :: rest →
        ¬((s.job h.index).state ∈ [.active, .cancelling] ∧ (s.job h.index).grant = some g)) →
      ((∃ x, p.stalled = some x ∧ x.grant = g) →
        exec (.progress l g pages) s = .next (restarted n s)) ∧
      ((∀ x, p.stalled = some x → x.grant ≠ g) →
        exec (.progress l g pages) s = .next
          (raise .f .fleet ((restarted n s).setPrinter n { p with protocolError := some ⟨.progress, g, s.now⟩ }))))

/-- R97, R98, R99, R101, R21, R22, R115, R116: JOB_END of the printing head, a late end, and a grant the FT cannot place; the
command queue has room. The pages of a job it makes DONE follow R50's sentence (log entry 14). -/
def Obligations.JobEndSettlesTheJob : Prop :=
  ∀ (l : LinkFrame) (g : Nat) (pages : PerClass Nat) (outcome : JobOutcome) (s : State), FleetLaws s → LaneLaw s →
    HeardPlainly l s → 1 ≤ g → g ≤ 65535 → pages.mono ≤ 9999 → pages.colour ≤ 9999 → (s.commands l.address).length < 8 →
    let n := l.address
    let p := (restarted n s).printer n
    (∀ h rest, p.queue = h :: rest → (s.job h.index).state ∈ [.active, .cancelling] → (s.job h.index).grant = some g →
      let j := countTaken (s.job h.index) pages
      let printed := pagesPrinted j
      let up := (pages.mono - (pagesPrinted (s.job h.index)).mono) +
        (pages.colour - (pagesPrinted (s.job h.index)).colour)
      ∃ t, exec (.jobEnd l g pages outcome) s = .next t ∧ (t.printer n).queue = rest ∧
        (t.printer n).surplus = max (-65535) (min 65535 (p.surplus - (up : Int))) ∧
        (p.stalled.any (fun x => x.grant == g) = true → (t.printer n).stalled = none) ∧
        ChargedTo (s.account j.owner) (t.account j.owner) printed (j.reservation.getD ⟨0, 0⟩) ∧
        LanesDeducted s t n printed j.kClass j.colourClass ∧
        (j.state = .cancelling → EndedCancelled j (t.job h.index)) ∧
        (j.state = .active → outcome = .complete → j.pages.mono ≤ printed.mono → j.pages.colour ≤ printed.colour →
          t.job h.index = { j with
            state := .done, endReason := some .complete, finished := s.now, reservation := none, needs := none } ∧
          t.finishedList j.tenant = s.finishedList j.tenant ++ [h] ∧
          hasNotice (t.port (PortName.ofTenant j.tenant)).flags .finished = true) ∧
        (j.state = .active →
          ¬(outcome = .complete ∧ j.pages.mono ≤ printed.mono ∧ j.pages.colour ≤ printed.colour) →
          EndedShort j (t.job h.index))) ∧
    ((∀ h rest, p.queue = h :: rest →
        ¬((s.job h.index).state ∈ [.active, .cancelling] ∧ (s.job h.index).grant = some g)) →
      (∀ x, p.stalled = some x → x.grant = g →
        let extra : PerClass Nat := ⟨pages.mono - x.pages.mono, pages.colour - x.pages.colour⟩
        ∃ t, exec (.jobEnd l g pages outcome) s = .next t ∧ (t.printer n).stalled = none ∧
          (t.printer n).surplus =
            max (-65535) (min 65535 (p.surplus - ((extra.mono + extra.colour : Nat) : Int))) ∧
          ((s.account x.account).state = .free → t.account x.account = s.account x.account) ∧
          ((s.account x.account).state ≠ .free →
            ChargedTo (s.account x.account) (t.account x.account) extra ⟨0, 0⟩) ∧
          LanesDeducted s t n extra x.kClass x.colourClass) ∧
      ((∀ x, p.stalled = some x → x.grant ≠ g) →
        exec (.jobEnd l g pages outcome) s = .next
          (raise .f .fleet ((restarted n s).setPrinter n { p with protocolError := some ⟨.jobEnd, g, s.now⟩ }))))

/-- R156, R157, R158, R178, R180, R91, R159: a report dropped, stray, or sent by an agent that has not greeted; a report that
clears UNREACHABLE; a turn, which sends the oldest command whatever joins the queue behind it; a confirmation, after which
turns send the next. When turns are granted is no part of the spec (log entry 18); that a confirmation drops the present head
even where it answers a command discarded meanwhile is the model's choice (log entry 35). -/
def Obligations.LinkDropsStraysAndConfirms : Prop :=
  (∀ (i : Instr) (l : LinkFrame) (k : ReportKind) (s : State), reportKindOf i = some (l, k) → s.phase ≠ .off →
    ((l.checkOk = false ∨ 64 ≤ l.address ∨ ¬ReportInRange i) →
      exec i s = .next { s with phase := .running, out := [] }) ∧
    (l.checkOk = true → l.address < 64 → ReportInRange i →
      ((s.printer l.address).enrolled = false →
        exec i s = .next
          (raise .f .fleet (({ s with phase := .running, out := [] } : State).setStray l.address
            (some ⟨k, s.now⟩)))) ∧
      ((s.printer l.address).enrolled = true → (s.printer l.address).presence = .unknown → k ≠ .hello →
        exec i s = .next { s with phase := .running, out := [] }))) ∧
  (∀ (l : LinkFrame) (s : State), Heard l s → (s.printer l.address).holds .unreachable = true →
    (s.commands l.address).length < 8 →
    ∃ t, exec (.sessionEnd l) s = .next t ∧ (t.printer l.address).holds .unreachable = false ∧
      (t.printer l.address).silence = some (s.printer l.address).silenceLimit ∧
      t.grace l.address .unreachable = .idle) ∧
  (∀ (a : Nat) (s : State), s.phase ≠ .off →
    exec (.commandConfirmation a) s = .next
      (({ s with phase := .running, out := [] } : State).setCommands a ((s.commands a).drop 1))) ∧
  (∀ (a : Nat) (c : Command) (rest : List Command) (s : State), s.commands a = c :: rest →
    (turnFor s a).command = some c ∧ sentFrame s a = some (commandBytes a c) ∧
    (∀ d, rest.length < 7 → (turnFor (issue a d s) a).command = some c) ∧
    (s.phase ≠ .off →
      ∃ t, exec (.commandConfirmation a) s = .next t ∧ (turnFor t a).command = rest.head? ∧ t.ft = s.ft)) ∧
  (∀ (a : Nat) (s : State), (s.commands a = [] → (turnFor s a).command = none) ∧
    ((turnFor s a).greeting = true ↔ (s.printer a).enrolled = true ∧ (s.printer a).presence = .unknown))

/-! ### The time base -/

/-- R171, R172, R25, R70, R91, R100, R145, R149, R174: a second event with no work left over, and a minute event with no expiry
left over, issued at the 60th second or not. That the expiries a minute event leads to are steps of their own is the
model's reading (log entry 4); that a minute event is taken where the second count has issued none is its choice (log
entry 5). -/
def Obligations.TimeBaseEventsStepTheCounts : Prop :=
  (∀ s : State, Canonical s → s.phase ≠ .off → NothingDue s → (∀ n, (s.printer n).silence ≠ some 0) →
    ∃ t, exec .secondEvent s = .next t ∧
      (∀ n, t.printer n = { s.printer n with
        silence := if (s.printer n).enrolled = true then (s.printer n).silence.map (fun c => c - 1)
          else (s.printer n).silence }) ∧
      (s.tb.second + 1 < 60 → t.tb = { s.tb with second := s.tb.second + 1 } ∧ t.owed = s.owed) ∧
      (60 ≤ s.tb.second + 1 → t.tb = { s.tb with second := 0 } ∧ t.owed = { s.owed with minute := true }) ∧
      t.ports = s.ports ∧ t.au = s.au ∧ t.jt = s.jt ∧ t.ru = s.ru ∧ t.se = s.se ∧ t.su = s.su ∧ t.cu = s.cu ∧
      t.flc = s.flc ∧ t.rm = s.rm ∧ t.pending = s.pending ∧ t.out = [] ∧ t.phase = .running) ∧
  (∀ s : State, Canonical s → s.phase ≠ .off → NoExpiryDue s →
    let spent : PeriodTimer → Prop := fun m => m.count ≤ 1 ∧ (m.unit = .minutes ∨ 59 ≤ m.hourStep)
    ∃ t, exec .minuteEvent s = .next t ∧
      (s.tb.clock = none → t.tb.clock = none) ∧
      (∀ c, s.tb.clock = some c → t.tb.clock = some (
        if c.minute < 1439 then { c with minute := c.minute + 1 }
        else if c.day < 65535 then ⟨c.day + 1, 0, if 6 ≤ c.weekday then 0 else c.weekday + 1⟩ else c)) ∧
      PolicyAt t.tb.clock s.tb.schedule t.tb.active ∧ t.tb.second = s.tb.second ∧ t.tb.schedule = s.tb.schedule ∧
      (∀ n, t.session n = (s.session n).map (fun x => { x with minutes := x.minutes - 1 })) ∧
      (∀ n, t.printer n = { s.printer n with stall := (s.printer n).stall.map (fun c => c - 1) }) ∧
      (∀ n k, t.grace n k =
        (match s.grace n k with
         | .running m => if m ≤ 1 then .expiring else .running (m - 1)
         | g => g)) ∧
      (∀ n, let m := (s.tenant n).timer
        (n < 4 ∧ m.running = true ∧ s.tb.clock ≠ none ∧ ¬spent m →
          t.tenant n = { s.tenant n with timer :=
            (match m.unit with
             | .minutes => { m with count := m.count - 1 }
             | .hours => if 59 ≤ m.hourStep then { m with hourStep := 0, count := m.count - 1 }
               else { m with hourStep := m.hourStep + 1 }) }) ∧
        (¬(n < 4 ∧ m.running = true ∧ s.tb.clock ≠ none ∧ ¬spent m) → t.tenant n = s.tenant n) ∧
        (n ∈ t.owed.timerSteps ↔ n < 4 ∧ m.running = true ∧ s.tb.clock ≠ none ∧ spent m)) ∧
      (s.tb.clock = none → t.cu.callouts = s.cu.callouts) ∧
      (∀ u, t.now = some u →
        let late := min (timeMinutes u + s.cu.escalation) (65535 * 1440 + 1439)
        t.cu.callouts = s.cu.callouts.map (fun c =>
          if c.deadline = none then { c with deadline := some ⟨late / 1440, late % 1440⟩ } else c)) ∧
      (∀ k, k ∈ t.owed.escalations ↔ ∃ c ∈ t.cu.callouts, c.number = k ∧ c.acknowledged = false ∧ c.level ≤ 2 ∧
        ∃ d u, c.deadline = some d ∧ t.now = some u ∧ timeMinutes d ≤ timeMinutes u) ∧
      t.owed.jobExpiry = s.tb.clock.isSome ∧ t.owed.minute = false ∧
      t.ports = s.ports ∧ t.au.accounts = s.au.accounts ∧ t.jt = s.jt ∧ t.se = s.se ∧ t.su = s.su ∧ t.flc = s.flc ∧
      t.rm = s.rm ∧ t.out = [])

/-- R91, R160, R70: a silence count and a session's minutes that have run out. An expiry commanded whose count has not run out,
or whose timer has no step owed, changes nothing but the frames of the last event: the model's choice (log entries 3 and 4). -/
def Obligations.TimerExpiriesAct : Prop :=
  ∀ (n : Nat) (s : State), s.phase ≠ .off →
    let idle : State := { s with phase := .running, out := [] }
    ((s.printer n).silence = some 0 →
      ∃ t, exec (.silenceExpiry n) s = .next t ∧ (t.printer n).silence = none ∧
        (t.printer n).holds .unreachable = true ∧ (t.printer n).presence = (s.printer n).presence ∧
        t.commands n = [] ∧ ∀ a, a ≠ n → t.commands a = s.commands a) ∧
    ((s.printer n).silence ≠ some 0 → exec (.silenceExpiry n) s = .next idle) ∧
    ((s.printer n).stall ≠ some 0 → exec (.stallExpiry n) s = .next idle) ∧
    (n ∉ s.owed.timerSteps → exec (.periodTimerUnderflow n) s = .next idle) ∧
    ((∀ x, s.session n = some x → x.minutes ≠ 0) → exec (.sessionTimeout n) s = .next idle) ∧
    (∀ x, s.session n = some x → x.minutes = 0 → (s.commands n).length < 8 →
      exec (.sessionTimeout n) s = .next
        ((idle.setSession n none).setCommands n (s.commands n ++ [.sessionClose .timeout])))

/-- R100, R98, R99, R21, R22, R115, R116: a stall count that has run out at a printing head whose command queue has room. That it
runs out at a minute event and is taken as a step of its own is the model's reading (log entry 4), and the pages of a job
made DONE follow R50's sentence (log entry 14). -/
def Obligations.StallExpiryEndsTheHead : Prop :=
  ∀ (n : Nat) (h : Handle) (rest : List Handle) (s : State), FleetLaws s → LaneLaw s → n < 64 →
    s.phase ≠ .off → (s.printer n).stall = some 0 → (s.printer n).queue = h :: rest →
    (s.job h.index).state ∈ [.active, .cancelling] → (s.commands n).length ≤ 6 →
    let j := s.job h.index
    ∃ t mid, exec (.stallExpiry n) s = .next t ∧ t.commands n = s.commands n ++ .abort (j.grant.getD 0) :: mid ∧
      (t.printer n).stalled = some ⟨j.grant.getD 0, j.owner, j.kClass, j.colourClass, pagesPrinted j⟩ ∧
      (t.printer n).queue = rest ∧
      ChargedTo (s.account j.owner) (t.account j.owner) (pagesPrinted j) (j.reservation.getD ⟨0, 0⟩) ∧
      LanesDeducted s t n (pagesPrinted j) j.kClass j.colourClass ∧
      (j.state = .cancelling → EndedCancelled j (t.job h.index)) ∧
      (j.state = .active → EndedShort j (t.job h.index))

/-- R26, R30, R31, R49, R50, R145, R149: the underflow of a period timer, the expiry of jobs, a grace record and a callout's
escalation, each where a minute event has left it owed. The work owed and a grace record that is expiring are the model's
own (log entry 4). -/
def Obligations.MinuteWorkIsTaken : Prop :=
  (∀ (n : Nat) (s : State), Canonical s → s.phase ≠ .off → n ∈ s.owed.timerSteps → (s.tenant n).timer.running = true →
    s.tb.clock ≠ none → (s.tenant n).timer.count ≤ 1 →
    ((s.tenant n).timer.unit = .minutes ∨ 59 ≤ (s.tenant n).timer.hourStep) →
    ∃ t, exec (.periodTimerUnderflow n) s = .next t ∧
      t.tenant n = { s.tenant n with
        used := ⟨0, 0⟩
        period := if (s.tenant n).period = 65535 then 0 else ((s.tenant n).period + 1) % 65536
        timer := { (s.tenant n).timer with count := (s.tenant n).timer.length, hourStep := 0 } } ∧
      (∀ i, t.account i =
        (if (s.tenant n).owns i = true ∧ (s.account i).state ≠ .free then
          { s.account i with
            closingUsed := ⟨some (s.account i).used.mono, some (s.account i).used.colour⟩
            closingBalance := ⟨some (s.account i).balance.mono, some (s.account i).balance.colour⟩
            balance := ⟨refilled (s.account i).balance.mono (s.account i).allowance.mono (s.account i).carryCap.mono,
              refilled (s.account i).balance.colour (s.account i).allowance.colour (s.account i).carryCap.colour⟩
            used := ⟨0, 0⟩
            overrun := false }
         else s.account i)) ∧
      n ∉ t.owed.timerSteps ∧ hasNotice (t.port (PortName.ofTenant n)).flags .period = true) ∧
  (∀ (u : Time) (s : State), Canonical s → s.phase ≠ .off → s.owed.jobExpiry = true → s.now = some u →
    ∃ t, exec .jobExpiry s = .next t ∧ t.owed.jobExpiry = false ∧
      ∀ i, let j := s.job i
        (j.state = .held ∧ timeMinutes j.expiry ≤ timeMinutes u →
          t.job i = { j with
            state := .expired, endReason := some .expired, finished := some u, reservation := none, needs := none } ∧
          hasNotice (t.port (PortName.ofTenant j.tenant)).flags .finished = true) ∧
        (¬(j.state = .held ∧ timeMinutes j.expiry ≤ timeMinutes u) → t.job i = j)) ∧
  (∀ (n : Nat) (k : ConditionKind) (s : State), Canonical s → s.phase ≠ .off → k ≠ .supplyOut →
    s.grace n k = .expiring →
    (∀ (m : Nat) (x : ConditionKind), 8 * m + x.code < 8 * n + k.code → s.grace m x ≠ .expiring) →
    ∃ t, exec .graceExpiry s = .next t ∧ t.grace n k = .spent ∧
      ((s.printer n).admin = .outOfService → t.cu.callouts = s.cu.callouts) ∧
      ((s.printer n).admin ≠ .outOfService → InService t n k)) ∧
  (∀ (c : Callout) (rest : List Nat) (d u : Time) (s : State), CalloutLaw s → s.phase ≠ .off → c ∈ s.cu.callouts →
    s.owed.escalations = c.number :: rest → c.acknowledged = false → c.level ≤ 2 → c.deadline = some d →
    s.now = some u → timeMinutes d ≤ timeMinutes u →
    let late := min (timeMinutes u + s.cu.escalation) (65535 * 1440 + 1439)
    exec .calloutEscalation s = .next (raise .f .callout { s with
      phase := .running
      out := []
      owed := { s.owed with escalations := rest }
      cu := { s.cu with callouts := s.cu.callouts.map (fun x =>
        if x = c then { c with level := c.level + 1, deadline := some ⟨late / 1440, late % 1440⟩ } else x) } }))
end

