-- ==== Sys2Proof/Laws/Tables.lean ====
section
/-! SUPPORT. Laws of the tables: what a read gives after a write or a change of every record, and that every operation keeps
the canonical form (rising numbers, no record equal to the unlisted one). -/

namespace Sys2Proof.Machine

variable {α : Type}

/-- Numbers listed after `lo`, rising strictly. -/
def Table.above (lo : Nat) : Table α → Prop
  | [] => True
  | (k, _) :: t => lo < k ∧ Table.above k t

/-- The canonical form as a proposition: numbers rise, and every record listed differs from the unlisted one. -/
def Table.Sound (d : α) : Table α → Prop
  | [] => True
  | (k, v) :: t => v ≠ d ∧ Table.above k t ∧ Table.Sound d t

theorem Table.wf_iff_sound [DecidableEq α] (d : α) (t : Table α) : Table.wf d t = true ↔ Table.Sound d t := by
  induction t with
  | nil => simp [Table.wf, Table.Sound]
  | cons e t ih =>
    obtain ⟨k, v⟩ := e
    cases t with
    | nil => simp [Table.wf, Table.Sound, Table.above]
    | cons e' t' =>
      obtain ⟨k', v'⟩ := e'
      have : Table.wf d ((k', v') :: t') = true ↔ Table.Sound d ((k', v') :: t') := ih
      simp only [Table.wf, Bool.and_eq_true, decide_eq_true_eq, this]
      simp only [Table.Sound, Table.above]
      tauto

theorem Table.above_mono {lo lo' : Nat} (h : lo' ≤ lo) (t : Table α) (a : Table.above lo t) : Table.above lo' t := by
  cases t with
  | nil => trivial
  | cons e t => exact ⟨by have := a.1; omega, a.2⟩

theorem Table.above_filter (p : Nat × α → Bool) :
    ∀ (lo : Nat) (t : Table α), Table.above lo t → Table.above lo (t.filter p)
  | _, [], _ => trivial
  | lo, (k, v) :: t, h => by
    have rest := Table.above_filter p k t h.2
    simp only [List.filter_cons]
    split
    · exact ⟨h.1, rest⟩
    · exact Table.above_mono (le_of_lt h.1) _ rest

theorem Table.sound_filter (d : α) (p : Nat × α → Bool) :
    ∀ t : Table α, Table.Sound d t → Table.Sound d (t.filter p)
  | [], _ => trivial
  | (k, v) :: t, h => by
    simp only [List.filter_cons]
    split
    · exact ⟨h.1, Table.above_filter p k t h.2.1, Table.sound_filter d p t h.2.2⟩
    · exact Table.sound_filter d p t h.2.2

theorem Table.above_insert (lo k : Nat) (v : α) :
    ∀ t : Table α, Table.above lo t → lo < k → Table.above lo (Table.insert t k v)
  | [], _, hk => ⟨hk, trivial⟩
  | (k', v') :: t, h, hk => by
    unfold Table.insert
    split
    · exact ⟨hk, by assumption, h.2⟩
    · split
      · next e => subst e; exact h
      · exact ⟨h.1, Table.above_insert k' k v t h.2 (by omega)⟩

theorem Table.sound_insert (d : α) (k : Nat) (v : α) (hv : v ≠ d) :
    ∀ t : Table α, Table.Sound d t → Table.Sound d (Table.insert t k v)
  | [], _ => ⟨hv, trivial, trivial⟩
  | (k', v') :: t, h => by
    unfold Table.insert
    split
    · next hk => exact ⟨hv, ⟨hk, h.2.1⟩, h⟩
    · split
      · next e => subst e; exact ⟨hv, h.2.1, h.2.2⟩
      · exact ⟨h.1, Table.above_insert k' k v t h.2.1 (by omega), Table.sound_insert d k v hv t h.2.2⟩

/-- A write keeps the canonical form. -/
theorem Table.wf_set [DecidableEq α] (d : α) (t : Table α) (k : Nat) (v : α) (h : Table.wf d t = true) :
    Table.wf d (Table.set d t k v) = true := by
  rw [Table.wf_iff_sound] at h ⊢
  unfold Table.set
  split
  · exact Table.sound_filter d _ t h
  · next hv => exact Table.sound_insert d k v hv t h

theorem Table.above_mapAll [DecidableEq α] (d : α) (f : Nat → α → α) :
    ∀ (lo : Nat) (t : Table α), Table.above lo t → Table.above lo (Table.mapAll d f t)
  | _, [], _ => trivial
  | lo, (k, v) :: t, h => by
    have rest := Table.above_mapAll d f k t h.2
    unfold Table.mapAll at *
    simp only [List.map_cons, List.filter_cons]
    split
    · exact ⟨h.1, rest⟩
    · exact Table.above_mono (le_of_lt h.1) _ rest

theorem Table.sound_mapAll [DecidableEq α] (d : α) (f : Nat → α → α) :
    ∀ t : Table α, Table.Sound d t → Table.Sound d (Table.mapAll d f t)
  | [], _ => trivial
  | (k, v) :: t, h => by
    have rest := Table.sound_mapAll d f t h.2.2
    have ab := Table.above_mapAll d f k t h.2.1
    unfold Table.mapAll at *
    simp only [List.map_cons, List.filter_cons]
    split
    · next hv => exact ⟨by simpa using hv, ab, rest⟩
    · exact rest

/-- A change of every record keeps the canonical form. -/
theorem Table.wf_mapAll [DecidableEq α] (d : α) (f : Nat → α → α) (t : Table α) (h : Table.wf d t = true) :
    Table.wf d (Table.mapAll d f t) = true := by
  rw [Table.wf_iff_sound] at h ⊢
  exact Table.sound_mapAll d f t h

theorem Table.get_cons_same (d : α) (k : Nat) (v : α) (t : Table α) : Table.get d ((k, v) :: t) k = v := by
  simp [Table.get]

theorem Table.get_cons_other (d : α) (k k' : Nat) (v : α) (t : Table α) (h : k ≠ k') :
    Table.get d ((k', v) :: t) k = Table.get d t k := by simp [Table.get, h]

theorem Table.get_filter_same (d : α) (k : Nat) :
    ∀ t : Table α, Table.get d (t.filter (fun e => e.1 ≠ k)) k = d
  | [] => rfl
  | (k', v) :: t => by
    have ih := Table.get_filter_same d k t
    simp only [List.filter_cons]
    split
    · next h =>
      rw [Table.get_cons_other d k k' v _ (by intro e; subst e; simp at h)]
      exact ih
    · exact ih

theorem Table.get_filter_other (d : α) (k j : Nat) (h : j ≠ k) :
    ∀ t : Table α, Table.get d (t.filter (fun e => e.1 ≠ k)) j = Table.get d t j
  | [] => rfl
  | (k', v) :: t => by
    have ih := Table.get_filter_other d k j h t
    simp only [List.filter_cons]
    split
    · by_cases hj : j = k'
      · subst hj; rw [Table.get_cons_same, Table.get_cons_same]
      · rw [Table.get_cons_other d j k' v _ hj, Table.get_cons_other d j k' v _ hj]
        exact ih
    · next hk =>
      have hk : k' = k := by simpa using hk
      rw [Table.get_cons_other d j k' v _ (by omega)]
      exact ih

theorem Table.get_insert (d : α) (k j : Nat) (v : α) :
    ∀ t : Table α, Table.get d (Table.insert t k v) j = if j = k then v else Table.get d t j
  | [] => by simp [Table.insert, Table.get]
  | (k', v') :: t => by
    unfold Table.insert
    split
    · simp [Table.get]
    · split
      · next e => subst e; by_cases hj : j = k <;> simp [Table.get, hj]
      · next h1 h2 =>
        have ih := Table.get_insert d k j v t
        by_cases hj : j = k'
        · have : ¬j = k := by omega
          simp [Table.get, hj, show ¬k' = k by omega]
        · simp [Table.get, hj, ih]

/-- A read after a write: the written record at its number, the old ones elsewhere. -/
theorem Table.get_set [DecidableEq α] (d : α) (t : Table α) (k j : Nat) (v : α) :
    Table.get d (Table.set d t k v) j = if j = k then v else Table.get d t j := by
  unfold Table.set
  split
  · next hv =>
    by_cases hj : j = k
    · subst hj; rw [if_pos rfl, Table.get_filter_same, hv]
    · rw [if_neg hj]; exact Table.get_filter_other d k j hj t
  · exact Table.get_insert d k j v t

@[simp] theorem Table.get_set_same [DecidableEq α] (d : α) (t : Table α) (k : Nat) (v : α) :
    Table.get d (Table.set d t k v) k = v := by simp [Table.get_set]

theorem Table.get_set_other [DecidableEq α] (d : α) (t : Table α) (k j : Nat) (v : α) (h : j ≠ k) :
    Table.get d (Table.set d t k v) j = Table.get d t j := by simp [Table.get_set, h]

theorem Table.get_of_above (d : α) : ∀ (lo k : Nat) (t : Table α), Table.above lo t → k ≤ lo → Table.get d t k = d
  | _, _, [], _, _ => rfl
  | lo, k, (k', v) :: t, h, hk => by
    have h1 : lo < k' := h.1
    have : ¬k = k' := by omega
    simp [Table.get, this, Table.get_of_above d k' k t h.2 (by omega)]

/-- A read after a change of every record, in a table of the canonical form. -/
theorem Table.get_mapAll [DecidableEq α] (d : α) (f : Nat → α → α) (k : Nat) (hd : f k d = d) :
    ∀ t : Table α, Table.Sound d t → Table.get d (Table.mapAll d f t) k = f k (Table.get d t k)
  | [], _ => by simp [Table.mapAll, Table.get, hd]
  | (k', v) :: t, h => by
    have ih := Table.get_mapAll d f k hd t h.2.2
    unfold Table.mapAll at *
    simp only [List.map_cons, List.filter_cons]
    by_cases hk : k = k'
    · subst hk
      have gone := Table.get_of_above d k k t h.2.1 (le_refl k)
      rw [Table.get_cons_same]
      split
      · rw [Table.get_cons_same]
      · next hv =>
        have hv : f k v = d := by simpa using hv
        rw [gone, hd] at ih
        rw [hv]; exact ih
    · rw [Table.get_cons_other d k k' v t hk]
      split
      · rw [Table.get_cons_other d k k' _ _ hk]; exact ih
      · exact ih

theorem Table.lt_of_mem_above (k : Nat) (v : α) :
    ∀ (lo : Nat) (t : Table α), Table.above lo t → (k, v) ∈ t → lo < k
  | _, [], _, hm => by simp at hm
  | lo, (k', v') :: t, h, hm => by
    rcases List.mem_cons.1 hm with e | hm'
    · cases e; exact h.1
    · exact lt_trans h.1 (Table.lt_of_mem_above k v k' t h.2 hm')

/-- A record listed is the record read, in a table of the canonical form. -/
theorem Table.get_of_mem (d : α) (k : Nat) (v : α) :
    ∀ t : Table α, Table.Sound d t → (k, v) ∈ t → Table.get d t k = v
  | [], _, hm => by simp at hm
  | (k', v') :: t, h, hm => by
    rcases List.mem_cons.1 hm with e | hm'
    · cases e; exact Table.get_cons_same d k v t
    · have := Table.lt_of_mem_above k v k' t h.2.1 hm'
      rw [Table.get_cons_other d k k' v' t (by omega)]
      exact Table.get_of_mem d k v t h.2.2 hm'

/-- What holds of the unlisted record at every number that is not listed, and of every listed record, holds of every read. -/
theorem Table.forall_get (P : Nat → α → Prop) (d : α) :
    ∀ t : Table α, (∀ k, k ∉ t.map Prod.fst → P k d) → (∀ e ∈ t, P e.1 e.2) → ∀ k, P k (Table.get d t k)
  | [], hd, _, k => hd k (by simp)
  | (k', v) :: t, hd, ht, k => by
    by_cases e : k = k'
    · subst e; rw [Table.get_cons_same]; exact ht (k, v) (by simp)
    · rw [Table.get_cons_other d k k' v t e]
      refine Table.forall_get (fun k' v => k' = k → P k' v) d t ?_ ?_ k rfl
      · intro j hj ej; subst ej; exact hd j (by simp [e, hj])
      · intro x hx _; exact ht x (by simp [hx])

/-- Ports: a read after a write, and two writes in a row. -/
theorem Ports.get_set (ps : Ports) (p q : PortName) (r : Port) :
    (ps.set p r).get q = if q = p then r else ps.get q := by cases p <;> cases q <;> rfl

@[simp] theorem Ports.get_set_same (ps : Ports) (p : PortName) (r : Port) : (ps.set p r).get p = r := by
  cases p <;> rfl

@[simp] theorem Ports.set_set (ps : Ports) (p : PortName) (r r' : Port) : (ps.set p r).set p r' = ps.set p r' := by
  cases p <;> rfl

@[simp] theorem Ports.set_get (ps : Ports) (p : PortName) : ps.set p (ps.get p) = ps := by cases p <;> rfl

end Sys2Proof.Machine
end

