-- ==== Sys2Proof/Laws/State.lean ====
section
/-! SUPPORT. What each update of the state leaves as it was, field by field and record by record, and what a read gives
after a write of the same kind of record. Every lemma is a rewriting rule, so that no proof unfolds a record update. -/

namespace Sys2Proof.Machine.State

variable (s : State)

/-- What `setPort` leaves as it was. -/
@[simp] theorem setPort_frame (p₀ : PortName) (v : Port) :
    (s.setPort p₀ v).au = s.au ∧
    (s.setPort p₀ v).jt = s.jt ∧
    (s.setPort p₀ v).ru = s.ru ∧
    (s.setPort p₀ v).ft = s.ft ∧
    (s.setPort p₀ v).se = s.se ∧
    (s.setPort p₀ v).su = s.su ∧
    (s.setPort p₀ v).cu = s.cu ∧
    (s.setPort p₀ v).flc = s.flc ∧
    (s.setPort p₀ v).tb = s.tb ∧
    (s.setPort p₀ v).rm = s.rm ∧
    (s.setPort p₀ v).phase = s.phase ∧
    (s.setPort p₀ v).owed = s.owed ∧
    (s.setPort p₀ v).out = s.out ∧
    (s.setPort p₀ v).pending = s.pending ∧
    (∀ (i : Nat), (s.setPort p₀ v).account i = s.account i) ∧
    (∀ (n : Nat), (s.setPort p₀ v).tenant n = s.tenant n) ∧
    (∀ (i : Nat), (s.setPort p₀ v).job i = s.job i) ∧
    (∀ (n : Nat), (s.setPort p₀ v).finishedList n = s.finishedList n) ∧
    (∀ (n : Nat), (s.setPort p₀ v).session n = s.session n) ∧
    (∀ (n : Nat), (s.setPort p₀ v).printer n = s.printer n) ∧
    (∀ (n : Nat) (l : Lane), (s.setPort p₀ v).lane n l = s.lane n l) ∧
    (∀ (t : Nat), (s.setPort p₀ v).ctype t = s.ctype t) ∧
    (∀ (n : Nat) (k : ConditionKind), (s.setPort p₀ v).grace n k = s.grace n k) ∧
    (∀ (n : Nat), (s.setPort p₀ v).history n = s.history n) ∧
    (∀ (a : Nat), (s.setPort p₀ v).commands a = s.commands a) ∧
    (∀ (a : Nat), (s.setPort p₀ v).stray a = s.stray a) ∧
    ((s.setPort p₀ v).now = s.now) :=
  ⟨rfl, rfl, rfl, rfl, rfl, rfl, rfl, rfl, rfl, rfl, rfl, rfl, rfl, rfl, fun _ => rfl, fun _ => rfl, fun _ => rfl, fun _ => rfl, fun _ => rfl, fun _ => rfl, fun _ _ => rfl, fun _ => rfl, fun _ _ => rfl, fun _ => rfl, fun _ => rfl, fun _ => rfl, rfl⟩

/-- What `setAccount` leaves as it was. -/
@[simp] theorem setAccount_frame (i₀ : Nat) (v : Account) :
    (s.setAccount i₀ v).ports = s.ports ∧
    (s.setAccount i₀ v).jt = s.jt ∧
    (s.setAccount i₀ v).ru = s.ru ∧
    (s.setAccount i₀ v).ft = s.ft ∧
    (s.setAccount i₀ v).se = s.se ∧
    (s.setAccount i₀ v).su = s.su ∧
    (s.setAccount i₀ v).cu = s.cu ∧
    (s.setAccount i₀ v).flc = s.flc ∧
    (s.setAccount i₀ v).tb = s.tb ∧
    (s.setAccount i₀ v).rm = s.rm ∧
    (s.setAccount i₀ v).phase = s.phase ∧
    (s.setAccount i₀ v).owed = s.owed ∧
    (s.setAccount i₀ v).out = s.out ∧
    (s.setAccount i₀ v).pending = s.pending ∧
    (∀ (p : PortName), (s.setAccount i₀ v).port p = s.port p) ∧
    (∀ (n : Nat), (s.setAccount i₀ v).tenant n = s.tenant n) ∧
    (∀ (i : Nat), (s.setAccount i₀ v).job i = s.job i) ∧
    (∀ (n : Nat), (s.setAccount i₀ v).finishedList n = s.finishedList n) ∧
    (∀ (n : Nat), (s.setAccount i₀ v).session n = s.session n) ∧
    (∀ (n : Nat), (s.setAccount i₀ v).printer n = s.printer n) ∧
    (∀ (n : Nat) (l : Lane), (s.setAccount i₀ v).lane n l = s.lane n l) ∧
    (∀ (t : Nat), (s.setAccount i₀ v).ctype t = s.ctype t) ∧
    (∀ (n : Nat) (k : ConditionKind), (s.setAccount i₀ v).grace n k = s.grace n k) ∧
    (∀ (n : Nat), (s.setAccount i₀ v).history n = s.history n) ∧
    (∀ (a : Nat), (s.setAccount i₀ v).commands a = s.commands a) ∧
    (∀ (a : Nat), (s.setAccount i₀ v).stray a = s.stray a) ∧
    ((s.setAccount i₀ v).now = s.now) :=
  ⟨rfl, rfl, rfl, rfl, rfl, rfl, rfl, rfl, rfl, rfl, rfl, rfl, rfl, rfl, fun _ => rfl, fun _ => rfl, fun _ => rfl, fun _ => rfl, fun _ => rfl, fun _ => rfl, fun _ _ => rfl, fun _ => rfl, fun _ _ => rfl, fun _ => rfl, fun _ => rfl, fun _ => rfl, rfl⟩

/-- What `setTenant` leaves as it was. -/
@[simp] theorem setTenant_frame (n₀ : Nat) (v : Tenant) :
    (s.setTenant n₀ v).ports = s.ports ∧
    (s.setTenant n₀ v).jt = s.jt ∧
    (s.setTenant n₀ v).ru = s.ru ∧
    (s.setTenant n₀ v).ft = s.ft ∧
    (s.setTenant n₀ v).se = s.se ∧
    (s.setTenant n₀ v).su = s.su ∧
    (s.setTenant n₀ v).cu = s.cu ∧
    (s.setTenant n₀ v).flc = s.flc ∧
    (s.setTenant n₀ v).tb = s.tb ∧
    (s.setTenant n₀ v).rm = s.rm ∧
    (s.setTenant n₀ v).phase = s.phase ∧
    (s.setTenant n₀ v).owed = s.owed ∧
    (s.setTenant n₀ v).out = s.out ∧
    (s.setTenant n₀ v).pending = s.pending ∧
    (∀ (p : PortName), (s.setTenant n₀ v).port p = s.port p) ∧
    (∀ (i : Nat), (s.setTenant n₀ v).account i = s.account i) ∧
    (∀ (i : Nat), (s.setTenant n₀ v).job i = s.job i) ∧
    (∀ (n : Nat), (s.setTenant n₀ v).finishedList n = s.finishedList n) ∧
    (∀ (n : Nat), (s.setTenant n₀ v).session n = s.session n) ∧
    (∀ (n : Nat), (s.setTenant n₀ v).printer n = s.printer n) ∧
    (∀ (n : Nat) (l : Lane), (s.setTenant n₀ v).lane n l = s.lane n l) ∧
    (∀ (t : Nat), (s.setTenant n₀ v).ctype t = s.ctype t) ∧
    (∀ (n : Nat) (k : ConditionKind), (s.setTenant n₀ v).grace n k = s.grace n k) ∧
    (∀ (n : Nat), (s.setTenant n₀ v).history n = s.history n) ∧
    (∀ (a : Nat), (s.setTenant n₀ v).commands a = s.commands a) ∧
    (∀ (a : Nat), (s.setTenant n₀ v).stray a = s.stray a) ∧
    ((s.setTenant n₀ v).now = s.now) :=
  ⟨rfl, rfl, rfl, rfl, rfl, rfl, rfl, rfl, rfl, rfl, rfl, rfl, rfl, rfl, fun _ => rfl, fun _ => rfl, fun _ => rfl, fun _ => rfl, fun _ => rfl, fun _ => rfl, fun _ _ => rfl, fun _ => rfl, fun _ _ => rfl, fun _ => rfl, fun _ => rfl, fun _ => rfl, rfl⟩

/-- What `setJob` leaves as it was. -/
@[simp] theorem setJob_frame (i₀ : Nat) (v : Job) :
    (s.setJob i₀ v).ports = s.ports ∧
    (s.setJob i₀ v).au = s.au ∧
    (s.setJob i₀ v).ru = s.ru ∧
    (s.setJob i₀ v).ft = s.ft ∧
    (s.setJob i₀ v).se = s.se ∧
    (s.setJob i₀ v).su = s.su ∧
    (s.setJob i₀ v).cu = s.cu ∧
    (s.setJob i₀ v).flc = s.flc ∧
    (s.setJob i₀ v).tb = s.tb ∧
    (s.setJob i₀ v).rm = s.rm ∧
    (s.setJob i₀ v).phase = s.phase ∧
    (s.setJob i₀ v).owed = s.owed ∧
    (s.setJob i₀ v).out = s.out ∧
    (s.setJob i₀ v).pending = s.pending ∧
    (∀ (p : PortName), (s.setJob i₀ v).port p = s.port p) ∧
    (∀ (i : Nat), (s.setJob i₀ v).account i = s.account i) ∧
    (∀ (n : Nat), (s.setJob i₀ v).tenant n = s.tenant n) ∧
    (∀ (n : Nat), (s.setJob i₀ v).finishedList n = s.finishedList n) ∧
    (∀ (n : Nat), (s.setJob i₀ v).session n = s.session n) ∧
    (∀ (n : Nat), (s.setJob i₀ v).printer n = s.printer n) ∧
    (∀ (n : Nat) (l : Lane), (s.setJob i₀ v).lane n l = s.lane n l) ∧
    (∀ (t : Nat), (s.setJob i₀ v).ctype t = s.ctype t) ∧
    (∀ (n : Nat) (k : ConditionKind), (s.setJob i₀ v).grace n k = s.grace n k) ∧
    (∀ (n : Nat), (s.setJob i₀ v).history n = s.history n) ∧
    (∀ (a : Nat), (s.setJob i₀ v).commands a = s.commands a) ∧
    (∀ (a : Nat), (s.setJob i₀ v).stray a = s.stray a) ∧
    ((s.setJob i₀ v).now = s.now) :=
  ⟨rfl, rfl, rfl, rfl, rfl, rfl, rfl, rfl, rfl, rfl, rfl, rfl, rfl, rfl, fun _ => rfl, fun _ => rfl, fun _ => rfl, fun _ => rfl, fun _ => rfl, fun _ => rfl, fun _ _ => rfl, fun _ => rfl, fun _ _ => rfl, fun _ => rfl, fun _ => rfl, fun _ => rfl, rfl⟩

/-- What `setFinishedList` leaves as it was. -/
@[simp] theorem setFinishedList_frame (n₀ : Nat) (v : List Handle) :
    (s.setFinishedList n₀ v).ports = s.ports ∧
    (s.setFinishedList n₀ v).au = s.au ∧
    (s.setFinishedList n₀ v).ru = s.ru ∧
    (s.setFinishedList n₀ v).ft = s.ft ∧
    (s.setFinishedList n₀ v).se = s.se ∧
    (s.setFinishedList n₀ v).su = s.su ∧
    (s.setFinishedList n₀ v).cu = s.cu ∧
    (s.setFinishedList n₀ v).flc = s.flc ∧
    (s.setFinishedList n₀ v).tb = s.tb ∧
    (s.setFinishedList n₀ v).rm = s.rm ∧
    (s.setFinishedList n₀ v).phase = s.phase ∧
    (s.setFinishedList n₀ v).owed = s.owed ∧
    (s.setFinishedList n₀ v).out = s.out ∧
    (s.setFinishedList n₀ v).pending = s.pending ∧
    (∀ (p : PortName), (s.setFinishedList n₀ v).port p = s.port p) ∧
    (∀ (i : Nat), (s.setFinishedList n₀ v).account i = s.account i) ∧
    (∀ (n : Nat), (s.setFinishedList n₀ v).tenant n = s.tenant n) ∧
    (∀ (i : Nat), (s.setFinishedList n₀ v).job i = s.job i) ∧
    (∀ (n : Nat), (s.setFinishedList n₀ v).session n = s.session n) ∧
    (∀ (n : Nat), (s.setFinishedList n₀ v).printer n = s.printer n) ∧
    (∀ (n : Nat) (l : Lane), (s.setFinishedList n₀ v).lane n l = s.lane n l) ∧
    (∀ (t : Nat), (s.setFinishedList n₀ v).ctype t = s.ctype t) ∧
    (∀ (n : Nat) (k : ConditionKind), (s.setFinishedList n₀ v).grace n k = s.grace n k) ∧
    (∀ (n : Nat), (s.setFinishedList n₀ v).history n = s.history n) ∧
    (∀ (a : Nat), (s.setFinishedList n₀ v).commands a = s.commands a) ∧
    (∀ (a : Nat), (s.setFinishedList n₀ v).stray a = s.stray a) ∧
    ((s.setFinishedList n₀ v).now = s.now) :=
  ⟨rfl, rfl, rfl, rfl, rfl, rfl, rfl, rfl, rfl, rfl, rfl, rfl, rfl, rfl, fun _ => rfl, fun _ => rfl, fun _ => rfl, fun _ => rfl, fun _ => rfl, fun _ => rfl, fun _ _ => rfl, fun _ => rfl, fun _ _ => rfl, fun _ => rfl, fun _ => rfl, fun _ => rfl, rfl⟩

/-- What `setSession` leaves as it was. -/
@[simp] theorem setSession_frame (n₀ : Nat) (v : Option Session) :
    (s.setSession n₀ v).ports = s.ports ∧
    (s.setSession n₀ v).au = s.au ∧
    (s.setSession n₀ v).jt = s.jt ∧
    (s.setSession n₀ v).ft = s.ft ∧
    (s.setSession n₀ v).se = s.se ∧
    (s.setSession n₀ v).su = s.su ∧
    (s.setSession n₀ v).cu = s.cu ∧
    (s.setSession n₀ v).flc = s.flc ∧
    (s.setSession n₀ v).tb = s.tb ∧
    (s.setSession n₀ v).rm = s.rm ∧
    (s.setSession n₀ v).phase = s.phase ∧
    (s.setSession n₀ v).owed = s.owed ∧
    (s.setSession n₀ v).out = s.out ∧
    (s.setSession n₀ v).pending = s.pending ∧
    (∀ (p : PortName), (s.setSession n₀ v).port p = s.port p) ∧
    (∀ (i : Nat), (s.setSession n₀ v).account i = s.account i) ∧
    (∀ (n : Nat), (s.setSession n₀ v).tenant n = s.tenant n) ∧
    (∀ (i : Nat), (s.setSession n₀ v).job i = s.job i) ∧
    (∀ (n : Nat), (s.setSession n₀ v).finishedList n = s.finishedList n) ∧
    (∀ (n : Nat), (s.setSession n₀ v).printer n = s.printer n) ∧
    (∀ (n : Nat) (l : Lane), (s.setSession n₀ v).lane n l = s.lane n l) ∧
    (∀ (t : Nat), (s.setSession n₀ v).ctype t = s.ctype t) ∧
    (∀ (n : Nat) (k : ConditionKind), (s.setSession n₀ v).grace n k = s.grace n k) ∧
    (∀ (n : Nat), (s.setSession n₀ v).history n = s.history n) ∧
    (∀ (a : Nat), (s.setSession n₀ v).commands a = s.commands a) ∧
    (∀ (a : Nat), (s.setSession n₀ v).stray a = s.stray a) ∧
    ((s.setSession n₀ v).now = s.now) :=
  ⟨rfl, rfl, rfl, rfl, rfl, rfl, rfl, rfl, rfl, rfl, rfl, rfl, rfl, rfl, fun _ => rfl, fun _ => rfl, fun _ => rfl, fun _ => rfl, fun _ => rfl, fun _ => rfl, fun _ _ => rfl, fun _ => rfl, fun _ _ => rfl, fun _ => rfl, fun _ => rfl, fun _ => rfl, rfl⟩

/-- What `setPrinter` leaves as it was. -/
@[simp] theorem setPrinter_frame (n₀ : Nat) (v : Printer) :
    (s.setPrinter n₀ v).ports = s.ports ∧
    (s.setPrinter n₀ v).au = s.au ∧
    (s.setPrinter n₀ v).jt = s.jt ∧
    (s.setPrinter n₀ v).ru = s.ru ∧
    (s.setPrinter n₀ v).se = s.se ∧
    (s.setPrinter n₀ v).su = s.su ∧
    (s.setPrinter n₀ v).cu = s.cu ∧
    (s.setPrinter n₀ v).flc = s.flc ∧
    (s.setPrinter n₀ v).tb = s.tb ∧
    (s.setPrinter n₀ v).rm = s.rm ∧
    (s.setPrinter n₀ v).phase = s.phase ∧
    (s.setPrinter n₀ v).owed = s.owed ∧
    (s.setPrinter n₀ v).out = s.out ∧
    (s.setPrinter n₀ v).pending = s.pending ∧
    (∀ (p : PortName), (s.setPrinter n₀ v).port p = s.port p) ∧
    (∀ (i : Nat), (s.setPrinter n₀ v).account i = s.account i) ∧
    (∀ (n : Nat), (s.setPrinter n₀ v).tenant n = s.tenant n) ∧
    (∀ (i : Nat), (s.setPrinter n₀ v).job i = s.job i) ∧
    (∀ (n : Nat), (s.setPrinter n₀ v).finishedList n = s.finishedList n) ∧
    (∀ (n : Nat), (s.setPrinter n₀ v).session n = s.session n) ∧
    (∀ (n : Nat) (l : Lane), (s.setPrinter n₀ v).lane n l = s.lane n l) ∧
    (∀ (t : Nat), (s.setPrinter n₀ v).ctype t = s.ctype t) ∧
    (∀ (n : Nat) (k : ConditionKind), (s.setPrinter n₀ v).grace n k = s.grace n k) ∧
    (∀ (n : Nat), (s.setPrinter n₀ v).history n = s.history n) ∧
    (∀ (a : Nat), (s.setPrinter n₀ v).commands a = s.commands a) ∧
    (∀ (a : Nat), (s.setPrinter n₀ v).stray a = s.stray a) ∧
    ((s.setPrinter n₀ v).now = s.now) :=
  ⟨rfl, rfl, rfl, rfl, rfl, rfl, rfl, rfl, rfl, rfl, rfl, rfl, rfl, rfl, fun _ => rfl, fun _ => rfl, fun _ => rfl, fun _ => rfl, fun _ => rfl, fun _ => rfl, fun _ _ => rfl, fun _ => rfl, fun _ _ => rfl, fun _ => rfl, fun _ => rfl, fun _ => rfl, rfl⟩

/-- What `setLane` leaves as it was. -/
@[simp] theorem setLane_frame (n₀ : Nat) (l₀ : Lane) (v : Option LaneRecord) :
    (s.setLane n₀ l₀ v).ports = s.ports ∧
    (s.setLane n₀ l₀ v).au = s.au ∧
    (s.setLane n₀ l₀ v).jt = s.jt ∧
    (s.setLane n₀ l₀ v).ru = s.ru ∧
    (s.setLane n₀ l₀ v).ft = s.ft ∧
    (s.setLane n₀ l₀ v).su = s.su ∧
    (s.setLane n₀ l₀ v).cu = s.cu ∧
    (s.setLane n₀ l₀ v).flc = s.flc ∧
    (s.setLane n₀ l₀ v).tb = s.tb ∧
    (s.setLane n₀ l₀ v).rm = s.rm ∧
    (s.setLane n₀ l₀ v).phase = s.phase ∧
    (s.setLane n₀ l₀ v).owed = s.owed ∧
    (s.setLane n₀ l₀ v).out = s.out ∧
    (s.setLane n₀ l₀ v).pending = s.pending ∧
    (∀ (p : PortName), (s.setLane n₀ l₀ v).port p = s.port p) ∧
    (∀ (i : Nat), (s.setLane n₀ l₀ v).account i = s.account i) ∧
    (∀ (n : Nat), (s.setLane n₀ l₀ v).tenant n = s.tenant n) ∧
    (∀ (i : Nat), (s.setLane n₀ l₀ v).job i = s.job i) ∧
    (∀ (n : Nat), (s.setLane n₀ l₀ v).finishedList n = s.finishedList n) ∧
    (∀ (n : Nat), (s.setLane n₀ l₀ v).session n = s.session n) ∧
    (∀ (n : Nat), (s.setLane n₀ l₀ v).printer n = s.printer n) ∧
    (∀ (t : Nat), (s.setLane n₀ l₀ v).ctype t = s.ctype t) ∧
    (∀ (n : Nat) (k : ConditionKind), (s.setLane n₀ l₀ v).grace n k = s.grace n k) ∧
    (∀ (n : Nat), (s.setLane n₀ l₀ v).history n = s.history n) ∧
    (∀ (a : Nat), (s.setLane n₀ l₀ v).commands a = s.commands a) ∧
    (∀ (a : Nat), (s.setLane n₀ l₀ v).stray a = s.stray a) ∧
    ((s.setLane n₀ l₀ v).now = s.now) :=
  ⟨rfl, rfl, rfl, rfl, rfl, rfl, rfl, rfl, rfl, rfl, rfl, rfl, rfl, rfl, fun _ => rfl, fun _ => rfl, fun _ => rfl, fun _ => rfl, fun _ => rfl, fun _ => rfl, fun _ => rfl, fun _ => rfl, fun _ _ => rfl, fun _ => rfl, fun _ => rfl, fun _ => rfl, rfl⟩

/-- What `setType` leaves as it was. -/
@[simp] theorem setType_frame (t₀ : Nat) (v : CartridgeType) :
    (s.setType t₀ v).ports = s.ports ∧
    (s.setType t₀ v).au = s.au ∧
    (s.setType t₀ v).jt = s.jt ∧
    (s.setType t₀ v).ru = s.ru ∧
    (s.setType t₀ v).ft = s.ft ∧
    (s.setType t₀ v).se = s.se ∧
    (s.setType t₀ v).cu = s.cu ∧
    (s.setType t₀ v).flc = s.flc ∧
    (s.setType t₀ v).tb = s.tb ∧
    (s.setType t₀ v).rm = s.rm ∧
    (s.setType t₀ v).phase = s.phase ∧
    (s.setType t₀ v).owed = s.owed ∧
    (s.setType t₀ v).out = s.out ∧
    (s.setType t₀ v).pending = s.pending ∧
    (∀ (p : PortName), (s.setType t₀ v).port p = s.port p) ∧
    (∀ (i : Nat), (s.setType t₀ v).account i = s.account i) ∧
    (∀ (n : Nat), (s.setType t₀ v).tenant n = s.tenant n) ∧
    (∀ (i : Nat), (s.setType t₀ v).job i = s.job i) ∧
    (∀ (n : Nat), (s.setType t₀ v).finishedList n = s.finishedList n) ∧
    (∀ (n : Nat), (s.setType t₀ v).session n = s.session n) ∧
    (∀ (n : Nat), (s.setType t₀ v).printer n = s.printer n) ∧
    (∀ (n : Nat) (l : Lane), (s.setType t₀ v).lane n l = s.lane n l) ∧
    (∀ (n : Nat) (k : ConditionKind), (s.setType t₀ v).grace n k = s.grace n k) ∧
    (∀ (n : Nat), (s.setType t₀ v).history n = s.history n) ∧
    (∀ (a : Nat), (s.setType t₀ v).commands a = s.commands a) ∧
    (∀ (a : Nat), (s.setType t₀ v).stray a = s.stray a) ∧
    ((s.setType t₀ v).now = s.now) :=
  ⟨rfl, rfl, rfl, rfl, rfl, rfl, rfl, rfl, rfl, rfl, rfl, rfl, rfl, rfl, fun _ => rfl, fun _ => rfl, fun _ => rfl, fun _ => rfl, fun _ => rfl, fun _ => rfl, fun _ => rfl, fun _ _ => rfl, fun _ _ => rfl, fun _ => rfl, fun _ => rfl, fun _ => rfl, rfl⟩

/-- What `setGrace` leaves as it was. -/
@[simp] theorem setGrace_frame (n₀ : Nat) (k₀ : ConditionKind) (v : Grace) :
    (s.setGrace n₀ k₀ v).ports = s.ports ∧
    (s.setGrace n₀ k₀ v).au = s.au ∧
    (s.setGrace n₀ k₀ v).jt = s.jt ∧
    (s.setGrace n₀ k₀ v).ru = s.ru ∧
    (s.setGrace n₀ k₀ v).ft = s.ft ∧
    (s.setGrace n₀ k₀ v).se = s.se ∧
    (s.setGrace n₀ k₀ v).su = s.su ∧
    (s.setGrace n₀ k₀ v).flc = s.flc ∧
    (s.setGrace n₀ k₀ v).tb = s.tb ∧
    (s.setGrace n₀ k₀ v).rm = s.rm ∧
    (s.setGrace n₀ k₀ v).phase = s.phase ∧
    (s.setGrace n₀ k₀ v).owed = s.owed ∧
    (s.setGrace n₀ k₀ v).out = s.out ∧
    (s.setGrace n₀ k₀ v).pending = s.pending ∧
    (∀ (p : PortName), (s.setGrace n₀ k₀ v).port p = s.port p) ∧
    (∀ (i : Nat), (s.setGrace n₀ k₀ v).account i = s.account i) ∧
    (∀ (n : Nat), (s.setGrace n₀ k₀ v).tenant n = s.tenant n) ∧
    (∀ (i : Nat), (s.setGrace n₀ k₀ v).job i = s.job i) ∧
    (∀ (n : Nat), (s.setGrace n₀ k₀ v).finishedList n = s.finishedList n) ∧
    (∀ (n : Nat), (s.setGrace n₀ k₀ v).session n = s.session n) ∧
    (∀ (n : Nat), (s.setGrace n₀ k₀ v).printer n = s.printer n) ∧
    (∀ (n : Nat) (l : Lane), (s.setGrace n₀ k₀ v).lane n l = s.lane n l) ∧
    (∀ (t : Nat), (s.setGrace n₀ k₀ v).ctype t = s.ctype t) ∧
    (∀ (n : Nat), (s.setGrace n₀ k₀ v).history n = s.history n) ∧
    (∀ (a : Nat), (s.setGrace n₀ k₀ v).commands a = s.commands a) ∧
    (∀ (a : Nat), (s.setGrace n₀ k₀ v).stray a = s.stray a) ∧
    ((s.setGrace n₀ k₀ v).now = s.now) :=
  ⟨rfl, rfl, rfl, rfl, rfl, rfl, rfl, rfl, rfl, rfl, rfl, rfl, rfl, rfl, fun _ => rfl, fun _ => rfl, fun _ => rfl, fun _ => rfl, fun _ => rfl, fun _ => rfl, fun _ => rfl, fun _ _ => rfl, fun _ => rfl, fun _ => rfl, fun _ => rfl, fun _ => rfl, rfl⟩

/-- What `setHistory` leaves as it was. -/
@[simp] theorem setHistory_frame (n₀ : Nat) (v : KindSet) :
    (s.setHistory n₀ v).ports = s.ports ∧
    (s.setHistory n₀ v).au = s.au ∧
    (s.setHistory n₀ v).jt = s.jt ∧
    (s.setHistory n₀ v).ru = s.ru ∧
    (s.setHistory n₀ v).ft = s.ft ∧
    (s.setHistory n₀ v).se = s.se ∧
    (s.setHistory n₀ v).su = s.su ∧
    (s.setHistory n₀ v).flc = s.flc ∧
    (s.setHistory n₀ v).tb = s.tb ∧
    (s.setHistory n₀ v).rm = s.rm ∧
    (s.setHistory n₀ v).phase = s.phase ∧
    (s.setHistory n₀ v).owed = s.owed ∧
    (s.setHistory n₀ v).out = s.out ∧
    (s.setHistory n₀ v).pending = s.pending ∧
    (∀ (p : PortName), (s.setHistory n₀ v).port p = s.port p) ∧
    (∀ (i : Nat), (s.setHistory n₀ v).account i = s.account i) ∧
    (∀ (n : Nat), (s.setHistory n₀ v).tenant n = s.tenant n) ∧
    (∀ (i : Nat), (s.setHistory n₀ v).job i = s.job i) ∧
    (∀ (n : Nat), (s.setHistory n₀ v).finishedList n = s.finishedList n) ∧
    (∀ (n : Nat), (s.setHistory n₀ v).session n = s.session n) ∧
    (∀ (n : Nat), (s.setHistory n₀ v).printer n = s.printer n) ∧
    (∀ (n : Nat) (l : Lane), (s.setHistory n₀ v).lane n l = s.lane n l) ∧
    (∀ (t : Nat), (s.setHistory n₀ v).ctype t = s.ctype t) ∧
    (∀ (n : Nat) (k : ConditionKind), (s.setHistory n₀ v).grace n k = s.grace n k) ∧
    (∀ (a : Nat), (s.setHistory n₀ v).commands a = s.commands a) ∧
    (∀ (a : Nat), (s.setHistory n₀ v).stray a = s.stray a) ∧
    ((s.setHistory n₀ v).now = s.now) :=
  ⟨rfl, rfl, rfl, rfl, rfl, rfl, rfl, rfl, rfl, rfl, rfl, rfl, rfl, rfl, fun _ => rfl, fun _ => rfl, fun _ => rfl, fun _ => rfl, fun _ => rfl, fun _ => rfl, fun _ => rfl, fun _ _ => rfl, fun _ => rfl, fun _ _ => rfl, fun _ => rfl, fun _ => rfl, rfl⟩

/-- What `setCallouts` leaves as it was. -/
@[simp] theorem setCallouts_frame (v : List Callout) :
    (s.setCallouts v).ports = s.ports ∧
    (s.setCallouts v).au = s.au ∧
    (s.setCallouts v).jt = s.jt ∧
    (s.setCallouts v).ru = s.ru ∧
    (s.setCallouts v).ft = s.ft ∧
    (s.setCallouts v).se = s.se ∧
    (s.setCallouts v).su = s.su ∧
    (s.setCallouts v).flc = s.flc ∧
    (s.setCallouts v).tb = s.tb ∧
    (s.setCallouts v).rm = s.rm ∧
    (s.setCallouts v).phase = s.phase ∧
    (s.setCallouts v).owed = s.owed ∧
    (s.setCallouts v).out = s.out ∧
    (s.setCallouts v).pending = s.pending ∧
    (∀ (p : PortName), (s.setCallouts v).port p = s.port p) ∧
    (∀ (i : Nat), (s.setCallouts v).account i = s.account i) ∧
    (∀ (n : Nat), (s.setCallouts v).tenant n = s.tenant n) ∧
    (∀ (i : Nat), (s.setCallouts v).job i = s.job i) ∧
    (∀ (n : Nat), (s.setCallouts v).finishedList n = s.finishedList n) ∧
    (∀ (n : Nat), (s.setCallouts v).session n = s.session n) ∧
    (∀ (n : Nat), (s.setCallouts v).printer n = s.printer n) ∧
    (∀ (n : Nat) (l : Lane), (s.setCallouts v).lane n l = s.lane n l) ∧
    (∀ (t : Nat), (s.setCallouts v).ctype t = s.ctype t) ∧
    (∀ (n : Nat) (k : ConditionKind), (s.setCallouts v).grace n k = s.grace n k) ∧
    (∀ (n : Nat), (s.setCallouts v).history n = s.history n) ∧
    (∀ (a : Nat), (s.setCallouts v).commands a = s.commands a) ∧
    (∀ (a : Nat), (s.setCallouts v).stray a = s.stray a) ∧
    ((s.setCallouts v).now = s.now) :=
  ⟨rfl, rfl, rfl, rfl, rfl, rfl, rfl, rfl, rfl, rfl, rfl, rfl, rfl, rfl, fun _ => rfl, fun _ => rfl, fun _ => rfl, fun _ => rfl, fun _ => rfl, fun _ => rfl, fun _ => rfl, fun _ _ => rfl, fun _ => rfl, fun _ _ => rfl, fun _ => rfl, fun _ => rfl, fun _ => rfl, rfl⟩

/-- What `setDeferrals` leaves as it was. -/
@[simp] theorem setDeferrals_frame (v : List Deferral) :
    (s.setDeferrals v).ports = s.ports ∧
    (s.setDeferrals v).au = s.au ∧
    (s.setDeferrals v).jt = s.jt ∧
    (s.setDeferrals v).ru = s.ru ∧
    (s.setDeferrals v).ft = s.ft ∧
    (s.setDeferrals v).se = s.se ∧
    (s.setDeferrals v).su = s.su ∧
    (s.setDeferrals v).flc = s.flc ∧
    (s.setDeferrals v).tb = s.tb ∧
    (s.setDeferrals v).rm = s.rm ∧
    (s.setDeferrals v).phase = s.phase ∧
    (s.setDeferrals v).owed = s.owed ∧
    (s.setDeferrals v).out = s.out ∧
    (s.setDeferrals v).pending = s.pending ∧
    (∀ (p : PortName), (s.setDeferrals v).port p = s.port p) ∧
    (∀ (i : Nat), (s.setDeferrals v).account i = s.account i) ∧
    (∀ (n : Nat), (s.setDeferrals v).tenant n = s.tenant n) ∧
    (∀ (i : Nat), (s.setDeferrals v).job i = s.job i) ∧
    (∀ (n : Nat), (s.setDeferrals v).finishedList n = s.finishedList n) ∧
    (∀ (n : Nat), (s.setDeferrals v).session n = s.session n) ∧
    (∀ (n : Nat), (s.setDeferrals v).printer n = s.printer n) ∧
    (∀ (n : Nat) (l : Lane), (s.setDeferrals v).lane n l = s.lane n l) ∧
    (∀ (t : Nat), (s.setDeferrals v).ctype t = s.ctype t) ∧
    (∀ (n : Nat) (k : ConditionKind), (s.setDeferrals v).grace n k = s.grace n k) ∧
    (∀ (n : Nat), (s.setDeferrals v).history n = s.history n) ∧
    (∀ (a : Nat), (s.setDeferrals v).commands a = s.commands a) ∧
    (∀ (a : Nat), (s.setDeferrals v).stray a = s.stray a) ∧
    ((s.setDeferrals v).now = s.now) :=
  ⟨rfl, rfl, rfl, rfl, rfl, rfl, rfl, rfl, rfl, rfl, rfl, rfl, rfl, rfl, fun _ => rfl, fun _ => rfl, fun _ => rfl, fun _ => rfl, fun _ => rfl, fun _ => rfl, fun _ => rfl, fun _ _ => rfl, fun _ => rfl, fun _ _ => rfl, fun _ => rfl, fun _ => rfl, fun _ => rfl, rfl⟩

/-- What `setOrders` leaves as it was. -/
@[simp] theorem setOrders_frame (v : List Order) :
    (s.setOrders v).ports = s.ports ∧
    (s.setOrders v).au = s.au ∧
    (s.setOrders v).jt = s.jt ∧
    (s.setOrders v).ru = s.ru ∧
    (s.setOrders v).ft = s.ft ∧
    (s.setOrders v).se = s.se ∧
    (s.setOrders v).cu = s.cu ∧
    (s.setOrders v).flc = s.flc ∧
    (s.setOrders v).tb = s.tb ∧
    (s.setOrders v).rm = s.rm ∧
    (s.setOrders v).phase = s.phase ∧
    (s.setOrders v).owed = s.owed ∧
    (s.setOrders v).out = s.out ∧
    (s.setOrders v).pending = s.pending ∧
    (∀ (p : PortName), (s.setOrders v).port p = s.port p) ∧
    (∀ (i : Nat), (s.setOrders v).account i = s.account i) ∧
    (∀ (n : Nat), (s.setOrders v).tenant n = s.tenant n) ∧
    (∀ (i : Nat), (s.setOrders v).job i = s.job i) ∧
    (∀ (n : Nat), (s.setOrders v).finishedList n = s.finishedList n) ∧
    (∀ (n : Nat), (s.setOrders v).session n = s.session n) ∧
    (∀ (n : Nat), (s.setOrders v).printer n = s.printer n) ∧
    (∀ (n : Nat) (l : Lane), (s.setOrders v).lane n l = s.lane n l) ∧
    (∀ (t : Nat), (s.setOrders v).ctype t = s.ctype t) ∧
    (∀ (n : Nat) (k : ConditionKind), (s.setOrders v).grace n k = s.grace n k) ∧
    (∀ (n : Nat), (s.setOrders v).history n = s.history n) ∧
    (∀ (a : Nat), (s.setOrders v).commands a = s.commands a) ∧
    (∀ (a : Nat), (s.setOrders v).stray a = s.stray a) ∧
    ((s.setOrders v).now = s.now) :=
  ⟨rfl, rfl, rfl, rfl, rfl, rfl, rfl, rfl, rfl, rfl, rfl, rfl, rfl, rfl, fun _ => rfl, fun _ => rfl, fun _ => rfl, fun _ => rfl, fun _ => rfl, fun _ => rfl, fun _ => rfl, fun _ _ => rfl, fun _ => rfl, fun _ _ => rfl, fun _ => rfl, fun _ => rfl, fun _ => rfl, rfl⟩

/-- What `setDeferredTypes` leaves as it was. -/
@[simp] theorem setDeferredTypes_frame (v : List Nat) :
    (s.setDeferredTypes v).ports = s.ports ∧
    (s.setDeferredTypes v).au = s.au ∧
    (s.setDeferredTypes v).jt = s.jt ∧
    (s.setDeferredTypes v).ru = s.ru ∧
    (s.setDeferredTypes v).ft = s.ft ∧
    (s.setDeferredTypes v).se = s.se ∧
    (s.setDeferredTypes v).cu = s.cu ∧
    (s.setDeferredTypes v).flc = s.flc ∧
    (s.setDeferredTypes v).tb = s.tb ∧
    (s.setDeferredTypes v).rm = s.rm ∧
    (s.setDeferredTypes v).phase = s.phase ∧
    (s.setDeferredTypes v).owed = s.owed ∧
    (s.setDeferredTypes v).out = s.out ∧
    (s.setDeferredTypes v).pending = s.pending ∧
    (∀ (p : PortName), (s.setDeferredTypes v).port p = s.port p) ∧
    (∀ (i : Nat), (s.setDeferredTypes v).account i = s.account i) ∧
    (∀ (n : Nat), (s.setDeferredTypes v).tenant n = s.tenant n) ∧
    (∀ (i : Nat), (s.setDeferredTypes v).job i = s.job i) ∧
    (∀ (n : Nat), (s.setDeferredTypes v).finishedList n = s.finishedList n) ∧
    (∀ (n : Nat), (s.setDeferredTypes v).session n = s.session n) ∧
    (∀ (n : Nat), (s.setDeferredTypes v).printer n = s.printer n) ∧
    (∀ (n : Nat) (l : Lane), (s.setDeferredTypes v).lane n l = s.lane n l) ∧
    (∀ (t : Nat), (s.setDeferredTypes v).ctype t = s.ctype t) ∧
    (∀ (n : Nat) (k : ConditionKind), (s.setDeferredTypes v).grace n k = s.grace n k) ∧
    (∀ (n : Nat), (s.setDeferredTypes v).history n = s.history n) ∧
    (∀ (a : Nat), (s.setDeferredTypes v).commands a = s.commands a) ∧
    (∀ (a : Nat), (s.setDeferredTypes v).stray a = s.stray a) ∧
    ((s.setDeferredTypes v).now = s.now) :=
  ⟨rfl, rfl, rfl, rfl, rfl, rfl, rfl, rfl, rfl, rfl, rfl, rfl, rfl, rfl, fun _ => rfl, fun _ => rfl, fun _ => rfl, fun _ => rfl, fun _ => rfl, fun _ => rfl, fun _ => rfl, fun _ _ => rfl, fun _ => rfl, fun _ _ => rfl, fun _ => rfl, fun _ => rfl, fun _ => rfl, rfl⟩

/-- What `setCommands` leaves as it was. -/
@[simp] theorem setCommands_frame (a₀ : Nat) (v : List Command) :
    (s.setCommands a₀ v).ports = s.ports ∧
    (s.setCommands a₀ v).au = s.au ∧
    (s.setCommands a₀ v).jt = s.jt ∧
    (s.setCommands a₀ v).ru = s.ru ∧
    (s.setCommands a₀ v).ft = s.ft ∧
    (s.setCommands a₀ v).se = s.se ∧
    (s.setCommands a₀ v).su = s.su ∧
    (s.setCommands a₀ v).cu = s.cu ∧
    (s.setCommands a₀ v).tb = s.tb ∧
    (s.setCommands a₀ v).rm = s.rm ∧
    (s.setCommands a₀ v).phase = s.phase ∧
    (s.setCommands a₀ v).owed = s.owed ∧
    (s.setCommands a₀ v).out = s.out ∧
    (s.setCommands a₀ v).pending = s.pending ∧
    (∀ (p : PortName), (s.setCommands a₀ v).port p = s.port p) ∧
    (∀ (i : Nat), (s.setCommands a₀ v).account i = s.account i) ∧
    (∀ (n : Nat), (s.setCommands a₀ v).tenant n = s.tenant n) ∧
    (∀ (i : Nat), (s.setCommands a₀ v).job i = s.job i) ∧
    (∀ (n : Nat), (s.setCommands a₀ v).finishedList n = s.finishedList n) ∧
    (∀ (n : Nat), (s.setCommands a₀ v).session n = s.session n) ∧
    (∀ (n : Nat), (s.setCommands a₀ v).printer n = s.printer n) ∧
    (∀ (n : Nat) (l : Lane), (s.setCommands a₀ v).lane n l = s.lane n l) ∧
    (∀ (t : Nat), (s.setCommands a₀ v).ctype t = s.ctype t) ∧
    (∀ (n : Nat) (k : ConditionKind), (s.setCommands a₀ v).grace n k = s.grace n k) ∧
    (∀ (n : Nat), (s.setCommands a₀ v).history n = s.history n) ∧
    (∀ (a : Nat), (s.setCommands a₀ v).stray a = s.stray a) ∧
    ((s.setCommands a₀ v).now = s.now) :=
  ⟨rfl, rfl, rfl, rfl, rfl, rfl, rfl, rfl, rfl, rfl, rfl, rfl, rfl, rfl, fun _ => rfl, fun _ => rfl, fun _ => rfl, fun _ => rfl, fun _ => rfl, fun _ => rfl, fun _ => rfl, fun _ _ => rfl, fun _ => rfl, fun _ _ => rfl, fun _ => rfl, fun _ => rfl, rfl⟩

/-- What `setStray` leaves as it was. -/
@[simp] theorem setStray_frame (a₀ : Nat) (v : Option Stray) :
    (s.setStray a₀ v).ports = s.ports ∧
    (s.setStray a₀ v).au = s.au ∧
    (s.setStray a₀ v).jt = s.jt ∧
    (s.setStray a₀ v).ru = s.ru ∧
    (s.setStray a₀ v).ft = s.ft ∧
    (s.setStray a₀ v).se = s.se ∧
    (s.setStray a₀ v).su = s.su ∧
    (s.setStray a₀ v).cu = s.cu ∧
    (s.setStray a₀ v).tb = s.tb ∧
    (s.setStray a₀ v).rm = s.rm ∧
    (s.setStray a₀ v).phase = s.phase ∧
    (s.setStray a₀ v).owed = s.owed ∧
    (s.setStray a₀ v).out = s.out ∧
    (s.setStray a₀ v).pending = s.pending ∧
    (∀ (p : PortName), (s.setStray a₀ v).port p = s.port p) ∧
    (∀ (i : Nat), (s.setStray a₀ v).account i = s.account i) ∧
    (∀ (n : Nat), (s.setStray a₀ v).tenant n = s.tenant n) ∧
    (∀ (i : Nat), (s.setStray a₀ v).job i = s.job i) ∧
    (∀ (n : Nat), (s.setStray a₀ v).finishedList n = s.finishedList n) ∧
    (∀ (n : Nat), (s.setStray a₀ v).session n = s.session n) ∧
    (∀ (n : Nat), (s.setStray a₀ v).printer n = s.printer n) ∧
    (∀ (n : Nat) (l : Lane), (s.setStray a₀ v).lane n l = s.lane n l) ∧
    (∀ (t : Nat), (s.setStray a₀ v).ctype t = s.ctype t) ∧
    (∀ (n : Nat) (k : ConditionKind), (s.setStray a₀ v).grace n k = s.grace n k) ∧
    (∀ (n : Nat), (s.setStray a₀ v).history n = s.history n) ∧
    (∀ (a : Nat), (s.setStray a₀ v).commands a = s.commands a) ∧
    ((s.setStray a₀ v).now = s.now) :=
  ⟨rfl, rfl, rfl, rfl, rfl, rfl, rfl, rfl, rfl, rfl, rfl, rfl, rfl, rfl, fun _ => rfl, fun _ => rfl, fun _ => rfl, fun _ => rfl, fun _ => rfl, fun _ => rfl, fun _ => rfl, fun _ _ => rfl, fun _ => rfl, fun _ _ => rfl, fun _ => rfl, fun _ => rfl, rfl⟩

/-- What `send` leaves as it was. -/
@[simp] theorem send_frame (p₀ : PortName) (v : PortFrame) :
    (s.send p₀ v).ports = s.ports ∧
    (s.send p₀ v).au = s.au ∧
    (s.send p₀ v).jt = s.jt ∧
    (s.send p₀ v).ru = s.ru ∧
    (s.send p₀ v).ft = s.ft ∧
    (s.send p₀ v).se = s.se ∧
    (s.send p₀ v).su = s.su ∧
    (s.send p₀ v).cu = s.cu ∧
    (s.send p₀ v).flc = s.flc ∧
    (s.send p₀ v).tb = s.tb ∧
    (s.send p₀ v).rm = s.rm ∧
    (s.send p₀ v).phase = s.phase ∧
    (s.send p₀ v).owed = s.owed ∧
    (s.send p₀ v).pending = s.pending ∧
    (∀ (p : PortName), (s.send p₀ v).port p = s.port p) ∧
    (∀ (i : Nat), (s.send p₀ v).account i = s.account i) ∧
    (∀ (n : Nat), (s.send p₀ v).tenant n = s.tenant n) ∧
    (∀ (i : Nat), (s.send p₀ v).job i = s.job i) ∧
    (∀ (n : Nat), (s.send p₀ v).finishedList n = s.finishedList n) ∧
    (∀ (n : Nat), (s.send p₀ v).session n = s.session n) ∧
    (∀ (n : Nat), (s.send p₀ v).printer n = s.printer n) ∧
    (∀ (n : Nat) (l : Lane), (s.send p₀ v).lane n l = s.lane n l) ∧
    (∀ (t : Nat), (s.send p₀ v).ctype t = s.ctype t) ∧
    (∀ (n : Nat) (k : ConditionKind), (s.send p₀ v).grace n k = s.grace n k) ∧
    (∀ (n : Nat), (s.send p₀ v).history n = s.history n) ∧
    (∀ (a : Nat), (s.send p₀ v).commands a = s.commands a) ∧
    (∀ (a : Nat), (s.send p₀ v).stray a = s.stray a) ∧
    ((s.send p₀ v).now = s.now) :=
  ⟨rfl, rfl, rfl, rfl, rfl, rfl, rfl, rfl, rfl, rfl, rfl, rfl, rfl, rfl, fun _ => rfl, fun _ => rfl, fun _ => rfl, fun _ => rfl, fun _ => rfl, fun _ => rfl, fun _ => rfl, fun _ _ => rfl, fun _ => rfl, fun _ _ => rfl, fun _ => rfl, fun _ => rfl, fun _ => rfl, rfl⟩

/-! ### A read after a write of the same kind of record -/

@[simp] theorem port_setPort (p q : PortName) (r : Port) :
    (s.setPort p r).port q = if q = p then r else s.port q := Ports.get_set s.ports p q r

@[simp] theorem account_setAccount (i j : Nat) (a : Account) :
    (s.setAccount i a).account j = if j = i then a else s.account j := Table.get_set _ _ _ _ _

@[simp] theorem tenant_setTenant (i j : Nat) (t : Tenant) :
    (s.setTenant i t).tenant j = if j = i then t else s.tenant j := Table.get_set _ _ _ _ _

@[simp] theorem job_setJob (i j : Nat) (x : Job) :
    (s.setJob i x).job j = if j = i then x else s.job j := Table.get_set _ _ _ _ _

@[simp] theorem finishedList_setFinishedList (i j : Nat) (l : List Handle) :
    (s.setFinishedList i l).finishedList j = if j = i then l else s.finishedList j := Table.get_set _ _ _ _ _

@[simp] theorem session_setSession (i j : Nat) (x : Option Session) :
    (s.setSession i x).session j = if j = i then x else s.session j := Table.get_set _ _ _ _ _

@[simp] theorem printer_setPrinter (i j : Nat) (p : Printer) :
    (s.setPrinter i p).printer j = if j = i then p else s.printer j := Table.get_set _ _ _ _ _

@[simp] theorem ctype_setType (i j : Nat) (r : CartridgeType) :
    (s.setType i r).ctype j = if j = i then r else s.ctype j := Table.get_set _ _ _ _ _

@[simp] theorem history_setHistory (i j : Nat) (k : KindSet) :
    (s.setHistory i k).history j = if j = i then k else s.history j := Table.get_set _ _ _ _ _

@[simp] theorem commands_setCommands (a b : Nat) (q : List Command) :
    (s.setCommands a q).commands b = if b = a then q else s.commands b := Table.get_set _ _ _ _ _

@[simp] theorem stray_setStray (a b : Nat) (x : Option Stray) :
    (s.setStray a x).stray b = if b = a then x else s.stray b := Table.get_set _ _ _ _ _

theorem laneNumber_eq (n m : Nat) (l l' : Lane) : 4 * m + l'.code = 4 * n + l.code ↔ m = n ∧ l' = l := by
  constructor
  · intro h
    cases l <;> cases l' <;> simp [Lane.code] at h ⊢ <;> omega
  · rintro ⟨rfl, rfl⟩; rfl

@[simp] theorem lane_setLane (n m : Nat) (l l' : Lane) (x : Option LaneRecord) :
    (s.setLane n l x).lane m l' = if m = n ∧ l' = l then x else s.lane m l' := by
  have h := Table.get_set none s.se.lanes (4 * n + l.code) (4 * m + l'.code) x
  simp only [laneNumber_eq] at h
  exact h

theorem graceNumber_eq (n m : Nat) (l k : ConditionKind) : 8 * m + k.code = 8 * n + l.code ↔ m = n ∧ k = l := by
  constructor
  · intro h
    cases l <;> cases k <;> simp [ConditionKind.code] at h ⊢ <;> omega
  · rintro ⟨rfl, rfl⟩; rfl

@[simp] theorem grace_setGrace (n m : Nat) (l k : ConditionKind) (g : Grace) :
    (s.setGrace n l g).grace m k = if m = n ∧ k = l then g else s.grace m k := by
  have h := Table.get_set Grace.idle s.cu.grace (8 * n + l.code) (8 * m + k.code) g
  simp only [graceNumber_eq] at h
  exact h

@[simp] theorem callouts_setCallouts (l : List Callout) : (s.setCallouts l).cu.callouts = l := rfl
@[simp] theorem deferrals_setCallouts (l : List Callout) : (s.setCallouts l).cu.deferrals = s.cu.deferrals := rfl
@[simp] theorem deferrals_setDeferrals (l : List Deferral) : (s.setDeferrals l).cu.deferrals = l := rfl
@[simp] theorem callouts_setDeferrals (l : List Deferral) : (s.setDeferrals l).cu.callouts = s.cu.callouts := rfl
@[simp] theorem orders_setOrders (l : List Order) : (s.setOrders l).su.orders = l := rfl
@[simp] theorem orders_setDeferredTypes (l : List Nat) : (s.setDeferredTypes l).su.orders = s.su.orders := rfl
@[simp] theorem deferred_setDeferredTypes (l : List Nat) : (s.setDeferredTypes l).su.deferred = l := rfl
@[simp] theorem deferred_setOrders (l : List Order) : (s.setOrders l).su.deferred = s.su.deferred := rfl
@[simp] theorem orders_setType (t : Nat) (r : CartridgeType) : (s.setType t r).su.orders = s.su.orders := rfl
@[simp] theorem deferred_setType (t : Nat) (r : CartridgeType) : (s.setType t r).su.deferred = s.su.deferred := rfl
@[simp] theorem out_send (p : PortName) (f : PortFrame) : (s.send p f).out = s.out ++ [(p, f)] := rfl

@[simp] theorem begin_frame :
    s.begin.ports = s.ports ∧ s.begin.au = s.au ∧ s.begin.jt = s.jt ∧ s.begin.ru = s.ru ∧ s.begin.ft = s.ft ∧
      s.begin.se = s.se ∧ s.begin.su = s.su ∧ s.begin.cu = s.cu ∧ s.begin.flc = s.flc ∧ s.begin.tb = s.tb ∧
      s.begin.rm = s.rm ∧ s.begin.owed = s.owed ∧ s.begin.pending = s.pending ∧ s.begin.out = [] ∧
      s.begin.phase = .running :=
  ⟨rfl, rfl, rfl, rfl, rfl, rfl, rfl, rfl, rfl, rfl, rfl, rfl, rfl, rfl, rfl⟩

/-! ### What holds of the unlisted record and of every listed one holds of every record -/

theorem forall_account (P : Nat → Account → Prop) (unlisted : ∀ i, P i Account.free)
    (listed : ∀ e ∈ s.au.accounts, P e.1 e.2) (i : Nat) : P i (s.account i) :=
  Table.forall_get P _ _ (fun k _ => unlisted k) listed i

theorem forall_tenant (P : Nat → Tenant → Prop) (unlisted : ∀ n, P n Tenant.cold)
    (listed : ∀ e ∈ s.au.tenants, P e.1 e.2) (n : Nat) : P n (s.tenant n) :=
  Table.forall_get P _ _ (fun k _ => unlisted k) listed n

theorem forall_job (P : Nat → Job → Prop) (unlisted : ∀ i, P i (Job.freeAt 0))
    (listed : ∀ e ∈ s.jt.jobs, P e.1 e.2) (i : Nat) : P i (s.job i) :=
  Table.forall_get P _ _ (fun k _ => unlisted k) listed i

theorem forall_finishedList (P : Nat → List Handle → Prop) (unlisted : ∀ n, P n [])
    (listed : ∀ e ∈ s.jt.finished, P e.1 e.2) (n : Nat) : P n (s.finishedList n) :=
  Table.forall_get P _ _ (fun k _ => unlisted k) listed n

theorem forall_session (P : Nat → Option Session → Prop) (unlisted : ∀ n, P n none)
    (listed : ∀ e ∈ s.ru.sessions, P e.1 e.2) (n : Nat) : P n (s.session n) :=
  Table.forall_get P _ _ (fun k _ => unlisted k) listed n

theorem forall_printer (P : Nat → Printer → Prop) (unlisted : ∀ n, P n Printer.cold)
    (listed : ∀ e ∈ s.ft.printers, P e.1 e.2) (n : Nat) : P n (s.printer n) :=
  Table.forall_get P _ _ (fun k _ => unlisted k) listed n

theorem forall_ctype (P : Nat → CartridgeType → Prop) (unlisted : ∀ t, P t CartridgeType.cold)
    (listed : ∀ e ∈ s.su.types, P e.1 e.2) (t : Nat) : P t (s.ctype t) :=
  Table.forall_get P _ _ (fun k _ => unlisted k) listed t

theorem forall_history (P : Nat → KindSet → Prop) (unlisted : ∀ n, P n 0)
    (listed : ∀ e ∈ s.cu.history, P e.1 e.2) (n : Nat) : P n (s.history n) :=
  Table.forall_get P _ _ (fun k _ => unlisted k) listed n

theorem forall_commands (P : Nat → List Command → Prop) (unlisted : ∀ a, P a [])
    (listed : ∀ e ∈ s.flc.queues, P e.1 e.2) (a : Nat) : P a (s.commands a) :=
  Table.forall_get P _ _ (fun k _ => unlisted k) listed a

theorem forall_stray (P : Nat → Option Stray → Prop) (unlisted : ∀ a, P a none)
    (listed : ∀ e ∈ s.flc.strays, P e.1 e.2) (a : Nat) : P a (s.stray a) :=
  Table.forall_get P _ _ (fun k _ => unlisted k) listed a

theorem forall_lane (P : Nat → Option LaneRecord → Prop) (unlisted : ∀ k, P k none)
    (listed : ∀ e ∈ s.se.lanes, P e.1 e.2) (n : Nat) (l : Lane) : P (4 * n + l.code) (s.lane n l) :=
  Table.forall_get P _ _ (fun k _ => unlisted k) listed _

theorem forall_grace (P : Nat → Grace → Prop) (unlisted : ∀ k, P k .idle)
    (listed : ∀ e ∈ s.cu.grace, P e.1 e.2) (n : Nat) (k : ConditionKind) : P (8 * n + k.code) (s.grace n k) :=
  Table.forall_get P _ _ (fun k _ => unlisted k) listed _

end Sys2Proof.Machine.State
end

