-- ==== Sys2Proof/Laws/Frames.lean ====
section
/-! SUPPORT. What each shared operation leaves alone, said once: the groups of the state it does not touch. Provers cite these
(they are simp lemmas) instead of unfolding the operation. -/

namespace Sys2Proof.Machine

/-- What every step of a fold keeps, the fold keeps. -/
theorem foldl_keeps {α : Type} (f : State → α → State) (R : State → State → Prop) (refl : ∀ a, R a a)
    (trans : ∀ a b c, R a b → R b c → R a c) (step : ∀ a x, R a (f a x)) (l : List α) (s : State) :
    R s (l.foldl f s) := by
  induction l generalizing s with
  | nil => exact refl s
  | cons x l ih => exact trans _ _ _ (step s x) (ih (f s x))

/-- R168: raising touches the ports and what is sent. -/
@[simp] theorem raise_frame (p : PortName) (k : NoticeKind) (s : State) :
    (raise p k s).au = s.au ∧ (raise p k s).jt = s.jt ∧ (raise p k s).ru = s.ru ∧ (raise p k s).ft = s.ft ∧
    (raise p k s).se = s.se ∧ (raise p k s).su = s.su ∧ (raise p k s).cu = s.cu ∧ (raise p k s).flc = s.flc ∧
    (raise p k s).tb = s.tb ∧ (raise p k s).rm = s.rm ∧ (raise p k s).phase = s.phase ∧ (raise p k s).owed = s.owed ∧
    (raise p k s).pending = s.pending := by
  unfold raise
  try dsimp only
  repeat' split
  all_goals simp

@[simp] theorem raiseTenant_frame (n : Nat) (k : NoticeKind) (s : State) :
    (raiseTenant n k s).au = s.au ∧ (raiseTenant n k s).jt = s.jt ∧ (raiseTenant n k s).ru = s.ru ∧
    (raiseTenant n k s).ft = s.ft ∧ (raiseTenant n k s).se = s.se ∧ (raiseTenant n k s).su = s.su ∧
    (raiseTenant n k s).cu = s.cu ∧ (raiseTenant n k s).flc = s.flc ∧ (raiseTenant n k s).tb = s.tb ∧
    (raiseTenant n k s).rm = s.rm ∧ (raiseTenant n k s).phase = s.phase ∧ (raiseTenant n k s).owed = s.owed ∧
    (raiseTenant n k s).pending = s.pending := by
  simp [raiseTenant]

/-- The Account Unit's arithmetic touches the Account Unit, and a charge the ports (OVERRUN). -/
@[simp] theorem withOwner_frame (i : Nat) (f : Tenant → Tenant) (s : State) :
    (withOwner i f s).ports = s.ports ∧ (withOwner i f s).jt = s.jt ∧ (withOwner i f s).ru = s.ru ∧
    (withOwner i f s).ft = s.ft ∧ (withOwner i f s).se = s.se ∧ (withOwner i f s).su = s.su ∧
    (withOwner i f s).cu = s.cu ∧ (withOwner i f s).flc = s.flc ∧ (withOwner i f s).tb = s.tb ∧
    (withOwner i f s).rm = s.rm ∧ (withOwner i f s).phase = s.phase ∧ (withOwner i f s).owed = s.owed ∧
    (withOwner i f s).out = s.out ∧ (withOwner i f s).pending = s.pending := by
  unfold withOwner
  split <;> simp

@[simp] theorem reserve_frame (i : Nat) (c : PageClass) (n : Nat) (s : State) :
    (reserve i c n s).ports = s.ports ∧ (reserve i c n s).jt = s.jt ∧ (reserve i c n s).ru = s.ru ∧
    (reserve i c n s).ft = s.ft ∧ (reserve i c n s).se = s.se ∧ (reserve i c n s).su = s.su ∧
    (reserve i c n s).cu = s.cu ∧ (reserve i c n s).flc = s.flc ∧ (reserve i c n s).tb = s.tb ∧
    (reserve i c n s).rm = s.rm ∧ (reserve i c n s).phase = s.phase ∧ (reserve i c n s).owed = s.owed ∧
    (reserve i c n s).out = s.out ∧ (reserve i c n s).pending = s.pending := by
  simp [reserve]

@[simp] theorem returnPages_frame (i : Nat) (c : PageClass) (n : Nat) (s : State) :
    (returnPages i c n s).ports = s.ports ∧ (returnPages i c n s).jt = s.jt ∧ (returnPages i c n s).ru = s.ru ∧
    (returnPages i c n s).ft = s.ft ∧ (returnPages i c n s).se = s.se ∧ (returnPages i c n s).su = s.su ∧
    (returnPages i c n s).cu = s.cu ∧ (returnPages i c n s).flc = s.flc ∧ (returnPages i c n s).tb = s.tb ∧
    (returnPages i c n s).rm = s.rm ∧ (returnPages i c n s).phase = s.phase ∧ (returnPages i c n s).owed = s.owed ∧
    (returnPages i c n s).out = s.out ∧ (returnPages i c n s).pending = s.pending := by
  simp [returnPages]

@[simp] theorem reserveBoth_frame (i : Nat) (p : PerClass Nat) (s : State) :
    (reserveBoth i p s).ports = s.ports ∧ (reserveBoth i p s).jt = s.jt ∧ (reserveBoth i p s).ru = s.ru ∧
    (reserveBoth i p s).ft = s.ft ∧ (reserveBoth i p s).se = s.se ∧ (reserveBoth i p s).su = s.su ∧
    (reserveBoth i p s).cu = s.cu ∧ (reserveBoth i p s).flc = s.flc ∧ (reserveBoth i p s).tb = s.tb ∧
    (reserveBoth i p s).rm = s.rm ∧ (reserveBoth i p s).phase = s.phase ∧ (reserveBoth i p s).owed = s.owed ∧
    (reserveBoth i p s).out = s.out ∧ (reserveBoth i p s).pending = s.pending := by
  simp [reserveBoth]

@[simp] theorem returnBoth_frame (i : Nat) (p : PerClass Nat) (s : State) :
    (returnBoth i p s).ports = s.ports ∧ (returnBoth i p s).jt = s.jt ∧ (returnBoth i p s).ru = s.ru ∧
    (returnBoth i p s).ft = s.ft ∧ (returnBoth i p s).se = s.se ∧ (returnBoth i p s).su = s.su ∧
    (returnBoth i p s).cu = s.cu ∧ (returnBoth i p s).flc = s.flc ∧ (returnBoth i p s).tb = s.tb ∧
    (returnBoth i p s).rm = s.rm ∧ (returnBoth i p s).phase = s.phase ∧ (returnBoth i p s).owed = s.owed ∧
    (returnBoth i p s).out = s.out ∧ (returnBoth i p s).pending = s.pending := by
  simp [returnBoth]

@[simp] theorem charge_frame (i : Nat) (c : PageClass) (a r : Nat) (s : State) :
    (charge i c a r s).jt = s.jt ∧ (charge i c a r s).ru = s.ru ∧ (charge i c a r s).ft = s.ft ∧
    (charge i c a r s).se = s.se ∧ (charge i c a r s).su = s.su ∧ (charge i c a r s).cu = s.cu ∧
    (charge i c a r s).flc = s.flc ∧ (charge i c a r s).tb = s.tb ∧ (charge i c a r s).rm = s.rm ∧
    (charge i c a r s).phase = s.phase ∧ (charge i c a r s).owed = s.owed ∧
    (charge i c a r s).pending = s.pending := by
  unfold charge
  dsimp only
  split
  · split <;> simp
  · simp

@[simp] theorem chargeBoth_frame (i : Nat) (a r : PerClass Nat) (s : State) :
    (chargeBoth i a r s).jt = s.jt ∧ (chargeBoth i a r s).ru = s.ru ∧ (chargeBoth i a r s).ft = s.ft ∧
    (chargeBoth i a r s).se = s.se ∧ (chargeBoth i a r s).su = s.su ∧ (chargeBoth i a r s).cu = s.cu ∧
    (chargeBoth i a r s).flc = s.flc ∧ (chargeBoth i a r s).tb = s.tb ∧ (chargeBoth i a r s).rm = s.rm ∧
    (chargeBoth i a r s).phase = s.phase ∧ (chargeBoth i a r s).owed = s.owed ∧
    (chargeBoth i a r s).pending = s.pending := by
  simp [chargeBoth]

@[simp] theorem lowerLive_frame (i : Nat) (s : State) :
    (lowerLive i s).ports = s.ports ∧ (lowerLive i s).jt = s.jt ∧ (lowerLive i s).ru = s.ru ∧
    (lowerLive i s).ft = s.ft ∧ (lowerLive i s).se = s.se ∧ (lowerLive i s).su = s.su ∧ (lowerLive i s).cu = s.cu ∧
    (lowerLive i s).flc = s.flc ∧ (lowerLive i s).tb = s.tb ∧ (lowerLive i s).rm = s.rm ∧
    (lowerLive i s).phase = s.phase ∧ (lowerLive i s).owed = s.owed ∧ (lowerLive i s).out = s.out ∧
    (lowerLive i s).pending = s.pending := by
  simp [lowerLive]

@[simp] theorem raiseLive_frame (i : Nat) (s : State) :
    (raiseLive i s).ports = s.ports ∧ (raiseLive i s).jt = s.jt ∧ (raiseLive i s).ru = s.ru ∧
    (raiseLive i s).ft = s.ft ∧ (raiseLive i s).se = s.se ∧ (raiseLive i s).su = s.su ∧ (raiseLive i s).cu = s.cu ∧
    (raiseLive i s).flc = s.flc ∧ (raiseLive i s).tb = s.tb ∧ (raiseLive i s).rm = s.rm ∧
    (raiseLive i s).phase = s.phase ∧ (raiseLive i s).owed = s.owed ∧ (raiseLive i s).out = s.out ∧
    (raiseLive i s).pending = s.pending := by
  simp [raiseLive]

@[simp] theorem rollover_frame (n : Nat) (s : State) :
    (rollover n s).jt = s.jt ∧ (rollover n s).ru = s.ru ∧ (rollover n s).ft = s.ft ∧ (rollover n s).se = s.se ∧
    (rollover n s).su = s.su ∧ (rollover n s).cu = s.cu ∧ (rollover n s).flc = s.flc ∧ (rollover n s).tb = s.tb ∧
    (rollover n s).rm = s.rm ∧ (rollover n s).phase = s.phase ∧ (rollover n s).owed = s.owed ∧
    (rollover n s).pending = s.pending := by
  simp [rollover, rollAccounts]

@[simp] theorem reloadTimer_frame (n : Nat) (s : State) :
    (reloadTimer n s).ports = s.ports ∧ (reloadTimer n s).jt = s.jt ∧ (reloadTimer n s).ru = s.ru ∧
    (reloadTimer n s).ft = s.ft ∧ (reloadTimer n s).se = s.se ∧ (reloadTimer n s).su = s.su ∧
    (reloadTimer n s).cu = s.cu ∧ (reloadTimer n s).flc = s.flc ∧ (reloadTimer n s).tb = s.tb ∧
    (reloadTimer n s).rm = s.rm ∧ (reloadTimer n s).phase = s.phase ∧ (reloadTimer n s).owed = s.owed ∧
    (reloadTimer n s).out = s.out ∧ (reloadTimer n s).pending = s.pending := by
  simp [reloadTimer]

/-- The Job Table's moves touch the entries and lists, the owner's live jobs, the sessions and the ports. -/
@[simp] theorem removeFromLists_frame (h : Handle) (s : State) :
    (removeFromLists h s).ports = s.ports ∧ (removeFromLists h s).au = s.au ∧ (removeFromLists h s).jt = s.jt ∧
    (removeFromLists h s).ft = s.ft ∧ (removeFromLists h s).se = s.se ∧ (removeFromLists h s).su = s.su ∧
    (removeFromLists h s).cu = s.cu ∧ (removeFromLists h s).flc = s.flc ∧ (removeFromLists h s).tb = s.tb ∧
    (removeFromLists h s).rm = s.rm ∧ (removeFromLists h s).phase = s.phase ∧ (removeFromLists h s).owed = s.owed ∧
    (removeFromLists h s).out = s.out ∧ (removeFromLists h s).pending = s.pending := by
  simp [removeFromLists]

@[simp] theorem enterFinal_frame (i : Nat) (f : JobState) (r : EndReason) (s : State) :
    (enterFinal i f r s).ft = s.ft ∧ (enterFinal i f r s).se = s.se ∧ (enterFinal i f r s).su = s.su ∧
    (enterFinal i f r s).cu = s.cu ∧ (enterFinal i f r s).flc = s.flc ∧ (enterFinal i f r s).tb = s.tb ∧
    (enterFinal i f r s).rm = s.rm ∧ (enterFinal i f r s).phase = s.phase ∧ (enterFinal i f r s).owed = s.owed ∧
    (enterFinal i f r s).pending = s.pending := by
  unfold enterFinal
  dsimp only
  split <;> simp

@[simp] theorem returnToHeld_frame (i : Nat) (s : State) :
    (returnToHeld i s).ft = s.ft ∧ (returnToHeld i s).se = s.se ∧ (returnToHeld i s).su = s.su ∧
    (returnToHeld i s).cu = s.cu ∧ (returnToHeld i s).flc = s.flc ∧ (returnToHeld i s).tb = s.tb ∧
    (returnToHeld i s).rm = s.rm ∧ (returnToHeld i s).phase = s.phase ∧ (returnToHeld i s).owed = s.owed ∧
    (returnToHeld i s).pending = s.pending := by
  unfold returnToHeld
  dsimp only
  split <;> simp

@[simp] theorem returnReservation_frame (j : Job) (s : State) :
    (returnReservation j s).ports = s.ports ∧ (returnReservation j s).jt = s.jt ∧ (returnReservation j s).ru = s.ru ∧
    (returnReservation j s).ft = s.ft ∧ (returnReservation j s).se = s.se ∧ (returnReservation j s).su = s.su ∧
    (returnReservation j s).cu = s.cu ∧ (returnReservation j s).flc = s.flc ∧ (returnReservation j s).tb = s.tb ∧
    (returnReservation j s).rm = s.rm ∧ (returnReservation j s).phase = s.phase ∧
    (returnReservation j s).owed = s.owed ∧ (returnReservation j s).out = s.out ∧
    (returnReservation j s).pending = s.pending := by
  unfold returnReservation
  split <;> simp

@[simp] theorem freeEntry_frame (i : Nat) (s : State) :
    (freeEntry i s).ports = s.ports ∧ (freeEntry i s).au = s.au ∧ (freeEntry i s).ru = s.ru ∧
    (freeEntry i s).ft = s.ft ∧ (freeEntry i s).se = s.se ∧ (freeEntry i s).su = s.su ∧ (freeEntry i s).cu = s.cu ∧
    (freeEntry i s).flc = s.flc ∧ (freeEntry i s).tb = s.tb ∧ (freeEntry i s).rm = s.rm ∧
    (freeEntry i s).phase = s.phase ∧ (freeEntry i s).owed = s.owed ∧ (freeEntry i s).out = s.out ∧
    (freeEntry i s).pending = s.pending := by
  simp [freeEntry]

/-- The Stock Unit's operations touch the stock, the lanes' claims and the ports. -/
@[simp] theorem raiseOrder_frame (t : Nat) (s : State) :
    (raiseOrder t s).au = s.au ∧ (raiseOrder t s).jt = s.jt ∧ (raiseOrder t s).ru = s.ru ∧
    (raiseOrder t s).ft = s.ft ∧ (raiseOrder t s).se = s.se ∧ (raiseOrder t s).cu = s.cu ∧
    (raiseOrder t s).flc = s.flc ∧ (raiseOrder t s).tb = s.tb ∧ (raiseOrder t s).rm = s.rm ∧
    (raiseOrder t s).phase = s.phase ∧ (raiseOrder t s).owed = s.owed ∧ (raiseOrder t s).pending = s.pending := by
  simp [raiseOrder]

@[simp] theorem trigger_frame (t : Nat) (s : State) :
    (trigger t s).au = s.au ∧ (trigger t s).jt = s.jt ∧ (trigger t s).ru = s.ru ∧ (trigger t s).ft = s.ft ∧
    (trigger t s).se = s.se ∧ (trigger t s).cu = s.cu ∧ (trigger t s).flc = s.flc ∧ (trigger t s).tb = s.tb ∧
    (trigger t s).rm = s.rm ∧ (trigger t s).phase = s.phase ∧ (trigger t s).owed = s.owed ∧
    (trigger t s).pending = s.pending := by
  unfold trigger
  dsimp only
  split
  · split
    · simp
    · split <;> simp
  · split <;> simp

@[simp] theorem serveDeferredTypes_frame (s : State) :
    (serveDeferredTypes s).au = s.au ∧ (serveDeferredTypes s).jt = s.jt ∧ (serveDeferredTypes s).ru = s.ru ∧
    (serveDeferredTypes s).ft = s.ft ∧ (serveDeferredTypes s).se = s.se ∧ (serveDeferredTypes s).cu = s.cu ∧
    (serveDeferredTypes s).flc = s.flc ∧ (serveDeferredTypes s).tb = s.tb ∧ (serveDeferredTypes s).rm = s.rm ∧
    (serveDeferredTypes s).phase = s.phase ∧ (serveDeferredTypes s).owed = s.owed ∧
    (serveDeferredTypes s).pending = s.pending := by
  unfold serveDeferredTypes
  refine foldl_keeps _ (fun a b =>
    b.au = a.au ∧ b.jt = a.jt ∧ b.ru = a.ru ∧ b.ft = a.ft ∧ b.se = a.se ∧ b.cu = a.cu ∧ b.flc = a.flc ∧ b.tb = a.tb ∧
    b.rm = a.rm ∧ b.phase = a.phase ∧ b.owed = a.owed ∧ b.pending = a.pending) ?_ ?_ ?_ _ s
  · intro a; simp
  · intro a b c h k; simp_all
  · intro a t
    try dsimp only
    split <;> simp

theorem serveWaitersN_frame (t : Nat) : ∀ (n : Nat) (s : State),
    (serveWaitersN t n s).ports = s.ports ∧ (serveWaitersN t n s).au = s.au ∧ (serveWaitersN t n s).jt = s.jt ∧
    (serveWaitersN t n s).ru = s.ru ∧ (serveWaitersN t n s).ft = s.ft ∧ (serveWaitersN t n s).cu = s.cu ∧
    (serveWaitersN t n s).flc = s.flc ∧ (serveWaitersN t n s).tb = s.tb ∧ (serveWaitersN t n s).rm = s.rm ∧
    (serveWaitersN t n s).phase = s.phase ∧ (serveWaitersN t n s).owed = s.owed ∧ (serveWaitersN t n s).out = s.out ∧
    (serveWaitersN t n s).pending = s.pending
  | 0, s => by simp [serveWaitersN]
  | n + 1, s => by
    unfold serveWaitersN
    dsimp only
    split
    · simp
    · split
      · have := serveWaitersN_frame t n
        simp [this]
      · simp

@[simp] theorem serveWaiters_frame (t : Nat) (s : State) :
    (serveWaiters t s).ports = s.ports ∧ (serveWaiters t s).au = s.au ∧ (serveWaiters t s).jt = s.jt ∧
    (serveWaiters t s).ru = s.ru ∧ (serveWaiters t s).ft = s.ft ∧ (serveWaiters t s).cu = s.cu ∧
    (serveWaiters t s).flc = s.flc ∧ (serveWaiters t s).tb = s.tb ∧ (serveWaiters t s).rm = s.rm ∧
    (serveWaiters t s).phase = s.phase ∧ (serveWaiters t s).owed = s.owed ∧ (serveWaiters t s).out = s.out ∧
    (serveWaiters t s).pending = s.pending := by
  unfold serveWaiters
  exact serveWaitersN_frame t _ s

@[simp] theorem dropOrder_frame (o : Order) (s : State) :
    (dropOrder o s).ports = s.ports ∧ (dropOrder o s).au = s.au ∧ (dropOrder o s).jt = s.jt ∧
    (dropOrder o s).ru = s.ru ∧ (dropOrder o s).ft = s.ft ∧ (dropOrder o s).se = s.se ∧ (dropOrder o s).cu = s.cu ∧
    (dropOrder o s).flc = s.flc ∧ (dropOrder o s).tb = s.tb ∧ (dropOrder o s).rm = s.rm ∧
    (dropOrder o s).phase = s.phase ∧ (dropOrder o s).owed = s.owed ∧ (dropOrder o s).out = s.out ∧
    (dropOrder o s).pending = s.pending := by
  simp [dropOrder]

@[simp] theorem requestCartridge_frame (n : Nat) (l : Lane) (s : State) :
    (requestCartridge n l s).au = s.au ∧ (requestCartridge n l s).jt = s.jt ∧ (requestCartridge n l s).ru = s.ru ∧
    (requestCartridge n l s).ft = s.ft ∧ (requestCartridge n l s).cu = s.cu ∧ (requestCartridge n l s).flc = s.flc ∧
    (requestCartridge n l s).tb = s.tb ∧ (requestCartridge n l s).rm = s.rm ∧
    (requestCartridge n l s).phase = s.phase ∧ (requestCartridge n l s).owed = s.owed ∧
    (requestCartridge n l s).pending = s.pending := by
  unfold requestCartridge
  split
  · simp
  · dsimp only
    split <;> simp

@[simp] theorem returnClaim_frame (n : Nat) (l : Lane) (s : State) :
    (returnClaim n l s).au = s.au ∧ (returnClaim n l s).jt = s.jt ∧ (returnClaim n l s).ru = s.ru ∧
    (returnClaim n l s).ft = s.ft ∧ (returnClaim n l s).cu = s.cu ∧ (returnClaim n l s).flc = s.flc ∧
    (returnClaim n l s).tb = s.tb ∧ (returnClaim n l s).rm = s.rm ∧ (returnClaim n l s).phase = s.phase ∧
    (returnClaim n l s).owed = s.owed ∧ (returnClaim n l s).pending = s.pending := by
  unfold returnClaim
  split
  · simp
  · split
    · simp
    · simp

/-- What a dispatch queue's changes touch. -/
@[simp] theorem drainingTest_frame (n : Nat) (s : State) :
    (drainingTest n s).au = s.au ∧ (drainingTest n s).jt = s.jt ∧ (drainingTest n s).ru = s.ru ∧
    (drainingTest n s).se = s.se ∧ (drainingTest n s).su = s.su ∧ (drainingTest n s).cu = s.cu ∧
    (drainingTest n s).flc = s.flc ∧ (drainingTest n s).tb = s.tb ∧ (drainingTest n s).rm = s.rm ∧
    (drainingTest n s).phase = s.phase ∧ (drainingTest n s).owed = s.owed ∧
    (drainingTest n s).pending = s.pending := by
  unfold drainingTest
  dsimp only
  split <;> simp

@[simp] theorem leaveQueue_frame (n : Nat) (h : Handle) (s : State) :
    (leaveQueue n h s).ports = s.ports ∧ (leaveQueue n h s).au = s.au ∧ (leaveQueue n h s).jt = s.jt ∧
    (leaveQueue n h s).ru = s.ru ∧ (leaveQueue n h s).se = s.se ∧ (leaveQueue n h s).su = s.su ∧
    (leaveQueue n h s).cu = s.cu ∧ (leaveQueue n h s).flc = s.flc ∧ (leaveQueue n h s).tb = s.tb ∧
    (leaveQueue n h s).rm = s.rm ∧ (leaveQueue n h s).phase = s.phase ∧ (leaveQueue n h s).owed = s.owed ∧
    (leaveQueue n h s).out = s.out ∧ (leaveQueue n h s).pending = s.pending := by
  simp [leaveQueue]

@[simp] theorem changeCommitted_frame (n : Nat) (p : PerLane Nat) (f : Nat → Nat → Nat) (l : Lane) (s : State) :
    (changeCommitted n p f l s).ports = s.ports ∧ (changeCommitted n p f l s).au = s.au ∧
    (changeCommitted n p f l s).jt = s.jt ∧ (changeCommitted n p f l s).ru = s.ru ∧
    (changeCommitted n p f l s).ft = s.ft ∧ (changeCommitted n p f l s).su = s.su ∧
    (changeCommitted n p f l s).cu = s.cu ∧ (changeCommitted n p f l s).flc = s.flc ∧
    (changeCommitted n p f l s).tb = s.tb ∧ (changeCommitted n p f l s).rm = s.rm ∧
    (changeCommitted n p f l s).phase = s.phase ∧ (changeCommitted n p f l s).owed = s.owed ∧
    (changeCommitted n p f l s).out = s.out ∧ (changeCommitted n p f l s).pending = s.pending := by
  simp [changeCommitted]

@[simp] theorem addNeeds_frame (n : Nat) (p : PerLane Nat) (s : State) :
    (addNeeds n p s).ports = s.ports ∧ (addNeeds n p s).au = s.au ∧ (addNeeds n p s).jt = s.jt ∧
    (addNeeds n p s).ru = s.ru ∧ (addNeeds n p s).ft = s.ft ∧ (addNeeds n p s).su = s.su ∧
    (addNeeds n p s).cu = s.cu ∧ (addNeeds n p s).flc = s.flc ∧ (addNeeds n p s).tb = s.tb ∧
    (addNeeds n p s).rm = s.rm ∧ (addNeeds n p s).phase = s.phase ∧ (addNeeds n p s).owed = s.owed ∧
    (addNeeds n p s).out = s.out ∧ (addNeeds n p s).pending = s.pending := by
  simp [addNeeds, Lane.all]

@[simp] theorem returnNeeds_frame (n : Nat) (j : Job) (s : State) :
    (returnNeeds n j s).ports = s.ports ∧ (returnNeeds n j s).au = s.au ∧ (returnNeeds n j s).jt = s.jt ∧
    (returnNeeds n j s).ru = s.ru ∧ (returnNeeds n j s).ft = s.ft ∧ (returnNeeds n j s).su = s.su ∧
    (returnNeeds n j s).cu = s.cu ∧ (returnNeeds n j s).flc = s.flc ∧ (returnNeeds n j s).tb = s.tb ∧
    (returnNeeds n j s).rm = s.rm ∧ (returnNeeds n j s).phase = s.phase ∧ (returnNeeds n j s).owed = s.owed ∧
    (returnNeeds n j s).out = s.out ∧ (returnNeeds n j s).pending = s.pending := by
  unfold returnNeeds
  split <;> simp [Lane.all]

@[simp] theorem requeueJob_frame (n : Nat) (h : Handle) (s : State) :
    (requeueJob n h s).su = s.su ∧ (requeueJob n h s).cu = s.cu ∧ (requeueJob n h s).flc = s.flc ∧
    (requeueJob n h s).tb = s.tb ∧ (requeueJob n h s).rm = s.rm ∧ (requeueJob n h s).phase = s.phase ∧
    (requeueJob n h s).owed = s.owed ∧ (requeueJob n h s).pending = s.pending := by
  simp [requeueJob]

@[simp] theorem requeueJobs_frame (n : Nat) (w : Job → Bool) (s : State) :
    (requeueJobs n w s).su = s.su ∧ (requeueJobs n w s).cu = s.cu ∧ (requeueJobs n w s).flc = s.flc ∧
    (requeueJobs n w s).tb = s.tb ∧ (requeueJobs n w s).rm = s.rm ∧ (requeueJobs n w s).phase = s.phase ∧
    (requeueJobs n w s).owed = s.owed ∧ (requeueJobs n w s).pending = s.pending := by
  unfold requeueJobs
  refine foldl_keeps _ (fun a b =>
    b.su = a.su ∧ b.cu = a.cu ∧ b.flc = a.flc ∧ b.tb = a.tb ∧ b.rm = a.rm ∧ b.phase = a.phase ∧ b.owed = a.owed ∧
    b.pending = a.pending) ?_ ?_ ?_ _ s
  · intro a; simp
  · intro a b c h k; simp_all
  · intro a t
    try dsimp only
    split <;> simp

@[simp] theorem serviceRequeue_frame (n : Nat) (s : State) :
    (serviceRequeue n s).su = s.su ∧ (serviceRequeue n s).cu = s.cu ∧ (serviceRequeue n s).flc = s.flc ∧
    (serviceRequeue n s).tb = s.tb ∧ (serviceRequeue n s).rm = s.rm ∧ (serviceRequeue n s).phase = s.phase ∧
    (serviceRequeue n s).owed = s.owed ∧ (serviceRequeue n s).pending = s.pending := by
  simp [serviceRequeue]

/-- What a callout's making, extending and closing touch. -/
@[simp] theorem announceCallout_frame (n : Nat) (k : CalloutKind) (s : State) :
    (announceCallout n k s).su = s.su ∧ (announceCallout n k s).cu = s.cu ∧ (announceCallout n k s).flc = s.flc ∧
    (announceCallout n k s).tb = s.tb ∧ (announceCallout n k s).rm = s.rm ∧ (announceCallout n k s).phase = s.phase ∧
    (announceCallout n k s).owed = s.owed ∧ (announceCallout n k s).pending = s.pending := by
  cases k <;> simp [announceCallout]

@[simp] theorem makeCallout_frame (n : Nat) (k : CalloutKind) (i : List CalloutItem) (s : State) :
    (makeCallout n k i s).su = s.su ∧ (makeCallout n k i s).flc = s.flc ∧ (makeCallout n k i s).tb = s.tb ∧
    (makeCallout n k i s).rm = s.rm ∧ (makeCallout n k i s).phase = s.phase ∧ (makeCallout n k i s).owed = s.owed ∧
    (makeCallout n k i s).pending = s.pending := by
  simp [makeCallout]

@[simp] theorem extendCallout_frame (n : Nat) (k : CalloutKind) (i : List CalloutItem) (s : State) :
    (extendCallout n k i s).su = s.su ∧ (extendCallout n k i s).flc = s.flc ∧ (extendCallout n k i s).tb = s.tb ∧
    (extendCallout n k i s).rm = s.rm ∧ (extendCallout n k i s).phase = s.phase ∧
    (extendCallout n k i s).owed = s.owed ∧ (extendCallout n k i s).pending = s.pending := by
  simp [extendCallout]

@[simp] theorem deferRaise_frame (n : Nat) (k : CalloutKind) (i : List CalloutItem) (s : State) :
    (deferRaise n k i s).ports = s.ports ∧ (deferRaise n k i s).au = s.au ∧ (deferRaise n k i s).jt = s.jt ∧
    (deferRaise n k i s).ru = s.ru ∧ (deferRaise n k i s).ft = s.ft ∧ (deferRaise n k i s).se = s.se ∧
    (deferRaise n k i s).su = s.su ∧ (deferRaise n k i s).flc = s.flc ∧ (deferRaise n k i s).tb = s.tb ∧
    (deferRaise n k i s).rm = s.rm ∧ (deferRaise n k i s).phase = s.phase ∧ (deferRaise n k i s).owed = s.owed ∧
    (deferRaise n k i s).out = s.out ∧ (deferRaise n k i s).pending = s.pending := by
  unfold deferRaise
  split <;> simp

@[simp] theorem raiseItems_frame (n : Nat) (k : CalloutKind) (i : List CalloutItem) (s : State) :
    (raiseItems n k i s).su = s.su ∧ (raiseItems n k i s).flc = s.flc ∧ (raiseItems n k i s).tb = s.tb ∧
    (raiseItems n k i s).rm = s.rm ∧ (raiseItems n k i s).phase = s.phase ∧ (raiseItems n k i s).owed = s.owed ∧
    (raiseItems n k i s).pending = s.pending := by
  unfold raiseItems
  split
  · dsimp only
    split <;> simp
  · split
    · simp
    · split <;> simp

@[simp] theorem serviceRaise_frame (n : Nat) (k : List ConditionKind) (s : State) :
    (serviceRaise n k s).su = s.su ∧ (serviceRaise n k s).flc = s.flc ∧ (serviceRaise n k s).tb = s.tb ∧
    (serviceRaise n k s).rm = s.rm ∧ (serviceRaise n k s).phase = s.phase ∧ (serviceRaise n k s).owed = s.owed ∧
    (serviceRaise n k s).pending = s.pending := by
  unfold serviceRaise
  split <;> simp

@[simp] theorem supplyRaise_frame (n : Nat) (l : Lane) (s : State) :
    (supplyRaise n l s).su = s.su ∧ (supplyRaise n l s).flc = s.flc ∧ (supplyRaise n l s).tb = s.tb ∧
    (supplyRaise n l s).rm = s.rm ∧ (supplyRaise n l s).phase = s.phase ∧ (supplyRaise n l s).owed = s.owed ∧
    (supplyRaise n l s).pending = s.pending := by
  simp [supplyRaise]

@[simp] theorem serveDeferral_frame (d : Deferral) (s : State) :
    (serveDeferral d s).su = s.su ∧ (serveDeferral d s).flc = s.flc ∧ (serveDeferral d s).tb = s.tb ∧
    (serveDeferral d s).rm = s.rm ∧ (serveDeferral d s).phase = s.phase ∧ (serveDeferral d s).owed = s.owed ∧
    (serveDeferral d s).pending = s.pending := by
  unfold serveDeferral
  dsimp only
  split <;> simp

@[simp] theorem serveDeferrals_frame (s : State) :
    (serveDeferrals s).su = s.su ∧ (serveDeferrals s).flc = s.flc ∧ (serveDeferrals s).tb = s.tb ∧
    (serveDeferrals s).rm = s.rm ∧ (serveDeferrals s).phase = s.phase ∧ (serveDeferrals s).owed = s.owed ∧
    (serveDeferrals s).pending = s.pending := by
  unfold serveDeferrals
  refine foldl_keeps _ (fun a b =>
    b.su = a.su ∧ b.flc = a.flc ∧ b.tb = a.tb ∧ b.rm = a.rm ∧ b.phase = a.phase ∧ b.owed = a.owed ∧
    b.pending = a.pending) ?_ ?_ ?_ _ s
  · intro a; simp
  · intro a b c h k; simp_all
  · intro a t
    try dsimp only
    split <;> simp

@[simp] theorem dropDeferredItem_frame (n : Nat) (k : CalloutKind) (i : CalloutItem) (s : State) :
    (dropDeferredItem n k i s).ports = s.ports ∧ (dropDeferredItem n k i s).au = s.au ∧
    (dropDeferredItem n k i s).jt = s.jt ∧ (dropDeferredItem n k i s).ru = s.ru ∧
    (dropDeferredItem n k i s).ft = s.ft ∧ (dropDeferredItem n k i s).se = s.se ∧
    (dropDeferredItem n k i s).su = s.su ∧ (dropDeferredItem n k i s).flc = s.flc ∧
    (dropDeferredItem n k i s).tb = s.tb ∧ (dropDeferredItem n k i s).rm = s.rm ∧
    (dropDeferredItem n k i s).phase = s.phase ∧ (dropDeferredItem n k i s).owed = s.owed ∧
    (dropDeferredItem n k i s).out = s.out ∧ (dropDeferredItem n k i s).pending = s.pending := by
  simp [dropDeferredItem]

@[simp] theorem dropCalloutItem_frame (n : Nat) (k : CalloutKind) (i : CalloutItem) (s : State) :
    (dropCalloutItem n k i s).su = s.su ∧ (dropCalloutItem n k i s).flc = s.flc ∧
    (dropCalloutItem n k i s).tb = s.tb ∧ (dropCalloutItem n k i s).rm = s.rm ∧
    (dropCalloutItem n k i s).phase = s.phase ∧ (dropCalloutItem n k i s).owed = s.owed ∧
    (dropCalloutItem n k i s).pending = s.pending := by
  unfold dropCalloutItem
  split
  · simp
  · split
    · split <;> simp
    · simp

@[simp] theorem dropItem_frame (n : Nat) (k : CalloutKind) (i : CalloutItem) (s : State) :
    (dropItem n k i s).su = s.su ∧ (dropItem n k i s).flc = s.flc ∧ (dropItem n k i s).tb = s.tb ∧
    (dropItem n k i s).rm = s.rm ∧ (dropItem n k i s).phase = s.phase ∧ (dropItem n k i s).owed = s.owed ∧
    (dropItem n k i s).pending = s.pending := by
  simp [dropItem]

/-- What a condition's onset and clear, a command's issue and a promotion touch. -/
@[simp] theorem tellOnset_frame (n : Nat) (k : ConditionKind) (s : State) :
    (tellOnset n k s).su = s.su ∧ (tellOnset n k s).flc = s.flc ∧ (tellOnset n k s).tb = s.tb ∧
    (tellOnset n k s).rm = s.rm ∧ (tellOnset n k s).phase = s.phase ∧ (tellOnset n k s).owed = s.owed ∧
    (tellOnset n k s).pending = s.pending := by
  unfold tellOnset
  dsimp only
  split
  · simp
  · split <;> simp

@[simp] theorem addCondition_frame (n : Nat) (k : ConditionKind) (s : State) :
    (addCondition n k s).su = s.su ∧ (addCondition n k s).flc = s.flc ∧ (addCondition n k s).tb = s.tb ∧
    (addCondition n k s).rm = s.rm ∧ (addCondition n k s).phase = s.phase ∧ (addCondition n k s).owed = s.owed ∧
    (addCondition n k s).pending = s.pending := by
  unfold addCondition
  dsimp only
  split <;> simp

@[simp] theorem tellCleared_frame (n : Nat) (k : ConditionKind) (s : State) :
    (tellCleared n k s).su = s.su ∧ (tellCleared n k s).flc = s.flc ∧ (tellCleared n k s).tb = s.tb ∧
    (tellCleared n k s).rm = s.rm ∧ (tellCleared n k s).phase = s.phase ∧ (tellCleared n k s).owed = s.owed ∧
    (tellCleared n k s).pending = s.pending := by
  unfold tellCleared
  split <;> simp

@[simp] theorem silenceRunOut_frame (n : Nat) (s : State) :
    (silenceRunOut n s).su = s.su ∧ (silenceRunOut n s).flc = s.flc ∧ (silenceRunOut n s).tb = s.tb ∧
    (silenceRunOut n s).rm = s.rm ∧ (silenceRunOut n s).phase = s.phase ∧ (silenceRunOut n s).owed = s.owed ∧
    (silenceRunOut n s).pending = s.pending := by
  simp [silenceRunOut]

@[simp] theorem issue_frame (n : Nat) (c : Command) (s : State) :
    (issue n c s).su = s.su ∧ (issue n c s).tb = s.tb ∧ (issue n c s).rm = s.rm ∧ (issue n c s).phase = s.phase ∧
    (issue n c s).owed = s.owed ∧ (issue n c s).pending = s.pending := by
  unfold issue
  dsimp only
  split <;> simp

@[simp] theorem promote_frame (n : Nat) (h : Handle) (s : State) :
    (promote n h s).su = s.su ∧ (promote n h s).tb = s.tb ∧ (promote n h s).rm = s.rm ∧
    (promote n h s).phase = s.phase ∧ (promote n h s).owed = s.owed ∧ (promote n h s).pending = s.pending := by
  simp [promote]

@[simp] theorem promotionCheck_frame (n : Nat) (s : State) :
    (promotionCheck n s).su = s.su ∧ (promotionCheck n s).tb = s.tb ∧ (promotionCheck n s).rm = s.rm ∧
    (promotionCheck n s).phase = s.phase ∧ (promotionCheck n s).owed = s.owed ∧
    (promotionCheck n s).pending = s.pending := by
  unfold promotionCheck
  split
  · simp
  · split <;> simp

@[simp] theorem removeCondition_frame (n : Nat) (k : ConditionKind) (s : State) :
    (removeCondition n k s).su = s.su ∧ (removeCondition n k s).tb = s.tb ∧ (removeCondition n k s).rm = s.rm ∧
    (removeCondition n k s).phase = s.phase ∧ (removeCondition n k s).owed = s.owed ∧
    (removeCondition n k s).pending = s.pending := by
  unfold removeCondition
  dsimp only
  split
  · split <;> simp
  · simp

@[simp] theorem setSupplyOut_frame (n : Nat) (l : Lane) (o : Bool) (s : State) :
    (setSupplyOut n l o s).su = s.su ∧ (setSupplyOut n l o s).tb = s.tb ∧ (setSupplyOut n l o s).rm = s.rm ∧
    (setSupplyOut n l o s).phase = s.phase ∧ (setSupplyOut n l o s).owed = s.owed ∧
    (setSupplyOut n l o s).pending = s.pending := by
  unfold setSupplyOut
  dsimp only
  split <;> simp

@[simp] theorem detachRequeue_frame (n : Nat) (s : State) :
    (detachRequeue n s).su = s.su ∧ (detachRequeue n s).tb = s.tb ∧ (detachRequeue n s).rm = s.rm ∧
    (detachRequeue n s).phase = s.phase ∧ (detachRequeue n s).owed = s.owed ∧
    (detachRequeue n s).pending = s.pending := by
  unfold detachRequeue
  refine foldl_keeps _ (fun a b =>
    b.su = a.su ∧ b.tb = a.tb ∧ b.rm = a.rm ∧ b.phase = a.phase ∧ b.owed = a.owed ∧
    b.pending = a.pending) ?_ ?_ ?_ _ s
  · intro a; simp
  · intro a b c h k; simp_all
  · intro a t
    try dsimp only
    simp

/-- What a change of a lane touches: every group but the time base, the retained memory and the model's own. -/
@[simp] theorem claimEffect_frame (n : Nat) (l : Lane) (a b : LaneState) (s : State) :
    (claimEffect n l a b s).tb = s.tb ∧ (claimEffect n l a b s).rm = s.rm ∧ (claimEffect n l a b s).phase = s.phase ∧
    (claimEffect n l a b s).owed = s.owed ∧ (claimEffect n l a b s).pending = s.pending := by
  unfold claimEffect
  split
  · simp
  · split <;> simp

@[simp] theorem calloutEffect_frame (n : Nat) (l : Lane) (a b : LaneState) (s : State) :
    (calloutEffect n l a b s).su = s.su ∧ (calloutEffect n l a b s).flc = s.flc ∧
    (calloutEffect n l a b s).tb = s.tb ∧ (calloutEffect n l a b s).rm = s.rm ∧
    (calloutEffect n l a b s).phase = s.phase ∧ (calloutEffect n l a b s).owed = s.owed ∧
    (calloutEffect n l a b s).pending = s.pending := by
  unfold calloutEffect
  split
  · simp
  · split <;> simp

@[simp] theorem supplyOutEffect_frame (n : Nat) (l : Lane) (a b : LaneState) (s : State) :
    (supplyOutEffect n l a b s).su = s.su ∧ (supplyOutEffect n l a b s).tb = s.tb ∧
    (supplyOutEffect n l a b s).rm = s.rm ∧ (supplyOutEffect n l a b s).phase = s.phase ∧
    (supplyOutEffect n l a b s).owed = s.owed ∧ (supplyOutEffect n l a b s).pending = s.pending := by
  unfold supplyOutEffect
  split
  · simp
  · split <;> simp

@[simp] theorem laneEffects_frame (n : Nat) (l : Lane) (a b : LaneState) (s : State) :
    (laneEffects n l a b s).tb = s.tb ∧ (laneEffects n l a b s).rm = s.rm ∧ (laneEffects n l a b s).phase = s.phase ∧
    (laneEffects n l a b s).owed = s.owed ∧ (laneEffects n l a b s).pending = s.pending := by
  simp [laneEffects]

@[simp] theorem recompute_frame (n : Nat) (l : Lane) (s : State) :
    (recompute n l s).tb = s.tb ∧ (recompute n l s).rm = s.rm ∧ (recompute n l s).phase = s.phase ∧
    (recompute n l s).owed = s.owed ∧ (recompute n l s).pending = s.pending := by
  unfold recompute
  split
  · simp
  · dsimp only
    split <;> simp

@[simp] theorem deduct_frame (n : Nat) (l : Lane) (p w : Nat) (s : State) :
    (deduct n l p w s).tb = s.tb ∧ (deduct n l p w s).rm = s.rm ∧ (deduct n l p w s).phase = s.phase ∧
    (deduct n l p w s).owed = s.owed ∧ (deduct n l p w s).pending = s.pending := by
  unfold deduct
  split
  · simp
  · dsimp only
    split <;> simp

@[simp] theorem deductPages_frame (n : Nat) (p : PerClass Nat) (k : Nat) (c : Option Nat) (s : State) :
    (deductPages n p k c s).tb = s.tb ∧ (deductPages n p k c s).rm = s.rm ∧ (deductPages n p k c s).phase = s.phase ∧
    (deductPages n p k c s).owed = s.owed ∧ (deductPages n p k c s).pending = s.pending := by
  simp [deductPages, Lane.all]

@[simp] theorem takeReading_frame (n : Nat) (l : Lane) (e : LaneReading) (s : State) :
    (takeReading n l e s).tb = s.tb ∧ (takeReading n l e s).rm = s.rm ∧ (takeReading n l e s).phase = s.phase ∧
    (takeReading n l e s).owed = s.owed ∧ (takeReading n l e s).pending = s.pending := by
  unfold takeReading
  split <;> simp

@[simp] theorem install_frame (n : Nat) (l : Lane) (s : State) :
    (install n l s).tb = s.tb ∧ (install n l s).rm = s.rm ∧ (install n l s).phase = s.phase ∧
    (install n l s).owed = s.owed ∧ (install n l s).pending = s.pending := by
  unfold install settleInstalled
  split
  · simp
  · split
    · simp
    · dsimp only
      split
      · simp
      · split <;> simp

@[simp] theorem changeLaneType_frame (n : Nat) (l : Lane) (t : Nat) (s : State) :
    (changeLaneType n l t s).tb = s.tb ∧ (changeLaneType n l t s).rm = s.rm ∧
    (changeLaneType n l t s).phase = s.phase ∧ (changeLaneType n l t s).owed = s.owed ∧
    (changeLaneType n l t s).pending = s.pending := by
  unfold changeLaneType
  split
  · simp
  · split
    · simp
    · simp only [claimIfShort, capEstimate, retypeLane]
      repeat' split
      all_goals simp

/-- What a job's end at its printer touches: the same. -/
@[simp] theorem settleEnd_frame (n : Nat) (h : Handle) (s : State) :
    (settleEnd n h s).tb = s.tb ∧ (settleEnd n h s).rm = s.rm ∧ (settleEnd n h s).phase = s.phase ∧
    (settleEnd n h s).owed = s.owed ∧ (settleEnd n h s).pending = s.pending := by
  simp [settleEnd, stopStall]

@[simp] theorem endFinal_frame (n : Nat) (h : Handle) (f : JobState) (r : EndReason) (s : State) :
    (endFinal n h f r s).tb = s.tb ∧ (endFinal n h f r s).rm = s.rm ∧ (endFinal n h f r s).phase = s.phase ∧
    (endFinal n h f r s).owed = s.owed ∧ (endFinal n h f r s).pending = s.pending := by
  simp [endFinal, afterEnd]

@[simp] theorem endInterrupted_frame (n : Nat) (h : Handle) (s : State) :
    (endInterrupted n h s).tb = s.tb ∧ (endInterrupted n h s).rm = s.rm ∧ (endInterrupted n h s).phase = s.phase ∧
    (endInterrupted n h s).owed = s.owed ∧ (endInterrupted n h s).pending = s.pending := by
  unfold endInterrupted interruptEntry afterEnd
  dsimp only
  split <;> simp

@[simp] theorem closeSession_frame (n : Nat) (r : CloseReason) (s : State) :
    (closeSession n r s).su = s.su ∧ (closeSession n r s).tb = s.tb ∧ (closeSession n r s).rm = s.rm ∧
    (closeSession n r s).phase = s.phase ∧ (closeSession n r s).owed = s.owed ∧
    (closeSession n r s).pending = s.pending := by
  simp [closeSession, endSession]

end Sys2Proof.Machine
end

