-- ==== Sys2Proof/Laws/Reports.lean ====
section
/-! SUPPORT. What taking a report or an event does, said once: a report heard plainly reaches its owner on the state that the
presence step leaves (R91, R156). Every report's meaning is `takeReport`, so a proof about one cites these. -/

namespace Sys2Proof.Machine

/-- An event taken with main power present is its action, at the start of an event. -/
theorem takeEvent_on (act : State → State) (s : State) (h : s.phase ≠ .off) :
    takeEvent act s = act { s with phase := .running, out := [] } := by
  unfold takeEvent
  rw [if_neg h]
  rfl

/-- R93: a kind not held leaves nothing behind. -/
theorem removeCondition_absent (n : Nat) (k : ConditionKind) (s : State) (h : (s.printer n).holds k = false) :
    removeCondition n k s = s := by
  simp [removeCondition, h]

/-- R91: the presence step of a report where UNREACHABLE is not held. -/
theorem heard_plain (n : Nat) (s : State) (h : (s.printer n).holds .unreachable = false) :
    heard n s = s.setPrinter n { s.printer n with silence := some (s.printer n).silenceLimit } :=
  removeCondition_absent n .unreachable _ (by simpa [Printer.holds] using h)

/-- R156: a report heard plainly, its fields in range and no HELLO, is taken by its owner. -/
theorem takeReport_plain (l : LinkFrame) (k : ReportKind) (owner : State → State) (s : State) (hk : k ≠ .hello)
    (h : HeardPlainly l s) : takeReport l k true owner s = owner (restarted l.address s) := by
  obtain ⟨⟨hp, hc, ha, he, hq⟩, hu⟩ := h
  unfold takeReport
  rw [if_neg hp]
  have e1 : s.begin.printer l.address = s.printer l.address := rfl
  have ha' : l.address < Config.printers := ha
  simp only [hc, ha', e1, he, hq, hk]
  simp only [and_self, not_true_eq_false, if_false, reduceCtorEq, false_and]
  rw [heard_plain _ _ (by rw [e1]; exact hu)]
  rfl

/-- The records of a state whose printer's silence count was restarted. -/
@[simp] theorem restarted_frame (n : Nat) (s : State) :
    (restarted n s).ports = s.ports ∧ (restarted n s).au = s.au ∧ (restarted n s).jt = s.jt ∧
    (restarted n s).ru = s.ru ∧ (restarted n s).se = s.se ∧ (restarted n s).su = s.su ∧ (restarted n s).cu = s.cu ∧
    (restarted n s).flc = s.flc ∧ (restarted n s).tb = s.tb ∧ (restarted n s).rm = s.rm ∧
    (restarted n s).owed = s.owed ∧ (restarted n s).pending = s.pending ∧ (restarted n s).out = [] ∧
    (restarted n s).phase = .running :=
  ⟨rfl, rfl, rfl, rfl, rfl, rfl, rfl, rfl, rfl, rfl, rfl, rfl, rfl, rfl⟩

/-- A turn depends on its printer's record and its command queue alone. -/
theorem turnFor_congr (s t : State) (a : Nat) (hp : t.printer a = s.printer a) (hc : t.commands a = s.commands a) :
    turnFor t a = turnFor s a := by
  simp [turnFor, greetingRequested, sentCommand, hp, hc]

end Sys2Proof.Machine
end

