-- ==== Sys2Proof/Laws/Requests.lean ====
section
/-! SUPPORT. What taking a request does, said once: the owner sees the request at the head of its queue, and the answer leaves
before the frames the owner sent. Every request's meaning is `request`, so a proof about one cites these. -/

namespace Sys2Proof.Machine

/-- The state an owner sees: nothing sent yet in this event, the request at the head of its queue. -/
def atOwner (h : Head) (r : Request) (s : State) : State :=
  { s with
    phase := .running
    out := []
    ports := s.ports.set h.port
      { s.port h.port with queue := queuedAs h r :: (s.port h.port).queue.drop 1 } }

theorem setPort_eq (s : State) (p : PortName) (r : Port) : s.setPort p r = { s with ports := s.ports.set p r } := rfl

/-- A well-formed body leaves the counts and the kind code to test. -/
@[simp] theorem inForm_true (r : Request) : inForm true r = formOk r := by simp [inForm]

/-- A request whose bytes hold nothing to test is tested for its counts and kind code alone. -/
theorem inForm_untested (w : Bool) (r : Request) (h : formTested r = false) : inForm w r = formOk r := by
  simp [inForm, h]

/-- A request that is next at its port meets the MPC's checks, and its answer is issued. -/
theorem takeRequest_standing (h : Head) (r : Request) (owner : State → State × Answer) (s : State)
    (st : Standing h r s) :
    takeRequest h r owner s =
      issueAnswer h r (serve h r owner (atOwner h r s)).2 (serve h r owner (atOwner h r s)).1 := by
  obtain ⟨hp, hd, hq⟩ := st
  unfold takeRequest
  rw [if_neg hp]
  have hb : (s.begin.port h.port) = s.port h.port := rfl
  simp only [hb, if_neg hd]
  cases hl : (s.port h.port).queue with
  | nil => simp only [atOwner, hl]; rfl
  | cons q rest =>
    have hq' : q = queuedAs h r := by simpa [hl] using hq
    have same : atOwner h r s = s.begin := by
      simp only [atOwner, hl, List.drop_succ_cons, List.drop_zero, ← hq', State.begin]
      congr 1
      rw [← hl]; exact Ports.set_get s.ports h.port
    simp only [if_pos hq', same]

/-- A request that passes the MPC's checks reaches its owner. -/
theorem serve_ready (h : Head) (r : Request) (owner : State → State × Answer) (s : State) (rd : Ready h r s) :
    serve h r owner (atOwner h r s) = owner (atOwner h r s) := by
  obtain ⟨_, hf, ha, hp⟩ := rd
  have hstate : ((atOwner h r s).port h.port).state = (s.port h.port).state := by
    simp [atOwner, State.port]
  have hc : mpcCheck h.port h.wellFormed r (atOwner h r s) = none := by
    unfold mpcCheck State.attached
    rw [hstate]
    rcases ha with ha | ha
    · simp [hf, ha, hp]
    · subst ha; simp [hf, hp]
  simp [serve, hc]

theorem issueAnswer_atOwner (h : Head) (r : Request) (a : Answer) (s : State) :
    issueAnswer h r a (atOwner h r s) = answered h r a s := by
  unfold issueAnswer atOwner answered State.setPort State.port
  simp

/-- What a request's meaning answers when it is taken by its owner. -/
theorem request_ready (h : Head) (r : Request) (owner : State → State × Answer) (s : State) (rd : Ready h r s) :
    request h r owner s =
      .next (issueAnswer h r (owner (atOwner h r s)).2 (owner (atOwner h r s)).1) := by
  unfold request
  rw [takeRequest_standing h r owner s rd.1, serve_ready h r owner s rd]

/-- What a request's meaning answers when one of the MPC's checks fails. -/
theorem request_checked (h : Head) (r : Request) (owner : State → State × Answer) (s : State) (c : RefusalCode)
    (st : Standing h r s) (hc : mpcCheck h.port h.wellFormed r s = some c) :
    request h r owner s = .next (answered h r (.refused c) s) := by
  unfold request
  rw [takeRequest_standing h r owner s st]
  have hstate : ((atOwner h r s).port h.port).state = (s.port h.port).state := by simp [atOwner, State.port]
  have hc' : mpcCheck h.port h.wellFormed r (atOwner h r s) = some c := by
    unfold mpcCheck State.attached at hc ⊢
    rw [hstate]; exact hc
  simp only [serve, hc', refuse]
  rw [issueAnswer_atOwner]

/-- The records an owner sees are those of the state before the request. -/
@[simp] theorem atOwner_frame (h : Head) (r : Request) (s : State) :
    (atOwner h r s).au = s.au ∧ (atOwner h r s).jt = s.jt ∧ (atOwner h r s).ru = s.ru ∧ (atOwner h r s).ft = s.ft ∧
    (atOwner h r s).se = s.se ∧ (atOwner h r s).su = s.su ∧ (atOwner h r s).cu = s.cu ∧ (atOwner h r s).flc = s.flc ∧
    (atOwner h r s).tb = s.tb ∧ (atOwner h r s).rm = s.rm ∧ (atOwner h r s).owed = s.owed ∧
    (atOwner h r s).pending = s.pending ∧ (atOwner h r s).out = [] ∧ (atOwner h r s).phase = .running ∧
    (∀ i, (atOwner h r s).account i = s.account i) ∧ (∀ n, (atOwner h r s).tenant n = s.tenant n) ∧
    (∀ i, (atOwner h r s).job i = s.job i) ∧ (∀ n, (atOwner h r s).finishedList n = s.finishedList n) ∧
    (∀ n, (atOwner h r s).session n = s.session n) ∧ (∀ n, (atOwner h r s).printer n = s.printer n) ∧
    (∀ n l, (atOwner h r s).lane n l = s.lane n l) ∧ (∀ t, (atOwner h r s).ctype t = s.ctype t) ∧
    (∀ n k, (atOwner h r s).grace n k = s.grace n k) ∧ (∀ n, (atOwner h r s).history n = s.history n) ∧
    (∀ a, (atOwner h r s).commands a = s.commands a) ∧ (∀ a, (atOwner h r s).stray a = s.stray a) ∧
    (atOwner h r s).now = s.now :=
  ⟨rfl, rfl, rfl, rfl, rfl, rfl, rfl, rfl, rfl, rfl, rfl, rfl, rfl, rfl, fun _ => rfl, fun _ => rfl, fun _ => rfl,
    fun _ => rfl, fun _ => rfl, fun _ => rfl, fun _ _ => rfl, fun _ => rfl, fun _ _ => rfl, fun _ => rfl, fun _ => rfl,
    fun _ => rfl, rfl⟩

/-- The state, queue apart, of the ports an owner sees. -/
theorem atOwner_port (h : Head) (r : Request) (s : State) (p : PortName) :
    (atOwner h r s).port p =
      if p = h.port then { s.port h.port with queue := queuedAs h r :: (s.port h.port).queue.drop 1 } else s.port p := by
  simp [atOwner, State.port, Ports.get_set]

end Sys2Proof.Machine
end

