-- ==== Sys2Proof/Machine/Answers.lean ====
section
/-! DEFINITION. The frames the part sends on a port (R181): every answer's result fields in the order its rule names them, in
the encodings of section 12.2, and NOTICEs. Widths and codes the spec leaves to layouts it does not give are free values of
Config (log entry 33). -/

namespace Sys2Proof.Machine

/-- One field of an answer: bytes the spec fixes whole, an unsigned number of a free width at a place of the answer, a signed
number, or a value of an enumeration whose codes the spec does not state. -/
inductive AnswerField where
  | bytes (bs : List Byte)
  | number (place : Nat) (n : Option Nat)
  | signed (n : Option Int)
  | coded (table : CodeTable) (value : Option Nat)
  deriving DecidableEq, Repr

/-- A number in 1, 2 or 4 bytes. -/
def spelled (width : Fin 3) (n : Nat) : List Byte :=
  match width with
  | 0 => byte1 n
  | 1 => byte2 n
  | 2 => byte4 n

/-- Section 12.2: a field as sent in the answer to a request of a kind: an absent number is the all-ones value of its width, an
absent signed number −2147483648. -/
def AnswerField.sent (kind : Nat) : AnswerField → List Byte
  | .bytes bs => bs
  | .number place n => spelled (Config.answerWidth kind place) (n.getD 4294967295)
  | .signed n => byte4 (BitVec.ofInt 32 (n.getD (-2147483648))).toNat
  | .coded table value => (value.map (Config.code table)).elim (byte1 255) (fun b => [b])

namespace AnswerField

/-- A number that is present. -/
def num (place n : Nat) : AnswerField := .number place (some n)
/-- A yes/no field. -/
def yesNo (b : Bool) : AnswerField := .bytes (flagByte b)
/-- A badge number or a grant: absent is 0 (section 12.2). -/
def orZero (place : Nat) (n : Option Nat) : AnswerField := .num place (n.getD 0)
/-- A time, absent or not. -/
def time (t : Option Time) : AnswerField := .bytes (timeBytes t)
/-- A handle. -/
def handle (h : Handle) : AnswerField := .bytes (handleBytes h)
/-- A set of two bytes: groups or notice kinds. -/
def set2 (s : BitVec 16) : AnswerField := .bytes (byte2 s.toNat)
/-- A set of condition kinds. -/
def kindSet (s : KindSet) : AnswerField := .bytes (byte1 s.toNat)
/-- A lane. -/
def lane (l : Lane) : AnswerField := .bytes (byte1 l.code)
/-- A set of lanes. -/
def laneSet (s : LaneSet) : AnswerField := .bytes (byte1 s.toNat)
/-- A ceiling: none is UNLIMITED, 4294967295 (section 12.2). -/
def ceiling (c : Option Nat) : AnswerField := .bytes (byte4 (c.getD 4294967295))
/-- A list behind a count equal to its length (R181), the count at a place of the answer. -/
def list {α : Type} (place : Nat) (item : α → List AnswerField) (l : List α) : List AnswerField :=
  .num place l.length :: l.flatMap item
/-- The fields of both classes, MONO first. -/
def perClass (fields : PageClass → List AnswerField) : List AnswerField := fields .mono ++ fields .colour

/-- A port's state. -/
def portState : PortState → AnswerField
  | .down => .coded .portState (some 0) | .detached => .coded .portState (some 1)
  | .attached => .coded .portState (some 2)
/-- A port's name. -/
def portName : PortName → AnswerField
  | .t0 => .coded .portName (some 0) | .t1 => .coded .portName (some 1) | .t2 => .coded .portName (some 2)
  | .t3 => .coded .portName (some 3) | .f => .coded .portName (some 4)
/-- An account's state. -/
def accountState : AccountState → AnswerField
  | .free => .coded .accountState (some 0) | .active => .coded .accountState (some 1)
  | .suspended => .coded .accountState (some 2)
/-- The name of a policy. -/
def policyName : PolicyName → AnswerField
  | .day => .coded .policy (some 0) | .afterHours => .coded .policy (some 1)
/-- The place of a job state in the table of R40. -/
def jobPlace : JobState → Nat
  | .free => 0 | .held => 1 | .queued => 2 | .active => 3 | .cancelling => 4
  | .done => 5 | .cancelled => 6 | .expired => 7 | .failed => 8
/-- A job's state. -/
def jobState (s : JobState) : AnswerField := .coded .jobState (some (jobPlace s))
/-- The place of an end reason in the table of R44. -/
def reasonPlace : EndReason → Nat
  | .complete => 0 | .cancelledByTenant => 1 | .expired => 2 | .interruptLimit => 3 | .printerRemoved => 4
/-- An end reason, absent or not. -/
def endReason (r : Option EndReason) : AnswerField := .coded .endReason (r.map reasonPlace)
/-- An admin state. -/
def adminState : AdminState → AnswerField
  | .inService => .coded .adminState (some 0) | .draining => .coded .adminState (some 1)
  | .outOfService => .coded .adminState (some 2)
/-- A presence. -/
def presence : Presence → AnswerField
  | .unknown => .coded .presence (some 0) | .present => .coded .presence (some 1)
/-- A lane's state. -/
def laneState : LaneState → AnswerField
  | .ok => .coded .laneState (some 0) | .low => .coded .laneState (some 1)
  | .critical => .coded .laneState (some 2) | .empty => .coded .laneState (some 3)
/-- A callout's kind. -/
def calloutKind : CalloutKind → AnswerField
  | .service => .coded .calloutKind (some 0) | .supply => .coded .calloutKind (some 1)
/-- The cause of the last reset. -/
def resetCause : ResetCause → AnswerField
  | .coldPower => .coded .resetCause (some 0) | .coldClear => .coded .resetCause (some 1)
  | .warmLine => .coded .resetCause (some 2) | .warmPower => .coded .resetCause (some 3)
/-- An item of a callout. -/
def item : CalloutItem → AnswerField
  | .condition k => .bytes (byte1 k.code) | .lane l => .lane l

/-- A period timer (R24). -/
def timer (t : PeriodTimer) : List AnswerField :=
  [.coded .timerUnit (some (if t.unit = .minutes then 0 else 1)), num 0 t.length, num 1 t.count, num 2 t.hourStep,
    .coded .timerState (some (if t.running then 0 else 1))]

/-- A policy (R35). -/
def policy (p : Policy) : List AnswerField :=
  [yesNo p.colourAllowed, num 0 p.maxPages, num 1 p.holdTime, yesNo p.overdraftAllowed]

/-- An account record (R12). -/
def account (a : Account) : List AnswerField :=
  [accountState a.state, orZero 0 a.badge] ++
    perClass (fun c =>
      [num 1 (a.allowance.get c), signed (some (a.balance.get c)), num 2 (a.reserved.get c), num 3 (a.used.get c),
        num 4 (a.overdraft.get c), num 5 (a.carryCap.get c), number 6 (a.closingUsed.get c),
        signed (a.closingBalance.get c)]) ++
    [num 7 a.liveJobs, yesNo a.overrun]

/-- A tenant record (R17); no window is an absent base and limit. -/
def tenant (v : TenantView) : List AnswerField :=
  [number 0 (v.window.map Window.base), number 1 (v.window.map Window.limit), num 2 v.share, num 3 v.entries,
    set2 v.groups] ++
    perClass (fun c => [ceiling (v.ceiling.get c), num 4 (v.used.get c), num 5 (v.reserved.get c)]) ++
    [policyName v.active, num 6 v.period]

/-- A job entry (R59). -/
def job (v : JobView) : List AnswerField :=
  [jobState v.state, num 0 v.generation, num 1 v.owner, num 2 v.label] ++ perClass (fun c => [num 3 (v.pages.get c)]) ++
    [num 4 v.kClass, number 5 v.colourClass, set2 v.groups, time (some v.submitted), time (some v.expiry),
      number 6 v.printer, orZero 7 v.grant] ++
    perClass (fun c => [number 8 (v.reservation.map (fun r => r.get c))]) ++
    Lane.all.map (fun l => number 9 (v.needs.map (fun n => n.get l))) ++
    perClass (fun c => [num 10 (v.done.get c)]) ++ perClass (fun c => [num 11 (v.doneAtRelease.get c)]) ++
    [num 12 v.interrupts, endReason v.endReason, time v.finished]

/-- The fields of a printer's record that come before its queue (R82). -/
def printerHead (enrolled : Bool) (floor group : Nat) (colour : Bool) (laneTypes : List (Option Nat))
    (silenceLimit stallLimit : Nat) (admin : AdminState) (presence_ : Presence) (capabilities : Option Capabilities)
    (conditions : Table (Option Onset)) (supplyOut : LaneSet) : List AnswerField :=
  [yesNo enrolled, num 0 floor, num 1 group, yesNo colour] ++ laneTypes.map (number 2) ++
    [num 3 silenceLimit, num 4 stallLimit, adminState admin, presence presence_,
      .bytes (capabilities.elim (byte1 255) (fun c => flagByte c.colour)), number 5 (capabilities.map Capabilities.lanes),
      number 6 (capabilities.map Capabilities.meter)] ++
    list 7 (fun e => [.bytes (byte1 e.1), time (e.2.bind Onset.time)]) conditions ++ [laneSet supplyOut]

/-- The stalled grant (R82): absent is grant 0 and every other field absent. -/
def stalledGrant (g : Option StalledGrant) : List AnswerField :=
  [orZero 8 (g.map StalledGrant.grant), number 9 (g.map StalledGrant.account), number 10 (g.map StalledGrant.kClass),
    number 11 (g.bind StalledGrant.colourClass)] ++
    perClass (fun c => [number 12 (g.map (fun x => x.pages.get c))])

/-- The place of a report kind: its floor kind code, 255 absent, and the rest of a protocol error (R82, R97). -/
def protocolError (e : Option ProtocolError) : List AnswerField :=
  [.bytes (byte1 ((e.map (fun x => x.kind.code)).getD 255)), orZero 13 (e.map ProtocolError.grant),
    time (e.bind ProtocolError.time)]

/-- The fields of a printer's record that come after its queue (R82). -/
def printerTail (silence stall meter : Option Nat) (surplus : Int) (walkup : Nat) (stalled : Option StalledGrant)
    (error : Option ProtocolError) : List AnswerField :=
  [number 14 silence, number 15 stall, number 16 meter, signed (some surplus), num 17 walkup] ++ stalledGrant stalled ++
    protocolError error

/-- A printer record as ENROL answers it (R84): its queue is of handles. -/
def printer (p : Printer) : List AnswerField :=
  printerHead p.enrolled p.floor p.group p.colour (Lane.all.map p.laneTypes.get) p.silenceLimit p.stallLimit p.admin
    p.presence p.capabilities p.conditions p.supplyOut ++ list 18 (fun h => [handle h]) p.queue ++
    printerTail p.silence p.stall p.meter p.surplus p.walkup p.stalled p.protocolError

/-- A printer record as READ_PRINTER answers it (R105): no lane types, its queue of views, and the fault history. -/
def printerView (v : PrinterView) : List AnswerField :=
  printerHead v.enrolled v.floor v.group v.colour [] v.silenceLimit v.stallLimit v.admin v.presence v.capabilities
    v.conditions v.supplyOut ++
    list 18 (fun q => [orZero 19 q.grant, num 20 q.tenant, jobState q.state] ++ perClass (fun c => [num 21 (q.pages.get c)]))
      v.queue ++
    printerTail v.silence v.stall v.meter v.surplus v.walkup v.stalled v.protocolError ++ [kindSet v.history]

/-- A lane record (R106). -/
def laneRecord (x : LaneRecord) : List AnswerField :=
  [num 0 x.type, num 1 x.estimate, num 2 x.fraction, num 3 x.factor, number 4 x.candidate, number 5 x.confirmed,
    yesNo x.emptyFlag, num 6 x.committed, laneState x.state, yesNo x.allocation, yesNo x.waiting, yesNo x.uncounted]

/-- A lane named by printer and letter. -/
def laneName (place : Nat) (w : LaneName) : List AnswerField := [num place w.printer, lane w.lane]

/-- A cartridge type record (R123). -/
def ctype (r : CartridgeType) : List AnswerField :=
  [num 0 r.capacity, num 1 r.reorder, num 2 r.critical, num 3 r.onHand, num 4 r.allocated, num 5 r.level,
    num 6 r.quantity, num 7 r.onOrder, .coded .ordering (some (if r.ordering then 0 else 1))] ++
    list 8 (laneName 9) r.waitList

/-- A purchase order (section 7.4). -/
def order (o : Order) : List AnswerField :=
  [num 0 o.number, num 1 o.type, num 2 o.quantity, .coded .orderState (some (if o.acknowledged then 1 else 0)),
    time o.raised]

/-- A callout (section 8.1). -/
def callout (c : Callout) : List AnswerField :=
  [num 0 c.number, num 1 c.printer, calloutKind c.kind] ++ list 2 (fun i => [item i]) c.items ++
    [num 3 c.level, .coded .calloutState (some (if c.acknowledged then 1 else 0)), time c.raised, time c.deadline]

/-- A deferral (R148). -/
def deferral (d : Deferral) : List AnswerField :=
  [num 1 d.printer, calloutKind d.kind] ++ list 2 (fun i => [item i]) d.items ++ [time d.time]

/-- The wall clock: NOT_SET is an absent time and an absent weekday (R173). -/
def clock (c : Option Clock) : List AnswerField :=
  [time (c.map (fun c => ⟨c.day, c.minute⟩)), number 0 (c.map Clock.weekday)]

/-- The weekly schedule, weekday 0 first (R174). -/
def schedule (l : List DaySpan) : List AnswerField := l.flatMap (fun d => [num 1 d.start, num 2 d.finish])

/-- The notice fields of an answer, in the order R169 names them: SET_NOTICE_MASK the mask and the flags, READ_NOTICES (kind
code 5) the flags and the mask. -/
def notices (kind : Nat) (mask flags : NoticeSet) : List AnswerField :=
  if kind = 5 then [set2 flags, set2 mask] else [set2 mask, set2 flags]

/-- The result fields of an ACCEPTED answer to a request of a kind, in the order its rule names them. Choices of the model (log
entry 33, DESIGN CHOICE): R161 names a number of commands for each enrolled address, and the model leads these numbers with
their count and sends the address before each; R121 and R106 name no lane letter, and READ_LANES' answer leads its lane records with
their count and sends the lane's code before each, where SET_LANE_TYPE's record is sent without it; R170 names no order of
the ports and no port name among their fields, and READ_PORTS sends T0, T1, T2, T3, F; a printer's SUPPLY_OUT lanes follow its
condition set; READ_PRINTER's queue entries stand where R82 has the dispatch queue. -/
def ofResult (kind : Nat) : Result → List AnswerField
  | .none => []
  | .attached family revision port => [num 0 family, num 1 revision, portName port]
  | .notices mask flags => notices kind mask flags
  | .flags flags => [set2 flags]
  | .ports views => views.flatMap (fun v => [portState v.state, num 0 v.queued, set2 v.flags, set2 v.mask])
  | .index i => [num 0 i]
  | .limits allowance overdraft cap =>
    perClass (fun c => [num 0 (allowance.get c), num 1 (overdraft.get c), num 2 (cap.get c)])
  | .balance b => [signed (some b)]
  | .account a => account a
  | .closing used balance period =>
    perClass (fun c => [number 0 (used.get c), signed (balance.get c)]) ++ [number 1 period]
  | .tenant v => tenant v
  | .timer t => timer t
  | .period n => [num 0 n]
  | .periodView v => timer v.timer ++ [yesNo v.counting, num 3 v.minutesToRollover, num 4 v.period]
  | .policy p => policy p
  | .policies d a active => policy d ++ policy a ++ [policyName active]
  | .submitted job groups submitted expiry =>
    [handle job, set2 groups, time (some submitted), time (some expiry), .bytes (byte1 0)]
  | .jobState s => [jobState s]
  | .finished count jobs =>
    num 0 count :: list 1 (fun v => [handle v.job, num 2 v.owner, num 3 v.label, endReason v.reason, time v.finished]) jobs
  | .collected reason done => endReason reason :: perClass (fun c => [num 0 (done.get c)])
  | .job v => job v
  | .active jobs =>
    list 0 (fun v => [handle v.job, num 1 v.label, num 2 v.printer, orZero 3 v.grant] ++
      perClass (fun c => [num 4 (v.pages.get c)])) jobs
  | .panelTimeout minutes => [num 0 minutes]
  | .enrolled p => printer p
  | .admin a => [adminState a]
  | .flushed jobs => [num 0 jobs]
  | .printerTimers silence stall => [num 0 silence, num 1 stall]
  | .walkup margin coverage => [num 0 margin, num 1 coverage]
  | .printer v => printerView v
  | .weights k colour tolerance rebase => k.map (num 0) ++ colour.map (num 1) ++ [num 2 tolerance, num 3 rebase]
  | .lanes views =>
    list 7 (fun v => lane v.lane :: laneRecord v.record ++ [num 8 v.effective, num 9 v.percent, num 10 v.capacity]) views
  | .uncounted count lanes => num 0 count :: list 1 (laneName 2) lanes
  | .type r => ctype r
  | .stock onHand allocated onOrder waiting position =>
    [num 0 onHand, num 1 allocated, num 2 onOrder, num 3 waiting, signed (some position)]
  | .received onHand allocated onOrder raised => [num 0 onHand, num 1 allocated, num 2 onOrder, number 3 raised]
  | .lane record => record.elim [] laneRecord
  | .order o => order o
  | .typeView v =>
    ctype v.record ++ [signed (some v.position), yesNo v.deferralPlace.isSome, number 10 v.deferralPlace, num 11 v.lanes,
      num 12 v.lanesAllocated]
  | .orders count orders deferred => num 3 count :: orders.flatMap order ++ [num 4 deferred]
  | .settings graceTimes escalation => graceTimes.map (num 0) ++ [num 1 escalation]
  | .callout c => callout c
  | .history kinds => [kindSet kinds]
  | .callouts count callouts deferred deferrals graceTimes escalation =>
    num 4 count :: callouts.flatMap callout ++ num 5 deferred :: list 6 deferral deferrals ++ graceTimes.map (num 7) ++
      [num 8 escalation]
  | .link count strays queues =>
    num 0 count :: strays.flatMap (fun v => [num 1 v.address, .bytes (byte1 v.kind.code), time v.time]) ++
      list 2 (fun q => [num 3 q.1, num 4 q.2]) queues
  | .straysLeft count => [num 0 count]
  | .clock c active => clock c ++ [policyName active]
  | .schedule l active => schedule l ++ [policyName active]
  | .clockView c second active l cause => clock c ++ [num 3 second, policyName active] ++ schedule l ++ [resetCause cause]

end AnswerField

/-- Section 12.4: the body of the answer to a request of a kind: the status byte, then the refusal code or the result
fields. -/
def answerBody (kind : Nat) : Answer → List Byte
  | .refused c => byte1 1 ++ byte1 c.code
  | .accepted r => byte1 0 ++ (AnswerField.ofResult kind r).flatMap (AnswerField.sent kind)

/-- R181: the bytes of a frame the part sends on a port. -/
def portFrameBytes : PortFrame → List Byte
  | .answer tag kind a => portFrame 2 kind tag (answerBody kind a)
  | .notice kinds => portFrame 3 0 0 (byte2 kinds.toNat)

end Sys2Proof.Machine
end

