-- ==== Sys2Proof/Machine/Bodies.lean ====
section
/-! DEFINITION. Request frames read (R178, R179): the fields of every kind's body in the order its rule names them, in the
encodings of section 12.2, with the tests R179 makes of them. What the spec leaves to layouts it does not give, the width
of a number, a code, is a free value of Config (log entry 33). -/

namespace Sys2Proof.Machine

/-- Where the reading of a body stands: the bytes left, the bytes read past its end, and whether every enumerated and yes/no
field so far held a defined code. -/
structure BodyReading where
  rest : List Byte
  missing : Nat
  defined : Bool
  deriving DecidableEq, Repr

/-- A reader of a body's next fields. -/
abbrev Reader (α : Type) := StateM BodyReading α

namespace Body

/-- The next byte; past the end, a free value. -/
def byte : Reader Byte := fun r =>
  match r.rest with
  | b :: rest => (b, { r with rest := rest })
  | [] => (Config.missingByte r.missing, { r with missing := r.missing + 1 })

/-- The next one byte as a number. -/
def number1 : Reader Nat := do return (← byte).toNat

/-- The next two bytes as a number. -/
def number2 : Reader Nat := do
  let a ← byte
  let b ← byte
  return read2 a b

/-- The next four bytes as a number. -/
def number4 : Reader Nat := do
  let a ← byte
  let b ← byte
  let c ← byte
  let d ← byte
  return read4 a b c d

/-- An unsigned number, the field at a place of a kind's body; its width is a free value. -/
def number (kind place : Nat) : Reader Nat :=
  match Config.requestWidth kind place with
  | 0 => number1
  | 1 => number2
  | 2 => number4

/-- A signed number: four bytes, two's complement (section 12.2). -/
def signed : Reader Int := do return (BitVec.ofNat 32 (← number4)).toInt

/-- A field, and whether the body carries all of it: R179 tests no field that is not present. -/
def carried {α : Type} (field : Reader α) : Reader (α × Bool) := do
  let before ← get
  let x ← field
  return (x, (← get).missing == before.missing)

/-- A field that failed R179's tests. -/
def undefined {α : Type} (x : α) : Reader α := fun r => (x, { r with defined := false })

/-- An enumerated field: the value whose code the byte is; a byte that is no value's code fails the form. Past the body's end
nothing is tested, and the free byte stands for one of the values. -/
def coded {α : Type} (values : List α) (code : α → Byte) (else_ : α) : Reader α := do
  let (b, whole) ← carried byte
  if whole then
    match values.find? (fun x => code x == b) with
    | some x => return x
    | none => undefined else_
  else return values.getD (b.toNat % values.length) else_

/-- A yes/no field: 0 or 1 (section 12.2). -/
def yesNo : Reader Bool := coded [false, true] (fun b => if b then 1#8 else 0#8) false

/-- An optional field (section 12.2): carried in every case; one that is not present is not tested. -/
def optional {α : Type} (present : Bool) (field : Reader α) : Reader (Option α) := do
  let before ← get
  let x ← field
  if present then return some x
  else
    modify (fun r => { r with defined := before.defined })
    return none

/-- A field that may name no number. -/
def orNone (kind place : Nat) : Reader (Option Nat) := do
  let n ← number kind place
  return if Config.spellsNone kind place n then none else some n

/-- A handle (section 12.2). -/
def handle : Reader Handle := do return ⟨← number1, ← number1⟩

/-- A page class (section 12.2). -/
def pageClass : Reader PageClass := coded [.mono, .colour] (fun c => if c = .mono then 0#8 else 1#8) .mono

/-- A lane (section 12.2). -/
def lane : Reader Lane := coded Lane.all (fun l => BitVec.ofNat 8 l.code) .k

/-- A condition kind (section 12.2). -/
def conditionKind : Reader ConditionKind :=
  coded [.jam, .doorOpen, .paperOut, .hardware, .unreachable, .mismatch, .meterFault, .supplyOut]
    (fun k => BitVec.ofNat 8 k.code) .jam

/-- A policy's name; its codes are free values. -/
def policyName : Reader PolicyName :=
  coded [.day, .afterHours] (fun p => Config.code .policy (if p = .day then 0 else 1)) .day

/-- A timer's unit; its codes are free values. -/
def timerUnit : Reader TimerUnit :=
  coded [.minutes, .hours] (fun u => Config.code .timerUnit (if u = .minutes then 0 else 1)) .minutes

/-- The place of an admin state in its table. -/
def adminPlace : AdminState → Nat
  | .inService => 0 | .draining => 1 | .outOfService => 2

/-- An admin state; its codes are free values. -/
def adminState : Reader AdminState :=
  coded [.inService, .draining, .outOfService] (fun a => Config.code .adminState (adminPlace a)) .inService

/-- A number of fields of one form, one after another. -/
def times {α : Type} (field : Reader α) : Nat → Reader (List α)
  | 0 => return []
  | n + 1 => return (← field) :: (← times field n)

/-- The limits of one class, from a place of the body on (R5). -/
def limits (kind place : Nat) : Reader Limits := do
  return ⟨← number kind place, ← number kind (place + 1), ← number kind (place + 2)⟩

/-- The optional limits of one class, from a presence bit and a place on (R6). -/
def limitChanges (kind : Nat) (presence : Byte) (bit place : Nat) : Reader LimitChanges := do
  return ⟨← optional (presence.getLsbD bit) (number kind place),
    ← optional (presence.getLsbD (bit + 1)) (number kind (place + 1)),
    ← optional (presence.getLsbD (bit + 2)) (number kind (place + 2))⟩

/-- An entry of SET_SCHEDULE (R174). -/
def scheduleEntry (kind : Nat) : Reader ScheduleEntry := do
  return ⟨← number kind 1, ← number kind 2, ← number kind 3⟩

/-- The number of entries of SET_SCHEDULE that are read behind a count: none where it is out of its bounds, which fails the
form. A count the body does not carry whole is not tested, and is a free value of its bounds 1..7. -/
def scheduleLength (count : Nat × Bool) : Nat :=
  if !count.2 then 1 + count.1 % 7 else if inRange 1 7 count.1 then count.1 else 0

/-- The entries of SET_SCHEDULE behind their count. -/
def schedule (kind : Nat) : Reader (List ScheduleEntry) := do
  times (scheduleEntry kind) (scheduleLength (← carried (number kind 0)))

/-- The tenant of a read request: carried on port F alone (R17, R34, R39). -/
def tenantOn (p : PortName) (kind : Nat) : Reader Nat :=
  match p.tenant with
  | some n => return n
  | none => number kind 0

/-- The body of a port or account request, by its kind code (chapters 1 and 10). The spec lays out no body for OPEN_ACCOUNT; the
model reads its fields in the order R5 names them: index, the limits of MONO and of COLOUR, then the badge (log entry 33,
DESIGN CHOICE). -/
def accountFields (p : PortName) (kind : Nat) : Reader Request := do
  match kind with
  | 1 => return .attach
  | 2 => return .detach
  | 3 => return .setNoticeMask (BitVec.ofNat 16 (← number2))
  | 4 => return .ackNotice (BitVec.ofNat 16 (← number2))
  | 5 => return .readNotices
  | 6 => return .readPorts
  | 16 =>
    let presence ← byte
    let index ← number kind 0
    let mono ← limits kind 1
    let colour ← limits kind 4
    return .openAccount index (← optional (presence.getLsbD 0) (number kind 7)) ⟨mono, colour⟩
  | 17 =>
    let presence ← byte
    let index ← number kind 0
    return .setAccount index ⟨← limitChanges kind presence 0 1, ← limitChanges kind presence 3 4⟩
  | 18 => return .setBadge (← number kind 0) (← number kind 1)
  | 19 => return .clearBadge (← number kind 0)
  | 20 => return .suspendAccount (← number kind 0)
  | 21 => return .resumeAccount (← number kind 0)
  | 22 => return .closeAccount (← number kind 0)
  | 23 => return .adjustBalance (← number kind 0) (← pageClass) (← signed)
  | 24 => return .readAccount (← number kind 0)
  | 25 => return .readClosing (← number kind 0)
  | 26 => return .readTenant (← tenantOn p kind)
  | 27 =>
    let tenant ← number kind 0
    let base ← orNone kind 1
    let limit ← number kind 2
    return .assignTenant tenant (base.map (fun b => ⟨b, limit⟩)) (← number kind 3) (BitVec.ofNat 16 (← number2))
  | 28 =>
    let tenant ← number kind 0
    let cls ← pageClass
    let ceiling ← number4
    return .setCeiling tenant cls (if ceiling = 4294967295 then none else some ceiling)
  | _ => return .unknown kind

/-- The body of a period, policy or job request, by its kind code (chapters 2 to 4); SUBMIT's is `readSubmission`. -/
def jobFields (p : PortName) (kind : Nat) : Reader Request := do
  match kind with
  | 32 => return .closePeriod
  | 33 =>
    let presence ← byte
    let policy ← policyName
    return .setPolicy policy
      ⟨← optional (presence.getLsbD 0) yesNo, ← optional (presence.getLsbD 1) (number kind 0),
        ← optional (presence.getLsbD 2) (number kind 1), ← optional (presence.getLsbD 3) yesNo⟩
  | 34 => return .readPeriod (← tenantOn p kind)
  | 35 => return .readPolicy (← tenantOn p kind)
  | 36 => return .setPeriodTimer (← number kind 0) (← timerUnit) (← number kind 1)
  | 37 => return .startTimer (← number kind 0)
  | 38 => return .stopTimer (← number kind 0)
  | 49 => return .cancel (← handle)
  | 50 => return .listFinished
  | 51 => return .collect (← handle)
  | 52 => return .readJob (← handle)
  | 53 => return .listActive
  | 56 => return .setPanelTimeout (← number kind 0)
  | _ => accountFields p kind

/-- The body of a fleet or lane request, by its kind code (chapters 5 and 6). -/
def fleetFields (p : PortName) (kind : Nat) : Reader Request := do
  match kind with
  | 64 =>
    let printer ← number kind 0
    let floor ← number kind 1
    let group ← number kind 2
    let colour ← yesNo
    return .enrol printer
      ⟨floor, group, colour, ⟨← orNone kind 3, ← orNone kind 4, ← orNone kind 5, ← orNone kind 6⟩⟩
  | 65 => return .unenroll (← number kind 0)
  | 66 => return .setAdmin (← number kind 0) (← adminState)
  | 67 => return .flushPrinter (← number kind 0)
  | 68 =>
    let presence ← byte
    let printer ← number kind 0
    return .setPrinterTimers printer (← optional (presence.getLsbD 0) (number kind 1))
      (← optional (presence.getLsbD 1) (number kind 2))
  | 69 =>
    let presence ← byte
    return .setWalkup (← optional (presence.getLsbD 0) (number kind 0)) (← optional (presence.getLsbD 1) (number kind 1))
  | 70 => return .clearCondition (← number kind 0) (← conditionKind)
  | 71 => return .readPrinter (← number kind 0)
  | 80 =>
    let presence ← byte
    return .setWeights (← optional (presence.getLsbD 0) (times (number kind 0) 8))
      (← optional (presence.getLsbD 1) (times (number kind 1) 8))
  | 81 =>
    let presence ← byte
    return .setEstimator (← optional (presence.getLsbD 0) (number kind 0))
      (← optional (presence.getLsbD 1) (number kind 1))
  | 82 => return .readWeights
  | 83 => return .readLanes (← number kind 0)
  | 84 => return .setFactor (← number kind 0) (← lane) (← number kind 1)
  | 85 => return .listUncounted
  | 86 => return .ackUncounted (← number kind 0) (← lane)
  | _ => jobFields p kind

/-- The body of any request but SUBMIT, by its kind code (chapters 7 to 11 and the chapters above). R173 names SET_CLOCK's
day, minute of day and weekday as three numbers with ranges of their own: the model reads each at a width that is a free
value, and not the first two as a Time of section 12.2, which the clock in answers is (log entry 33, DESIGN CHOICE). -/
def fields (p : PortName) (kind : Nat) : Reader Request := do
  match kind with
  | 96 =>
    let presence ← byte
    let type ← number kind 0
    return .setType type
      ⟨← optional (presence.getLsbD 0) (number kind 1), ← optional (presence.getLsbD 1) (number kind 2),
        ← optional (presence.getLsbD 2) (number kind 3), ← optional (presence.getLsbD 3) (number kind 4),
        ← optional (presence.getLsbD 4) (number kind 5)⟩
  | 97 => return .adjustStock (← number kind 0) (← number kind 1)
  | 98 => return .setLaneType (← number kind 0) (← lane) (← number kind 1)
  | 99 => return .ackOrder (← number kind 0)
  | 100 => return .receiveOrder (← number kind 0) (← number kind 1)
  | 101 => return .cancelOrder (← number kind 0)
  | 102 => return .readType (← number kind 0)
  | 103 => return .listOrders
  | 112 => return .setGrace (← conditionKind) (← number kind 0)
  | 113 => return .setEscalation (← number kind 0)
  | 114 => return .ackCallout (← number kind 0)
  | 115 => return .clearHistory (← number kind 0) (← byte)
  | 116 => return .listCallouts
  | 120 => return .readLink
  | 121 => return .clearStray (← orNone kind 0)
  | 128 => return .setClock (← number kind 0) (← number kind 1) (← number kind 2)
  | 129 => return .setSchedule (← schedule kind)
  | 130 => return .clearAll
  | 131 => return .readClock
  | _ => fleetFields p kind

end Body

/-- R179: the request a frame's body spells at a port, and whether its bytes pass the rule's tests. A SUBMIT of another length
than its layout gives is not well formed, and its fields are not read; a kind code that is no request code stays as received
(`formOk` refuses it). -/
def readRequest (p : PortName) (kind tag : Nat) (body : List Byte) : QueuedRequest :=
  if kind = 48 then
    match readSubmission body with
    | some j => ⟨tag, true, .submit j⟩
    | none => ⟨tag, false, .submit ⟨0, 0, .both 0, 0, none, 0⟩⟩
  else
    let x := (Body.fields p kind).run ⟨body, 0, true⟩
    ⟨tag, x.2.defined, x.1⟩

/-- R178, R179: a row of bytes arriving at a port as the frame REQUEST_FRAME_ARRIVAL carries. -/
def frameArriving (p : PortName) (bytes : List Byte) : RequestFrame :=
  match readPortFrame bytes with
  | some (kind, tag, body) => ⟨true, readRequest p kind tag body⟩
  | none => ⟨false, ⟨0, false, .unknown 0⟩⟩

end Sys2Proof.Machine
end

