-- ==== Sys2Proof/Tests/Slice0.lean ====
section
/-! SUPPORT. The model's own tests: ill-formed commands refused, the wire, figures the manual works out,
and for every statement of Obligations.lean a state and operands that meet the hypotheses of each of its clauses. -/

namespace Sys2Proof.Tests

open Sys2Proof Sys2Proof.Machine

/-- A request head: a port, tag 1, a well-formed body. -/
def hd (p : PortName) : Head := ⟨p, 1, true⟩
/-- A report frame of an address, its check agreeing. -/
def lf (n : Nat) : LinkFrame := ⟨n, true⟩

/-! ### Well-formed commands -/

theorem test_wf_accepts : Instr.wf (.readAccount (hd .t0) 2000) = true ∧ Instr.wf (.badge (lf 63) 4294967295) = true ∧
    Instr.wf (.setClock (hd .f) 0 0 0) = true := by decide

theorem test_wf_tag : Instr.wf (.attach ⟨.f, 65536, true⟩) = false := by decide

theorem test_wf_account_fields :
    Instr.wf (.readAccount (hd .t0) 4294967296) = false ∧
    Instr.wf (.openAccount (hd .t0) 0 (some 4294967296) ⟨⟨0, 0, 0⟩, ⟨0, 0, 0⟩⟩) = false ∧
    Instr.wf (.openAccount (hd .t0) 0 none ⟨⟨0, 0, 4294967296⟩, ⟨0, 0, 0⟩⟩) = false ∧
    Instr.wf (.setAccount (hd .t0) 0 ⟨⟨some 4294967296, none, none⟩, ⟨none, none, none⟩⟩) = false ∧
    Instr.wf (.setBadge (hd .t0) 0 4294967296) = false ∧
    Instr.wf (.adjustBalance (hd .t0) 0 .mono 2147483648) = false ∧
    Instr.wf (.adjustBalance (hd .t0) 0 .mono (-2147483648)) = true ∧
    Instr.wf (.adjustBalance (hd .t0) 0 .mono (-2147483649)) = false ∧
    Instr.wf (.readTenant (hd .f) 4294967296) = false ∧
    Instr.wf (.assignTenant (hd .f) 0 (some ⟨0, 4294967296⟩) 0 0) = false ∧
    Instr.wf (.setCeiling (hd .f) 0 .mono (some 4294967296)) = false ∧
    Instr.wf (.setPolicy (hd .t0) .day ⟨none, some 4294967296, none, none⟩) = false ∧
    Instr.wf (.setPeriodTimer (hd .f) 0 .hours 4294967296) = false := by decide

theorem test_wf_job_and_fleet_fields :
    Instr.wf (.submit (hd .t0) ⟨0, 0, ⟨65536, 0⟩, 0, none, 0⟩) = false ∧
    Instr.wf (.submit (hd .t0) ⟨0, 0, ⟨0, 0⟩, 256, none, 0⟩) = false ∧
    Instr.wf (.submit (hd .t0) ⟨0, 0, ⟨0, 0⟩, 0, some 255, 0⟩) = false ∧
    Instr.wf (.cancel (hd .t0) ⟨256, 0⟩) = false ∧
    Instr.wf (.setPanelTimeout (hd .f) 4294967296) = false ∧
    Instr.wf (.enrol (hd .f) 0 ⟨4294967296, 0, false, .each none⟩) = false ∧
    Instr.wf (.enrol (hd .f) 0 ⟨0, 0, false, .each (some 4294967296)⟩) = false ∧
    Instr.wf (.unenroll (hd .f) 4294967296) = false ∧
    Instr.wf (.setPrinterTimers (hd .f) 0 none (some 4294967296)) = false ∧
    Instr.wf (.setWalkup (hd .f) (some 4294967296) none) = false ∧
    Instr.wf (.setWeights (hd .f) (some [4294967296]) none) = false ∧
    Instr.wf (.setFactor (hd .f) 0 .k 4294967296) = false ∧
    Instr.wf (.ackUncounted (hd .f) 4294967296 .k) = false := by decide

theorem test_wf_service_fields :
    Instr.wf (.setType (hd .f) 0 ⟨some 4294967296, none, none, none, none⟩) = false ∧
    Instr.wf (.adjustStock (hd .f) 0 4294967296) = false ∧ Instr.wf (.setLaneType (hd .f) 0 .k 4294967296) = false ∧
    Instr.wf (.ackOrder (hd .f) 4294967296) = false ∧ Instr.wf (.receiveOrder (hd .f) 0 4294967296) = false ∧
    Instr.wf (.setGrace (hd .f) .jam 4294967296) = false ∧ Instr.wf (.clearHistory (hd .f) 4294967296 0) = false ∧
    Instr.wf (.clearStray (hd .f) (some 4294967296)) = false ∧ Instr.wf (.setClock (hd .f) 4294967296 0 0) = false ∧
    Instr.wf (.setSchedule (hd .f) [⟨0, 0, 4294967296⟩]) = false ∧
    Instr.wf (.malformedRequest (hd .f) 1) = false ∧ Instr.wf (.malformedRequest (hd .f) 256) = false := by decide

theorem test_wf_reports_and_events :
    Instr.wf (.hello (lf 256) true 4 0) = false ∧ Instr.wf (.hello (lf 0) true 256 0) = false ∧
    Instr.wf (.status (lf 0) 4294967296) = false ∧ Instr.wf (.sessionEnd (lf 256)) = false ∧
    Instr.wf (.level (lf 0) (.each ⟨some 255, false⟩)) = false ∧ Instr.wf (.badge (lf 0) 4294967296) = false ∧
    Instr.wf (.select (lf 0) (.handles [])) = false ∧ Instr.wf (.select (lf 0) (.handles [⟨256, 0⟩])) = false ∧
    Instr.wf (.progress (lf 0) 65536 ⟨0, 0⟩) = false ∧ Instr.wf (.jobEnd (lf 0) 1 ⟨0, 65536⟩ .complete) = false ∧
    Instr.wf (.commandConfirmation 64) = false ∧ Instr.wf (.silenceExpiry 64) = false ∧
    Instr.wf (.periodTimerUnderflow 4) = false ∧
    Instr.wf (.requestFrameArrival .f ⟨true, ⟨65536, true, .attach⟩⟩) = false ∧
    Instr.wf (.requestFrameArrival .f ⟨true, ⟨0, true, .readAccount 4294967296⟩⟩) = false := by decide

/-- No row of the table gives bits: no word spells a command. -/
theorem test_no_word_is_a_command : decodeTableWord 16 1 = none ∧ State.reset.withFetchWord 16 1 = State.reset := by
  decide

/-! ### The wire (chapter 12) -/

/-- Section 12.1's check of the nine digits 1 to 9 in ASCII. -/
theorem test_check_sequence :
    crc16 [0x31#8, 0x32#8, 0x33#8, 0x34#8, 0x35#8, 0x36#8, 0x37#8, 0x38#8, 0x39#8] = 0x29B1#16 := by decide +kernel

/-- Section 12.4: a BADGE of printer 14 with badge 70412 is address, kind 5, length 4, four bytes, the check; and it reads
back. -/
theorem test_badge_frame :
    (reportBytes (.badge (lf 14) 70412)).map (List.take 7) = some [14#8, 5#8, 4#8, 0#8, 1#8, 0x13#8, 0x0C#8] ∧
    (reportBytes (.badge (lf 14) 70412)).bind reportOf = some (.badge (lf 14) 70412) := by decide +kernel

/-- Section 12.4: PANEL_RESULT of the worked sequence of section 4.8: two results, OK with grant 731, QUOTA. -/
theorem test_panel_result_body :
    commandBody (.panelResult none [⟨⟨4, 3⟩, .ok, some 731⟩, ⟨⟨9, 1⟩, .quota, none⟩]) =
      (33, [255#8, 2#8, 4#8, 3#8, 0#8, 2#8, 0xDB#8, 9#8, 1#8, 9#8, 0#8, 0#8]) := by decide +kernel

/-- R178, R179: a SUBMIT frame reads back as the request it carries; with its type changed it fails its check; a body of another
length is not well formed. -/
theorem test_submit_frame :
    let j : Submission := ⟨300, 5, ⟨40, 0⟩, 3, none, 0x000A#16⟩
    frameArriving .t0 (submitFrame 7 j) = ⟨true, ⟨7, true, .submit j⟩⟩ ∧
    (frameArriving .t0 (2#8 :: (submitFrame 7 j).drop 1)).checkOk = false ∧
    (readRequest .t0 48 7 ((submissionBytes j).drop 1)).wellFormed = false := by decide +kernel

/-- R179: a kind without fields is well formed at every body, whatever stands in it; bits 10..15 of a notice set are carried and
read by no rule; a lane code of 4 and a kind code that is no request code are not well formed. -/
theorem test_request_frames :
    readRequest .t0 1 9 [] = ⟨9, true, .attach⟩ ∧ readRequest .f 6 9 [0xFF#8, 0xFF#8] = ⟨9, true, .readPorts⟩ ∧
    readRequest .t1 3 9 [0xFC#8, 0x1F#8] = ⟨9, true, .setNoticeMask 0xFC1F#16⟩ ∧
    readRequest .t0 49 9 [4#8, 3#8] = ⟨9, true, .cancel ⟨4, 3⟩⟩ ∧
    (readRequest .f 86 9 [0#8, 4#8, 4#8, 4#8, 4#8]).wellFormed = false ∧
    (let q := readRequest .f 200 9 []; q.request = .unknown 200 ∧ inForm q.wellFormed q.request = false) ∧
    inForm false .attach = true ∧ inForm false (.readAccount 2000) = true ∧ inForm true (.setSchedule []) = false := by
  refine ⟨rfl, rfl, rfl, rfl, ?_, by decide, rfl, rfl, rfl⟩
  simp only [readRequest, Body.fields, Body.fleetFields]
  unfold Body.number
  generalize Config.requestWidth 86 0 = w
  fin_cases w <;> rfl

/-- A body of no bytes carries no count. -/
theorem short_count (kind : Nat) : (((Body.number kind 0).run ⟨[], 0, true⟩).2.missing == 0) = false := by
  unfold Body.number
  generalize Config.requestWidth kind 0 = w
  fin_cases w <;> rfl

/-- Fields read a number of times make a list of that length. -/
theorem times_length {α : Type} (f : Reader α) (n : Nat) (r : BodyReading) : ((Body.times f n).run r).1.length = n := by
  induction n generalizing r with
  | zero => rfl
  | succ n ih => exact congrArg (· + 1) (ih (f.run r).2)

/-- R179: a body that ends before an enumerated field, or before a schedule's count, is well formed: no field that is not
present is tested. -/
theorem test_short_request_frames :
    (readRequest .t0 23 9 []).wellFormed = true ∧ (readRequest .f 112 9 []).wellFormed = true ∧
    inRange 1 7 ((Body.schedule 129).run ⟨[], 0, true⟩).1.length = true := by
  refine ⟨?_, ?_, ?_⟩
  · simp only [readRequest, Body.fields, Body.fleetFields, Body.jobFields, Body.accountFields]
    unfold Body.number
    generalize Config.requestWidth 23 0 = w
    fin_cases w <;> rfl
  · simp only [readRequest, Body.fields]
    unfold Body.number
    generalize Config.requestWidth 112 0 = w
    fin_cases w <;> rfl
  · have h : (Body.schedule 129).run ⟨[], 0, true⟩ = (let x := (Body.number 129 0).run ⟨[], 0, true⟩
        (Body.times (Body.scheduleEntry 129) (Body.scheduleLength (x.1, x.2.missing == 0))).run x.2) := rfl
    rw [h]
    simp [times_length, short_count, Body.scheduleLength, inRange]
    omega

/-- R169, R181, sections 12.2 and 12.4: a status byte of 0 before the fields of SET_NOTICE_MASK, READ_NOTICES, ADJUST_BALANCE and
CANCEL_ORDER; an absent time. -/
theorem test_answer_bodies :
    answerBody 3 (.accepted (.notices 0x001F#16 0x0103#16)) = [0#8, 0x00#8, 0x1F#8, 0x01#8, 0x03#8] ∧
    answerBody 5 (.accepted (.notices 0x001F#16 0x0103#16)) = [0#8, 0x01#8, 0x03#8, 0x00#8, 0x1F#8] ∧
    answerBody 23 (.accepted (.balance (-23))) = [0#8, 0xFF#8, 0xFF#8, 0xFF#8, 0xE9#8] ∧
    answerBody 101 (.accepted .none) = [0#8] ∧ answerBody 48 (.refused .noGroup) = [1#8, 19#8] ∧
    timeBytes none = [0#8, 0#8, 0xFF#8, 0xFF#8] ∧
    portFrameBytes (.notice 0x0200#16) = portFrame 3 0 0 [2#8, 0#8] := by decide +kernel

/-! ### A busy part -/

/-- A port record with its link up. -/
def portAt (p : PortName) (state : PortState) : Port := { Port.reset p true with state := state }

/-- Account 0, with three live jobs; 15 pages reserved by the two of them that are released. -/
def owner : Account :=
  { Account.free with
    state := .active, badge := some 7, allowance := ⟨500, 50⟩, balance := ⟨100, 40⟩, reserved := ⟨15, 0⟩, liveJobs := 3 }

/-- A HELD job of account 0: 4 pages, no colour, print group 0. -/
def heldJob : Job :=
  { Job.freeAt 1 with state := .held, pages := ⟨4, 0⟩, groups := 1, submitted := ⟨10, 500⟩, expiry := ⟨10, 601⟩ }

/-- A released job at printer 0: grant, pages, state. -/
def released (grant : Nat) (pages : Nat) (state : JobState) : Job :=
  { heldJob with
    state := state, pages := ⟨pages, 0⟩, printer := some 0, grant := some grant, reservation := some ⟨pages, 0⟩
    needs := some ⟨pages, 0, 0, 0⟩ }

/-- An enrolled mono printer of print group 0 that has greeted, in an admin state. -/
def printerAt (admin : AdminState) : Printer :=
  { Printer.cold with
    enrolled := true, laneTypes := ⟨some 0, none, none, none⟩, admin := admin, presence := .present, silence := some 90
    meter := some 100 }

/-- Tenant 0: accounts 0 to 99, eight entries, print group 0, 15 pages reserved, a period of one minute. -/
def tenant0 : Tenant :=
  { Tenant.cold with window := some ⟨0, 99⟩, share := 8, groups := 1, reserved := ⟨15, 0⟩, timer := ⟨.minutes, 1, 1, 0, true⟩ }

/-- A part at work, with printer 0 in an admin state, the head of its queue in a state, and its stall count. Printer 0 prints
job 1 and holds job 2 queued, its lane of a type that is out of stock; printer 1 has a session that offers job 0, a lane with an allocation, and a stalled grant;
printer 2 is DRAINING and empty; printer 3 is OUT_OF_SERVICE, jammed, its agent not yet heard. -/
def busyWith (admin : AdminState) (head : JobState) (stall : Nat) : State :=
  { State.reset with
    ports := ⟨portAt .t0 .attached, portAt .t1 .detached, portAt .t2 .down, portAt .t3 .detached, portAt .f .attached⟩
    au :=
      { accounts := [(0, owner), (1, { Account.free with state := .suspended, badge := some 8 }),
          (2, { Account.free with state := .active })]
        tenants := [(0, tenant0), (1, { Tenant.cold with window := some ⟨100, 199⟩, share := 4 })] }
    jt :=
      { jobs := [(0, heldJob), (1, released 1 10 head), (2, released 2 5 .queued),
          (3, { heldJob with state := .done, endReason := some .complete })]
        finished := [(0, [⟨3, 1⟩])] }
    ru := { sessions := [(1, some ⟨0, 0, [⟨0, 1⟩], [], 1⟩)], panelTimeout := 2, grantCounter := 3 }
    ft :=
      { FleetUnit.cold with
        printers := [(0, { printerAt admin with
            laneTypes := ⟨some 1, none, none, none⟩, queue := [⟨1, 1⟩, ⟨2, 1⟩], stall := some stall }),
          (1, { printerAt .inService with stalled := some ⟨9, 2, 3, none, ⟨2, 0⟩⟩ }),
          (2, printerAt .draining),
          (3, { printerAt .outOfService with
            presence := .unknown, laneTypes := ⟨some 1, none, none, none⟩, conditions := [(0, some ⟨none⟩)] })] }
    se :=
      { SupplyUnit.cold with
        lanes := [(0, some { newLane 1 10000 with committed := 15 }),
          (4, some { newLane 0 10000 with estimate := 1500, state := .low, allocation := true, candidate := some 16 }),
          (8, some (newLane 0 10000)), (12, some (newLane 1 10000))] }
    su :=
      { StockUnit.cold with
        types := [(0, { CartridgeType.cold with onHand := 2, allocated := 1, onOrder := 4, ordering := true })]
        orders := [⟨1, 0, 4, false, none⟩], orderCounter := 2 }
    cu :=
      { CalloutUnit.cold with
        callouts := [⟨1, 3, .service, [.condition .jam], 1, false, some ⟨10, 560⟩, some ⟨10, 600⟩⟩]
        calloutCounter := 2, grace := [(24, .spent)], history := [(3, 1#8)] }
    flc := { queues := [(1, [.offer [⟨⟨0, 1⟩, 0, ⟨4, 0⟩⟩]])], strays := [(9, some ⟨.hello, none⟩)] }
    tb := { State.reset.tb with clock := some ⟨10, 600, 1⟩, active := .day } }

/-- The busy part: printer 0 IN_SERVICE, its head ACTIVE with 5 minutes of its stall count left. -/
abbrev busy : State := busyWith .inService .active 5

/-- The four busy parts the tests use. -/
def Busy (s : State) : Prop :=
  s = busy ∨ s = busyWith .inService .active 0 ∨ s = busyWith .inService .cancelling 0 ∨ s = busyWith .draining .active 5

theorem busy_stock (s : State) (h : Busy s) : StockLaw s := by
  have claims : ∀ n l x, s.lane n l = some x → x.waiting = false := by
    refine s.forall_lane (fun _ r => ∀ x, r = some x → x.waiting = false) (by simp) ?_
    rcases h with rfl | rfl | rfl | rfl <;> decide
  have waits : ∀ t, (s.ctype t).waitList = [] := by
    refine s.forall_ctype (fun _ r => r.waitList = []) (fun _ => rfl) ?_
    rcases h with rfl | rfl | rfl | rfl <;> decide
  have figures : ∀ t, (s.ctype t).allocated ≤ (s.ctype t).onHand ∧ (s.ctype t).onHand ≤ 999 ∧
      (s.ctype t).allocated = (allocatedLanes s t).length := by
    rcases h with rfl | rfl | rfl | rfl <;> rintro (_ | t) <;>
      first
        | decide
        | exact ⟨Nat.zero_le _, Nat.zero_le _, by simp [allocatedLanes, busyWith, newLane, State.ctype, Table.get,
            CartridgeType.cold]⟩
  have enrolled : ∀ n l, (s.printer n).enrolled = false → s.lane n l = none := by
    intro n l
    have far : ∀ k r, Table.get none s.se.lanes k = some r → k < 13 := by
      intro k
      refine Table.forall_get (fun k r => ∀ x, r = some x → k < 13) none s.se.lanes (by simp) ?_ k
      rcases h with rfl | rfl | rfl | rfl <;> simp [busyWith]
    match n with
    | 0 | 1 | 2 | 3 => rcases h with rfl | rfl | rfl | rfl <;> cases l <;> decide
    | n + 4 =>
      intro _
      cases e : s.lane (n + 4) l with
      | none => rfl
      | some r => have := far _ r e; omega
  refine ⟨figures, fun n l x hx hw => by simp [claims n l x hx] at hw, fun t => by simp [waits t], ?_, enrolled⟩
  intro t w
  rw [waits t]
  simp only [List.not_mem_nil, false_iff, not_exists]
  rintro x ⟨hx, _, hw⟩
  rw [claims _ _ x hx] at hw
  cases hw

theorem busy_dispatch (s : State) (h : Busy s) : DispatchLaw s := by
  refine ⟨?_, ?_, ?_, ?_, ?_, ?_⟩
  · refine s.forall_printer (fun _ p => p.queue.length ≤ 4 ∧ p.queue.Nodup) (fun _ => by decide) ?_
    rcases h with rfl | rfl | rfl | rfl <;> decide
  · refine s.forall_printer (fun n p => ∀ h, h ∈ p.queue → (s.job h.index).generation = h.generation ∧
      (s.job h.index).state.released = true ∧ (s.job h.index).printer = some n) (by simp [Printer.cold]) ?_
    rcases h with rfl | rfl | rfl | rfl <;> decide
  · intro i hi
    refine ⟨0, ?_⟩
    revert hi
    revert i
    refine s.forall_job (fun i j => j.state.released = true → j.printer = some 0 ∧
      (⟨i, j.generation⟩ : Handle) ∈ (s.printer 0).queue) (by simp [Job.freeAt, JobState.released]) ?_
    rcases h with rfl | rfl | rfl | rfl <;> decide
  · refine s.forall_printer (fun _ p => ∀ h, h ∈ p.queue.tail → (s.job h.index).state = .queued)
      (by simp [Printer.cold]) ?_
    rcases h with rfl | rfl | rfl | rfl <;> decide
  · refine s.forall_printer (fun _ p => p.admin = .outOfService → p.queue = []) (fun _ _ => rfl) ?_
    rcases h with rfl | rfl | rfl | rfl <;> decide
  · refine s.forall_printer (fun _ p => p.enrolled = false → p.admin = .outOfService) (fun _ _ => rfl) ?_
    rcases h with rfl | rfl | rfl | rfl <;> decide

theorem busy_sessions (s : State) (h : Busy s) : SessionLaw s := by
  have only : ∀ n x, s.session n = some x → n = 1 := by
    refine s.forall_session (fun n r => ∀ x, r = some x → n = 1) (by simp) ?_
    rcases h with rfl | rfl | rfl | rfl <;> simp [busyWith]
  refine ⟨fun n m x y hx hy _ => (only n x hx).trans (only m y hy).symm, ?_, ?_⟩
  · intro n x k hx
    revert k
    refine s.forall_session (fun _ r => ∀ x, r = some x → ∀ k ∈ x.offers ++ x.withdrawn,
      (s.job k.index).state = .held ∧ (s.job k.index).generation = k.generation ∧ (s.job k.index).owner = x.account)
      (by simp) ?_ n x hx
    rcases h with rfl | rfl | rfl | rfl <;> decide
  · refine s.forall_session (fun _ r => ∀ x, r = some x → (x.offers ++ x.withdrawn).Nodup) (by simp) ?_
    rcases h with rfl | rfl | rfl | rfl <;> decide

theorem busy_committed (s : State) (h : Busy s) : CommittedLaw s := by
  intro n l x hx
  have far : 4 * n + l.code < 13 :=
    Table.forall_get (fun k r => ∀ x, r = some x → k < 13) none s.se.lanes (by simp)
      (by rcases h with rfl | rfl | rfl | rfl <;> simp [busyWith]) _ x hx
  match n with
  | 0 | 1 | 2 | 3 => revert hx; revert x; rcases h with rfl | rfl | rfl | rfl <;> cases l <;> decide
  | n + 4 => omega

theorem busy_laws (s : State) (h : Busy s) : FleetLaws s :=
  ⟨by rcases h with rfl | rfl | rfl | rfl <;> decide, busy_stock s h, busy_dispatch s h, busy_sessions s h,
    busy_committed s h⟩

theorem busy_lanes (s : State) (h : Busy s) : LaneLaw s := fun n l x _ hx =>
  s.forall_lane (fun _ r => ∀ x, r = some x → StateFits x (s.ctype x.type)) (by simp)
    (by unfold StateFits; rcases h with rfl | rfl | rfl | rfl <;> decide) n l x hx

/-- What the busy parts' accounts and jobs hold, by number. -/
theorem busy_owners (s : State) (h : Busy s) :
    (∀ i, i ≠ 0 → (s.account i).reserved = ⟨0, 0⟩ ∧ (s.account i).liveJobs = 0) ∧
    (∀ i, i ≠ 0 → s.jt.jobs.filter (fun e => e.2.owner == i) = []) ∧
    (∀ i, i ≠ 0 → s.jt.jobs.filter (fun e => e.2.state.live && e.2.owner == i) = []) := by
  have owner0 : ∀ e ∈ s.jt.jobs, e.2.owner = 0 := by rcases h with rfl | rfl | rfl | rfl <;> decide
  refine ⟨s.forall_account (fun i a => i ≠ 0 → a.reserved = ⟨0, 0⟩ ∧ a.liveJobs = 0) (fun _ _ => ⟨rfl, rfl⟩) ?_, ?_, ?_⟩
  · rcases h with rfl | rfl | rfl | rfl <;> decide
  all_goals
    intro i hi
    refine List.filter_eq_nil_iff.2 (fun e he => ?_)
    simp [owner0 e he, Ne.symm hi]

theorem busy_window (s : State) (h : Busy s) : WindowLaw s := by
  have windows : ∀ m i, (s.tenant m).owns i = true → i / 100 = m := by
    intro m
    refine s.forall_tenant (fun m t => ∀ i, t.owns i = true → i / 100 = m) (by simp [Tenant.owns, Tenant.cold]) ?_ m
    rcases h with rfl | rfl | rfl | rfl <;> simp [busyWith, tenant0, Tenant.owns, windowHolds, Tenant.cold] <;>
      (refine ⟨?_, ?_⟩ <;> intros <;> omega)
  have badges : ∀ i b, (s.account i).badge = some b → b = i + 7 := by
    intro i b
    revert b
    refine s.forall_account (fun i a => ∀ b, a.badge = some b → b = i + 7) (by simp [Account.free]) ?_ i
    rcases h with rfl | rfl | rfl | rfl <;> simp [busyWith, owner, Account.free]
  refine ⟨?_, ?_, ?_, ?_, ?_⟩
  · refine s.forall_account (fun _ a => a.state = .free → a = Account.free) (fun _ _ => rfl) ?_
    rcases h with rfl | rfl | rfl | rfl <;> decide
  · intro i j b hi hj
    have := badges i b hi
    have := badges j b hj
    omega
  · intro m n i _ _ hm hn
    exact (windows m i hm).symm.trans (windows n i hn)
  · intro i hi
    refine ⟨0, by decide, ?_⟩
    revert hi
    refine s.forall_account (fun i a => a.state ≠ .free → (s.tenant 0).owns i = true) (by simp [Account.free]) ?_ i
    rcases h with rfl | rfl | rfl | rfl <;> decide
  · refine s.forall_job (fun _ j => j.state ≠ .free → j.tenant < 4 ∧ (s.tenant j.tenant).owns j.owner = true ∧
      (s.account j.owner).state ≠ .free) (by simp [Job.freeAt]) ?_
    rcases h with rfl | rfl | rfl | rfl <;> decide

theorem busy_counts (s : State) (h : Busy s) : CountLaw s := by
  have others := busy_owners s h
  refine ⟨?_, ?_, ?_, ?_, ?_⟩
  · intro i c
    by_cases hi : i = 0
    · subst hi; rcases h with rfl | rfl | rfl | rfl <;> cases c <;> decide
    · rw [(others.1 i hi).1, others.2.1 i hi]; cases c <;> rfl
  · intro n c hn
    match n, hn with
    | 0, _ | 1, _ | 2, _ | 3, _ => rcases h with rfl | rfl | rfl | rfl <;> cases c <;> decide
  · intro i
    by_cases hi : i = 0
    · subst hi; rcases h with rfl | rfl | rfl | rfl <;> decide
    · rw [(others.1 i hi).2, others.2.2 i hi]; decide
  · intro n hn
    match n, hn with
    | 0, _ | 1, _ | 2, _ | 3, _ => rcases h with rfl | rfl | rfl | rfl <;> decide
  · rcases h with rfl | rfl | rfl | rfl <;> decide

theorem busy_accounts (s : State) (h : Busy s) : AccountLaws s := ⟨busy_laws s h, busy_window s h, busy_counts s h⟩

/-- Every command queue of the busy part has room. -/
theorem busy_room (a : Nat) : (busy.commands a).length < 8 :=
  busy.forall_commands (fun _ q => q.length < 8) (by simp) (by decide) a

theorem busy_orders : OrderLaw busy := by
  refine ⟨by decide, by decide, ?_⟩
  rintro (_ | t)
  · exact .inr ⟨⟨1, 0, 4, false, none⟩, by decide⟩
  · exact .inl ⟨by simp [ordersOf, busyWith], by simp [State.ctype, busyWith, Table.get, CartridgeType.cold]⟩

theorem busy_callouts : CalloutLaw busy := by decide

/-! ### The manual's worked figures -/

/-- Section 1.5: account 300 of tenant 1, 63 pages charged to a reservation of 50. -/
theorem test_charge_of_section_1_5 :
    let s : State := { State.reset with au :=
      { accounts := [(300, { Account.free with
          state := .active, balance := ⟨40, 0⟩, reserved := ⟨50, 0⟩, used := ⟨460, 0⟩, overdraft := ⟨20, 0⟩ })]
        tenants := [(1, { Tenant.cold with window := some ⟨256, 511⟩, used := ⟨8400, 0⟩, reserved := ⟨1250, 0⟩ })] } }
    let t := chargeBoth 300 ⟨63, 0⟩ ⟨50, 0⟩ s
    (t.account 300).balance.mono = -23 ∧ (t.account 300).used.mono = 523 ∧ (t.account 300).reserved.mono = 0 ∧
      (t.account 300).overrun = true ∧ (t.tenant 1).used.mono = 8463 ∧ (t.tenant 1).reserved.mono = 1200 ∧
      hasNotice (t.port .t1).flags .overrun = true := by decide

/-- Sections 2.3 and 2.5: three refilled balances, and the minutes to a rollover. -/
theorem test_periods_of_sections_2_3_and_2_5 :
    refilled 170 500 100 = 600 ∧ refilled (-40) 500 100 = 460 ∧ refilled 60 200 0 = 200 ∧
    (periodView (State.reset.setTenant 3 { Tenant.cold with timer := ⟨.hours, 672, 670, 30, false⟩ }) 3).minutesToRollover =
      40170 := by decide

/-- Section 6.9: the need of a job, and the lane after its pages are deducted. -/
theorem test_lane_of_section_6_9 :
    let s : State := { State.reset with
      ft := { FleetUnit.cold with printers := [(30, printerAt .inService)] }
      se := { SupplyUnit.cold with
        lanes := [(120, some { newLane 4 20000 with estimate := 5200, factor := 70, committed := 2560 })] }
      su := { StockUnit.cold with types := [(4, { CartridgeType.cold with capacity := 20000, onHand := 3, allocated := 1 })] } }
    let t := deduct 30 .k 390 6 s
    laneNeed s 30 .k { heldJob with pages := ⟨290, 100⟩, kClass := 4 } = 2560 ∧
    t.lane 30 .k = some { newLane 4 20000 with
      estimate := 2641, fraction := 24, factor := 70, committed := 2560, state := .low, allocation := true } ∧
    (t.ctype 4).allocated = 2 := by decide

/-- Section 7.7: order 88 received short, two of three waiting lanes served, order 89 raised for five. -/
theorem test_receipt_of_section_7_7 :
    let waiter : Option LaneRecord := some { newLane 7 10000 with state := .low, waiting := true }
    let s : State := { State.reset with
      se := { SupplyUnit.cold with lanes :=
        [(68, some { newLane 7 10000 with state := .low, allocation := true }), (160, waiter), (164, waiter), (220, waiter)] }
      su := { StockUnit.cold with
        types := [(7, { CartridgeType.cold with
          onHand := 1, allocated := 1, level := 3, quantity := 4, onOrder := 4, ordering := true
          waitList := [⟨40, .k⟩, ⟨41, .k⟩, ⟨55, .k⟩] })]
        orders := [⟨88, 7, 4, true, none⟩], orderCounter := 89 } }
    let t := trigger 7 (receive ⟨88, 7, 4, true, none⟩ 2 s)
    t.ctype 7 = { CartridgeType.cold with
      onHand := 3, allocated := 3, level := 3, quantity := 4, onOrder := 5, ordering := true, waitList := [⟨55, .k⟩] } ∧
    t.su.orders = [⟨89, 7, 5, false, none⟩] ∧ t.su.orderCounter = 90 ∧ position (t.ctype 7) = 4 ∧
    (t.lane 41 .k).map LaneRecord.allocation = some true ∧ (t.lane 55 .k).map LaneRecord.waiting = some true ∧
    hasNotice (t.port .f).flags .order = true := by decide

/-- Section 9.6: a report of an agent that has not greeted is dropped; one from an address not enrolled is a stray. -/
theorem test_link_of_section_9_6 :
    let s : State := { State.reset with
      ft := { FleetUnit.cold with printers := [(33, { printerAt .inService with presence := .unknown, meter := none })] } }
    exec (.status (lf 33) 81200) s = .next s ∧
    exec (.status (lf 5) 0) s = .next (raise .f .fleet { s with flc := ⟨[], [(5, some ⟨.status, none⟩)]⟩ }) :=
  ⟨rfl, rfl⟩

/-! ### Every statement's hypotheses are met: ports, accounts, tenants -/

/-- A busy part whose next command is the end of the session at printer 1. -/
abbrev stepping : State := { busy with pending := [.sessionEnd (lf 1)] }

theorem test_meets_StepKeepsTablesCanonical : Canonical stepping ∧ ∃ t, step stepping = .next t := ⟨by decide, _, rfl⟩

theorem test_meets_StepKeepsQueuesBounded : Canonical stepping ∧ Bounded stepping ∧ ∃ t, step stepping = .next t := by
  refine ⟨by decide, ⟨?_, ?_, ?_, by decide, by decide⟩, _, rfl⟩
  · intro p; cases p <;> decide
  · exact stepping.forall_commands (fun _ q => q.length ≤ 8) (by simp) (by decide)
  · exact stepping.forall_printer (fun _ p => p.queue.length ≤ 4) (fun _ => by decide) (by decide)

theorem test_meets_StepKeepsNoticeKinds : NoticesOwn stepping ∧ ∃ t, step stepping = .next t :=
  ⟨fun p => by cases p <;> decide, _, rfl⟩

theorem test_meets_StepKeepsOrderLaw : OrderLaw stepping ∧ ∃ t, step stepping = .next t := ⟨busy_orders, _, rfl⟩

theorem test_meets_StepKeepsCalloutLaw : CalloutLaw stepping ∧ ∃ t, step stepping = .next t := ⟨by decide, _, rfl⟩

theorem test_meets_StepKeepsFleetLaws : FleetLaws stepping ∧ ∃ t, step stepping = .next t :=
  ⟨busy_laws busy (.inl rfl), _, rfl⟩

theorem test_meets_StepKeepsLaneStates : Canonical stepping ∧ LaneLaw stepping ∧ ∃ t, step stepping = .next t :=
  ⟨by decide, busy_lanes busy (.inl rfl), _, rfl⟩

theorem test_meets_StepKeepsAccountLaws : AccountLaws stepping ∧ ∃ t, step stepping = .next t :=
  ⟨busy_accounts busy (.inl rfl), _, rfl⟩

theorem test_meets_ReportFramesRoundTrip :
    reportKindOf (.hello (lf 63) true 4 4294967295) = some (lf 63, .hello) ∧ (lf 63).checkOk = true ∧
    (lf 63).address < 64 ∧ ReportInRange (.hello (lf 63) true 4 4294967295) ∧
    ReportInRange (.progress (lf 0) 65535 ⟨9999, 9999⟩) := by
  refine ⟨rfl, rfl, by decide, ?_, ?_⟩ <;> simp [ReportInRange]

theorem test_meets_PortChecksComeInOrder :
    (Standing ⟨.f, 1, false⟩ (.setGrace .jam 0) busy ∧ inForm false (.setGrace .jam 0) = false) ∧
    (Standing (hd .f) (.setSchedule []) busy ∧ inForm true (.setSchedule []) = false) ∧
    (Standing (hd .t1) .readNotices busy ∧ inForm true .readNotices = true ∧ (busy.port .t1).state ≠ .attached) ∧
    (Standing ⟨.t0, 1, false⟩ .readPorts busy ∧ inForm false .readPorts = true ∧ (busy.port .t0).state = .attached ∧
      allowedOn .t0 .readPorts = false) ∧
    Standing (hd .f) (.unknown 200) busy := by decide

/-- Port T0 with a number of requests waiting. -/
def waiting (n : Nat) : State :=
  busy.setPort .t0 { portAt .t0 .attached with queue := List.replicate n ⟨1, true, .readNotices⟩ }

theorem test_meets_PortFramesAndNotices :
    (busy.phase ≠ .off ∧ (busy.port .t0).state ≠ .down) ∧
    ((waiting 4).phase ≠ .off ∧ ((waiting 4).port .t0).state ≠ .down ∧ ((waiting 4).port .t0).queue.length ≥ 4) ∧
    ((waiting 3).phase ≠ .off ∧ ((waiting 3).port .t0).state ≠ .down ∧ ((waiting 3).port .t0).queue.length < 4) ∧
    (Ready (hd .t0) (.setNoticeMask 0x0020#16) busy ∧ 0x0020#16 &&& 0x03FF#16 &&& ~~~(portKinds .t0) ≠ 0) ∧
    (Ready (hd .t0) (.setNoticeMask 0xFC1F#16) busy ∧ 0xFC1F#16 &&& 0x03FF#16 &&& ~~~(portKinds .t0) = 0) ∧
    (Ready (hd .f) (.ackNotice 0x0010#16) busy ∧ 0x0010#16 &&& 0x03FF#16 &&& ~~~(portKinds .f) ≠ 0) ∧
    (Ready (hd .f) (.ackNotice 0x03E0#16) busy ∧ 0x03E0#16 &&& 0x03FF#16 &&& ~~~(portKinds .f) = 0) ∧
    hasNotice (busy.port .f).flags .tenant = false ∧
    hasNotice ((raise .f .tenant busy).port .f).flags .tenant = true := by
  decide

theorem test_meets_PortLinkUpAndLoss :
    (busy.phase ≠ .off ∧ (busy.port .t2).state = .down ∧ (busy.port .t1).state = .detached ∧
      (busy.port .t0).state = .attached ∧ PortName.tenant .t0 = some 0) ∧
    FleetLaws busy ∧ AccountLaws busy ∧ (∀ a, (busy.commands a).length < 8) ∧ queuedOf busy 0 0 = [⟨2, 1⟩] :=
  ⟨by decide, busy_laws busy (.inl rfl), busy_accounts busy (.inl rfl), busy_room, by decide⟩

theorem test_meets_AttachOpensAPort :
    (Ready (hd .t0) .attach busy ∧ (busy.port .t0).state = .attached) ∧
    (Ready (hd .t3) .attach busy ∧ (busy.port .t3).state = .detached ∧
      ∃ n, (hd .t3).port.tenant = some n ∧ (busy.tenant n).window = none) ∧
    (Ready (hd .t1) .attach busy ∧ (busy.port .t1).state = .detached ∧
      ∀ n, (hd .t1).port.tenant = some n → (busy.tenant n).window ≠ none) :=
  ⟨by decide, ⟨by decide, by decide, 3, by decide⟩, by decide, by decide, by decide⟩

theorem test_meets_DetachClosesAPort :
    (Ready (hd .f) .detach busy ∧ Ready (hd .t0) .detach busy ∧ (hd .t0).port.tenant = some 0) ∧
    FleetLaws busy ∧ AccountLaws busy ∧ ∀ a, (busy.commands a).length < 8 :=
  ⟨by decide, busy_laws busy (.inl rfl), busy_accounts busy (.inl rfl), busy_room⟩

/-- Full limits in one class, none in the other. -/
def fullLimits : PerClass Limits := ⟨⟨65535, 65535, 65535⟩, ⟨0, 0, 0⟩⟩

theorem badge_free (b : Nat) (h : b ≠ 7 ∧ b ≠ 8) (j : Nat) : (busy.account j).badge ≠ some b := by
  refine busy.forall_account (fun _ a => a.badge ≠ some b) (by simp [Account.free]) ?_ j
  simp only [busyWith, owner, Account.free]
  simp
  omega

theorem test_meets_OpenAccountFillsARecord :
    Canonical busy ∧
    (∀ c, (fullLimits.get c).allowance ≤ 65535 ∧ (fullLimits.get c).overdraft ≤ 65535 ∧
      (fullLimits.get c).carryCap ≤ 65535) ∧
    (Ready (hd .t0) (.openAccount 2 none fullLimits) busy ∧ Mine (hd .t0) 0 2 busy ∧ (busy.account 2).state ≠ .free) ∧
    (Ready (hd .t0) (.openAccount 99 (some 7) fullLimits) busy ∧ Mine (hd .t0) 0 99 busy ∧
      (busy.account 99).state = .free ∧ 0 ≠ 99 ∧ (busy.account 0).state ≠ .free ∧ (busy.account 0).badge = some 7) ∧
    (Ready (hd .t0) (.openAccount 99 (some 4294967295) fullLimits) busy ∧
      ∀ j, (busy.account j).badge ≠ some 4294967295) :=
  ⟨by decide, fun c => by cases c <;> decide, by decide, by decide, by decide, badge_free _ (by decide)⟩

theorem test_meets_AccountFieldsChange :
    (Mine (hd .t0) 0 0 busy ∧ (busy.account 0).state ≠ .free) ∧
    Ready (hd .t0) (.setAccount 0 ⟨⟨some 65535, none, some 0⟩, ⟨none, none, none⟩⟩) busy ∧
    (Ready (hd .t0) (.setBadge 0 4294967295) busy ∧ Canonical busy ∧ ∀ j, (busy.account j).badge ≠ some 4294967295) ∧
    Ready (hd .t0) (.clearBadge 0) busy ∧
    (Ready (hd .t0) (.resumeAccount 1) busy ∧ Mine (hd .t0) 0 1 busy ∧ (busy.account 1).state = .suspended) ∧
    Ready (hd .t0) (.adjustBalance 0 .mono (-65535)) busy ∧ Ready (hd .t0) (.adjustBalance 0 .colour 65535) busy :=
  ⟨by decide, by decide, ⟨by decide, by decide, badge_free _ (by decide)⟩, by decide, by decide, by decide, by decide⟩

/-- Account 2, which has no job, with the session at printer 1. -/
def visited : State := busy.setSession 1 (some ⟨2, 0, [], [], 1⟩)

theorem visited_sessions : SessionLaw visited := by
  have only : ∀ n x, visited.session n = some x → n = 1 ∧ x = ⟨2, 0, [], [], 1⟩ := by
    refine visited.forall_session (fun n r => ∀ x, r = some x → n = 1 ∧ x = ⟨2, 0, [], [], 1⟩) (by simp) ?_
    decide
  refine ⟨fun n m x y hx hy _ => (only n x hx).1.trans (only m y hy).1.symm, ?_, ?_⟩
  · intro n x h hx hm; rw [(only n x hx).2] at hm; simp at hm
  · intro n x hx; rw [(only n x hx).2]; decide

theorem busy_session_owner (m : Nat) (x : Session) (h : busy.session m = some x) : x.account ≠ 2 :=
  busy.forall_session (fun _ r => ∀ x, r = some x → x.account ≠ 2) (by simp) (by decide) m x h

theorem busy_job_owner (j : Nat) : (busy.job j).owner ≠ 2 :=
  busy.forall_job (fun _ x => x.owner ≠ 2) (fun _ => by decide) (by decide) j

theorem test_meets_SuspendAndCloseAccount :
    (Canonical busy ∧ SessionLaw busy ∧ Mine (hd .t0) 0 2 busy ∧ Ready (hd .t0) (.suspendAccount 2) busy ∧
      (busy.account 2).state = .active ∧ ∀ m x, busy.session m = some x → x.account ≠ 2) ∧
    (Mine (hd .t0) 0 0 busy ∧ Ready (hd .t0) (.suspendAccount 0) busy ∧ (busy.account 0).state = .active ∧
      ∃ x, busy.session 1 = some x ∧ x.account = 0 ∧ (busy.commands 1).length < 8) ∧
    (Ready (hd .t0) (.closeAccount 0) busy ∧ (busy.account 0).state ≠ .free ∧ 0 < (busy.account 0).liveJobs) ∧
    (Ready (hd .t0) (.closeAccount 2) busy ∧ (busy.account 2).liveJobs = 0 ∧ ∀ j, (busy.job j).owner ≠ 2) ∧
    (Canonical visited ∧ SessionLaw visited ∧ Mine (hd .t0) 0 2 visited ∧ Ready (hd .t0) (.closeAccount 2) visited ∧
      (visited.account 2).liveJobs = 0 ∧ (∀ j, (visited.job j).owner ≠ 2) ∧
      ∃ x, visited.session 1 = some x ∧ x.account = 2 ∧ (visited.commands 1).length < 8) :=
  ⟨⟨by decide, busy_sessions busy (.inl rfl), by decide, by decide, by decide, busy_session_owner⟩,
    ⟨by decide, by decide, by decide, ⟨0, 0, [⟨0, 1⟩], [], 1⟩, by decide⟩, by decide,
    ⟨by decide, by decide, busy_job_owner⟩,
    ⟨by decide, visited_sessions, by decide, by decide, by decide, busy_job_owner, ⟨2, 0, [], [], 1⟩, by decide⟩⟩

theorem test_meets_AccountTenantAndJobReads :
    (Ready (hd .t0) (.readAccount 0) busy ∧ ∀ n, (hd .t0).port.tenant = some n → (busy.tenant n).owns 0 = true) ∧
    (Ready (hd .f) (.readClosing 1023) busy ∧ ∀ n, (hd .f).port.tenant = some n → (busy.tenant n).owns 1023 = true) ∧
    Ready (hd .t0) (.readTenant 9) busy ∧ (hd .t0).port.tenant = some 0 ∧ Ready (hd .f) (.readPolicy 3) busy ∧
    Ready (hd .f) (.readTenant 4) busy ∧
    (Ready (hd .t0) (.readJob ⟨1, 1⟩) busy ∧ (busy.job 1).state ≠ .free ∧ (busy.job 1).generation = 1 ∧
      (busy.job 1).tenant = 0) ∧
    Ready (hd .t0) .listFinished busy ∧ Canonical busy ∧ Ready (hd .t0) .listActive busy :=
  ⟨⟨by decide, by decide⟩, ⟨by decide, by decide⟩, by decide, by decide, by decide, by decide, by decide,
    by decide, by decide, by decide⟩

theorem test_meets_ReadPeriodShowsTheTimer :
    (Ready (hd .t0) (.readPeriod 0) busy ∧ (hd .t0).port.tenant = some 0) ∧ Ready (hd .f) (.readPeriod 3) busy ∧
    Ready (hd .f) (.readPeriod 4) busy := by decide

/-- The windows of the busy part. -/
theorem busy_windows (m : Nat) (y : Window) (h : (busy.tenant m).window = some y) :
    y.base ≤ y.limit ∧ (m ≠ 1 → y.limit < 100) := by
  revert y
  refine busy.forall_tenant (fun m t => ∀ y, t.window = some y → y.base ≤ y.limit ∧ (m ≠ 1 → y.limit < 100))
    (by simp [Tenant.cold]) ?_ m
  simp [busyWith, tenant0, Tenant.cold]

/-- No job of tenant 1, and no account in its window. -/
theorem busy_tenant1 : (∀ i, (busy.job i).tenant ≠ 1) ∧
    ∀ i, (busy.account i).state ≠ .free → (busy.tenant 1).owns i = false :=
  ⟨busy.forall_job (fun _ x => x.tenant ≠ 1) (fun _ => by decide) (by decide),
    busy.forall_account (fun i a => a.state ≠ .free → (busy.tenant 1).owns i = false) (by simp [Account.free])
      (by decide)⟩

theorem test_meets_TenantSettingsChange :
    (Canonical busy ∧ Ready (hd .f) (.assignTenant 1 (some ⟨100, 1023⟩) 248 0xFFFF#16) busy ∧
      (busy.port (PortName.ofTenant 1)).state ≠ .attached ∧ (∀ i, (busy.job i).tenant ≠ 1) ∧
      (∀ m x y i, m < 4 → m ≠ 1 → some (⟨100, 1023⟩ : Window) = some x → (busy.tenant m).window = some y →
        ¬(x.base ≤ i ∧ i ≤ x.limit ∧ y.base ≤ i ∧ i ≤ y.limit)) ∧
      (∀ m y, m < 4 → (busy.tenant m).window = some y → y.base ≤ y.limit) ∧
      (∀ i, (busy.account i).state ≠ .free → (busy.tenant 1).owns i = true →
        ∃ x, some (⟨100, 1023⟩ : Window) = some x ∧ x.base ≤ i ∧ i ≤ x.limit) ∧
      248 + ((((List.range 4).filter (· ≠ 1)).map (fun m => (busy.tenant m).share)).sum) ≤ 256) ∧
    Ready (hd .f) (.setCeiling 3 .colour (some 16777215)) busy ∧ Ready (hd .f) (.setCeiling 0 .mono (some 0)) busy ∧
    Ready (hd .f) (.setPeriodTimer 3 .hours 65535) busy ∧ Ready (hd .f) (.setPeriodTimer 4 .hours 1) busy ∧
    Ready (hd .f) (.startTimer 0) busy ∧ Ready (hd .f) (.stopTimer 3) busy ∧
    (Ready (hd .t0) (.setPolicy .day ⟨none, some 9999, some 10080, some true⟩) busy ∧
      (hd .t0).port.tenant = some 0) :=
  ⟨⟨by decide, by decide, by decide, busy_tenant1.1,
      fun m x y i _ hm hx hy => by cases hx; have := (busy_windows m y hy).2 hm; simp only; omega,
      fun m y _ hy => (busy_windows m y hy).1, fun i hi ho => by simp [busy_tenant1.2 i hi] at ho, by decide⟩,
    by decide, by decide, by decide, by decide, by decide, by decide, by decide⟩

theorem test_meets_ClosePeriodRollsOver :
    Canonical busy ∧ (hd .t0).port.tenant = some 0 ∧ Ready (hd .t0) .closePeriod busy := by decide

/-! ### Jobs, panel, fleet -/

/-- The largest SUBMIT of account 2. -/
def bigJob : Submission := ⟨2, 0, ⟨9999, 9999⟩, 7, some 7, 0xFFFF#16⟩

theorem test_meets_SubmitFillsTheLowestEntry :
    (hd .t0).port.tenant = some 0 ∧ Ready (hd .t0) (.submit bigJob) busy ∧ bigJob.owner < 1024 ∧
    0 < bigJob.pages.mono + bigJob.pages.colour ∧ busy.tb.clock = some ⟨10, 600, 1⟩ ∧
    (busy.tenant 0).owns bigJob.owner = true ∧ (busy.account bigJob.owner).state = .active ∧
    bigJob.groups &&& (busy.tenant 0).groups ≠ 0 ∧ (busy.account bigJob.owner).liveJobs < 8 ∧
    entriesInUse busy 0 < (busy.tenant 0).share ∧ (busy.job 4).state = .free ∧
    (∀ k, k < 4 → (busy.job k).state ≠ .free) ∧
    submitCheck busy 0 { bigJob with owner := 1024 } = some .outOfRange ∧
    submitCheck { busy with tb := { busy.tb with clock := none } } 0 bigJob = some .clockNotSet ∧
    submitCheck busy 0 { bigJob with owner := 100 } = some .outOfWindow ∧
    submitCheck busy 0 { bigJob with owner := 99 } = some .noSuchAccount ∧
    submitCheck busy 0 { bigJob with owner := 1 } = some .badState ∧
    submitCheck busy 0 { bigJob with groups := 2 } = some .noGroup ∧
    submitCheck (busy.setAccount 2 { Account.free with state := .active, liveJobs := 8 }) 0 bigJob = some .accountLimit ∧
    submitCheck (busy.setTenant 0 { tenant0 with share := 4 }) 0 bigJob = some .shareFull := by decide

/-- Every entry in use, all by tenant 1. -/
def fullTable : State :=
  { busy with jt := { busy.jt with jobs := (List.range 256).map (fun i => (i, { heldJob with tenant := 1 })) } }

theorem test_meets_SubmitFillsTheLowestEntry_full :
    Ready (hd .t0) (.submit bigJob) fullTable ∧ submitCheck fullTable 0 bigJob = some .tableFull := by decide +kernel

/-- Job 2 alone in printer 0's queue. -/
def alone : State := busy.setPrinter 0 { busy.printer 0 with queue := [⟨2, 1⟩] }

theorem test_meets_CancelActsOnTheState :
    (Ready (hd .t0) (.cancel ⟨0, 1⟩) busy ∧ (busy.job 0).generation = 1 ∧ (busy.job 0).tenant = 0 ∧
      (busy.job 0).state = .held) ∧
    (Ready (hd .t0) (.cancel ⟨2, 1⟩) alone ∧ (alone.job 2).generation = 1 ∧ (alone.job 2).tenant = 0 ∧
      (alone.job 2).state = .queued ∧ (alone.job 2).printer = some 0 ∧ (alone.printer 0).queue = [⟨2, 1⟩] ∧
      (alone.job 2).reservation = some ⟨5, 0⟩ ∧ (alone.job 2).needs = some ⟨5, 0, 0, 0⟩) ∧
    (FleetLaws busy ∧ Ready (hd .t0) (.cancel ⟨2, 1⟩) busy ∧ (busy.job 2).state = .queued ∧
      (busy.job 2).printer = some 0) ∧
    (Ready (hd .t0) (.cancel ⟨1, 1⟩) busy ∧ (busy.job 1).state = .active ∧ (busy.job 1).printer = some 0 ∧
      (busy.job 1).grant = some 1 ∧ (busy.commands 0).length < 8) ∧
    (Ready (hd .t0) (.cancel ⟨3, 1⟩) busy ∧ (busy.job 3).state = .done) :=
  ⟨by decide, by decide, ⟨busy_laws busy (.inl rfl), by decide⟩, by decide, by decide⟩

theorem test_meets_CollectFreesTheEntry :
    (Ready (hd .t0) (.collect ⟨3, 1⟩) busy ∧ (busy.job 3).state = .done ∧ (busy.job 3).generation = 1 ∧
      (busy.job 3).tenant = 0) ∧
    (Ready (hd .t0) (.collect ⟨0, 1⟩) busy ∧ (busy.job 0).state = .held) ∧
    (Ready (hd .t0) (.collect ⟨255, 0⟩) busy ∧ (busy.job 255).state = .free) := by decide

theorem test_meets_PanelTimeoutIsSet :
    Ready (hd .f) (.setPanelTimeout 15) busy ∧ Ready (hd .f) (.setPanelTimeout 16) busy ∧
    Standing (hd .t0) (.setPanelTimeout 1) busy ∧ (busy.port .t0).state = .attached := by decide

theorem test_meets_BadgeOpensOrRefuses :
    Canonical busy ∧
    (HeardPlainly (lf 2) busy ∧ (busy.commands 2).length < 8 ∧ (busy.printer 2).admin ≠ .inService) ∧
    (HeardPlainly (lf 1) busy ∧ (busy.commands 1).length < 8 ∧ (busy.printer 1).admin = .inService ∧
      ∀ i, (busy.account i).badge ≠ some 4294967295) ∧
    ((∀ k, (busy.account k).badge = some 8 → k = 1) ∧ (busy.account 1).badge = some 8 ∧
      (busy.account 1).state = .suspended) ∧
    ((∀ k, (busy.account k).badge = some 7 → k = 0) ∧ (busy.account 0).badge = some 7 ∧
      (busy.account 0).state = .active ∧ owningTenant busy 0 = some 0) := by
  refine ⟨by decide, by decide, ⟨by decide, by decide, by decide, badge_free _ (by decide)⟩,
    ⟨?_, by decide⟩, ⟨?_, by decide⟩⟩
  · exact busy.forall_account (fun k a => a.badge = some 8 → k = 1) (by simp [Account.free]) (by decide)
  · exact busy.forall_account (fun k a => a.badge = some 7 → k = 0) (by simp [Account.free]) (by decide)

/-- The session at printer 1. -/
def panel : Session := ⟨0, 0, [⟨0, 1⟩], [], 1⟩

/-- Printer 1 holding a condition kind since a time with no clock. -/
def holding (k : ConditionKind) : State :=
  busy.setPrinter 1 { busy.printer 1 with conditions := [(k.code, some ⟨none⟩)] }

/-- A state with printer 1's command queue full. -/
def full (s : State) : State := s.setCommands 1 (List.replicate 8 (.abort 1))

/-- The busy part with every grace time 0. -/
def ungraced : State := { busy with cu := { busy.cu with graceTimes := List.replicate 8 0 } }

theorem test_meets_SelectTakesItsJobs :
    (HeardPlainly (lf 0) busy ∧ busy.session 0 = none ∧ (busy.commands 0).length < 8) ∧
    (HeardPlainly (lf 1) busy ∧ busy.session 1 = some panel ∧ (busy.commands 1).length ≤ 6) ∧ FleetLaws busy ∧
    selectCheck busy 1 panel ⟨9, 9⟩ = some .stale ∧ selectCheck busy 1 panel ⟨0, 1⟩ = none ∧
    (8 ≤ ((full busy).commands 1).length ∧ ((full busy).printer 1).holds .unreachable = false ∧
      0 < (full busy).cu.graceTimes.getD ConditionKind.unreachable.code 0) ∧
    (8 ≤ ((full ungraced).commands 1).length ∧ ((full ungraced).printer 1).holds .unreachable = false ∧
      (full ungraced).cu.graceTimes.getD ConditionKind.unreachable.code 0 = 0 ∧
      ((full ungraced).printer 1).admin ≠ .outOfService) ∧
    (8 ≤ ((full (holding .unreachable)).commands 1).length ∧
      ((full (holding .unreachable)).printer 1).holds .unreachable = true) :=
  ⟨by decide, by decide, busy_laws busy (.inl rfl), by decide⟩

/-- Each of the nine checks is the first to fail somewhere, and job 0 passes them all at printer 1. -/
theorem test_meets_SelectChecksComeInOrder :
    selectCheck busy 1 panel ⟨9, 9⟩ = some .stale ∧
    selectCheck busy 1 ⟨0, 0, [], [⟨0, 1⟩], 1⟩ ⟨0, 1⟩ = some .gatewayAway ∧
    selectCheck busy 2 panel ⟨0, 1⟩ = some .printerUnavailable ∧
    selectCheck (busy.setPrinter 1 { busy.printer 1 with conditions := [(7, some ⟨none⟩)], supplyOut := 1 }) 1 panel
      ⟨0, 1⟩ = some .classUnavailable ∧
    selectCheck (busy.setTenant 0 { tenant0 with day := ⟨true, 3, 480, false⟩ }) 1 panel ⟨0, 1⟩ = some .policyLimit ∧
    selectCheck (busy.setPrinter 1 { busy.printer 1 with queue := List.replicate 4 ⟨9, 9⟩ }) 1 panel ⟨0, 1⟩ =
      some .printerBusy ∧
    selectCheck (busy.setLane 1 .k (some { newLane 0 10000 with committed := 9997 })) 1 panel ⟨0, 1⟩ =
      some .insufficientSupply ∧
    selectCheck (busy.setTenant 0 { tenant0 with ceiling := ⟨some 3, none⟩ }) 1 panel ⟨0, 1⟩ = some .tenantCeiling ∧
    selectCheck (busy.setAccount 0 { owner with balance := ⟨18, 0⟩ }) 1 panel ⟨0, 1⟩ = some .quota ∧
    selectCheck busy 1 panel ⟨0, 1⟩ = none := by decide

theorem test_meets_SelectReleasesAJob :
    HeardPlainly (lf 1) busy ∧ busy.session 1 = some panel ∧ (busy.commands 1).length ≤ 6 ∧
    selectCheck (restarted 1 busy) 1 panel ⟨9, 9⟩ = some .stale ∧
    selectCheck (restarted 1 busy) 1 panel ⟨0, 1⟩ = none ∧ owningTenant busy (busy.job 0).owner = some 0 ∧
    (busy.printer 1).queue = [] ∧ FleetLaws busy :=
  ⟨by decide, by decide, by decide, by decide, by decide, by decide, by decide, busy_laws busy (.inl rfl)⟩

theorem test_meets_SessionEndClosesTheSession :
    HeardPlainly (lf 1) busy ∧ (busy.session 1).isSome = true ∧ HeardPlainly (lf 0) busy ∧ busy.session 0 = none := by
  decide

/-- A colour enrolment at the ends of its ranges, and a mono one. -/
def colourPrinter : Enrolment := ⟨99, 15, true, .each (some 31)⟩
def monoPrinter : Enrolment := ⟨0, 0, false, ⟨some 0, none, none, none⟩⟩

theorem colour_types : (∀ l, (l = .k ∨ colourPrinter.colour = true) → ∃ ty, colourPrinter.types.get l = some ty ∧ ty < 32) ∧
    ∀ l, l ≠ .k → colourPrinter.colour = false → colourPrinter.types.get l = none :=
  ⟨fun l _ => ⟨31, by cases l <;> rfl, by decide⟩, fun l _ h => by cases h⟩

theorem test_meets_EnrolMakesAPrinter :
    (Ready (hd .f) (.enrol 63 colourPrinter) busy ∧ (busy.printer 63).enrolled = false ∧ colourPrinter.floor ≤ 99 ∧
      colourPrinter.group ≤ 15) ∧
    (∀ l, (l = .k ∨ colourPrinter.colour = true) → ∃ ty, colourPrinter.types.get l = some ty ∧ ty < 32) ∧
    (∀ l, l ≠ .k → colourPrinter.colour = false → colourPrinter.types.get l = none) ∧
    (∀ ty, 1 ≤ (busy.ctype ty).capacity ∧ (busy.ctype ty).critical ≤ 99 ∧ (busy.ctype ty).reorder ≤ 99) :=
  ⟨by decide, colour_types.1, colour_types.2,
    busy.forall_ctype (fun _ r => 1 ≤ r.capacity ∧ r.critical ≤ 99 ∧ r.reorder ≤ 99) (fun _ => by decide) (by decide)⟩

/-- A session left open at printer 3, which is OUT_OF_SERVICE. -/
def leftOpen : State := busy.setSession 3 (some ⟨2, 0, [], [], 1⟩)

/-- Printer 3 a colour printer with its lanes K and C alone, lane C EMPTY and in its SUPPLY callout. -/
def emptied : State :=
  ((busy.setPrinter 3 { busy.printer 3 with
      colour := true, laneTypes := .each (some 1), conditions := [(0, some ⟨none⟩), (7, some ⟨none⟩)], supplyOut := 2 }).setLane
    3 .c (some { newLane 1 10000 with estimate := 0, state := .empty })).setCallouts
      (busy.cu.callouts ++ [⟨2, 3, .supply, [.lane .c], 1, false, none, none⟩])

theorem mono_types : (∀ l, (l = .k ∨ monoPrinter.colour = true) → ∃ ty, monoPrinter.types.get l = some ty ∧ ty < 32) ∧
    ∀ l, l ≠ .k → monoPrinter.colour = false → monoPrinter.types.get l = none :=
  ⟨fun l h => h.elim (fun e => ⟨0, by rw [e]; rfl, by decide⟩) (fun e => by cases e),
    fun l h _ => by cases l <;> first | rfl | exact absurd rfl h⟩

theorem test_meets_ReEnrolAndUnenroll_mono :
    (Ready (hd .f) (.enrol 3 monoPrinter) emptied ∧ (emptied.printer 3).enrolled = true ∧
      (emptied.printer 3).admin = .outOfService ∧ monoPrinter.colour = false ∧ (emptied.lane 3 .c).isSome = true ∧
      hasLane (emptied.printer 3).supplyOut .c = true ∧ CalloutLaw emptied ∧ emptied.cu.deferrals = []) ∧
    (∀ l, (l = .k ∨ monoPrinter.colour = true) → ∃ ty, monoPrinter.types.get l = some ty ∧ ty < 32) ∧
    (∀ l, l ≠ .k → monoPrinter.colour = false → monoPrinter.types.get l = none) :=
  ⟨by decide, mono_types.1, mono_types.2⟩

theorem test_meets_ReEnrolAndUnenroll :
    (Ready (hd .f) (.enrol 0 colourPrinter) busy ∧ (busy.printer 0).enrolled = true ∧
      (busy.printer 0).admin ≠ .outOfService) ∧
    (Ready (hd .f) (.enrol 3 colourPrinter) busy ∧ (busy.printer 3).enrolled = true ∧
      (busy.printer 3).admin = .outOfService) ∧
    (∀ l, (l = .k ∨ colourPrinter.colour = true) → ∃ ty, colourPrinter.types.get l = some ty ∧ ty < 32) ∧
    (∀ l, l ≠ .k → colourPrinter.colour = false → colourPrinter.types.get l = none) ∧
    Ready (hd .f) (.unenroll 0) busy ∧ (Ready (hd .f) (.unenroll 3) busy ∧ busy.session 3 = none) ∧
    (Ready (hd .f) (.unenroll 3) leftOpen ∧ (leftOpen.session 3).isSome = true ∧ (leftOpen.commands 3).length < 8) :=
  ⟨by decide, by decide, colour_types.1, colour_types.2, by decide, by decide, by decide⟩

/-- The busy part with no callout, and with printer 3's grace record idle. -/
def uncalled : State := busy.setCallouts []
def unspent : State := busy.setGrace 3 .jam .idle

theorem test_meets_SetAdminMovesThePrinter :
    (Ready (hd .f) (.setAdmin 0 .inService) busy ∧ (busy.printer 0).admin = .inService) ∧
    (Ready (hd .f) (.setAdmin 0 .outOfService) busy ∧ (busy.printer 0).queue ≠ []) ∧
    (Ready (hd .f) (.setAdmin 0 .draining) busy ∧ (busy.printer 0).admin ≠ .draining) ∧
    (Ready (hd .f) (.setAdmin 3 .inService) busy ∧ (busy.printer 3).enrolled = true ∧
      (busy.printer 3).admin = .outOfService ∧ busy.grace 3 .jam = .spent) ∧ FleetLaws busy ∧
    (Ready (hd .f) (.setAdmin 3 .inService) uncalled ∧ uncalled.grace 3 .jam = .spent ∧ FleetLaws uncalled ∧
      ∀ c ∈ uncalled.cu.callouts, c.key ≠ (3, .service)) ∧
    (Ready (hd .f) (.setAdmin 3 .inService) unspent ∧ FleetLaws unspent ∧ unspent.cu.grace = []) :=
  ⟨by decide, by decide, by decide, by decide, busy_laws busy (.inl rfl),
    ⟨by decide, by decide, busy_laws busy (.inl rfl), by decide⟩,
    ⟨by decide, ⟨by decide, (busy_laws busy (.inl rfl)).2⟩, by decide⟩⟩

theorem test_meets_FlushEndsEveryJob :
    (Ready (hd .f) (.flushPrinter 0) busy ∧ (busy.printer 0).enrolled = true ∧ (busy.printer 0).admin ≠ .draining) ∧
    (let s := busyWith .draining .active 5
     Ready (hd .f) (.flushPrinter 0) s ∧ (s.printer 0).admin = .draining ∧ FleetLaws s ∧ LaneLaw s ∧
      (s.commands 0).length < 8 ∧ (s.printer 0).queue.length = 2) :=
  ⟨by decide, by decide, by decide, busy_laws _ (.inr (.inr (.inr rfl))),
    busy_lanes _ (.inr (.inr (.inr rfl))), by decide, by decide⟩

theorem test_meets_FacilitySettings :
    (Ready (hd .f) (.setPrinterTimers 1 (some 10) (some 255)) busy ∧ (busy.printer 1).enrolled = true) ∧
    Ready (hd .f) (.setWalkup (some 255) (some 7)) busy ∧ Ready (hd .f) (.clearCondition 1 .jam) busy ∧
    (Ready (hd .f) (.clearCondition 1 .meterFault) busy ∧ (busy.printer 1).holds .meterFault = false) ∧
    (Ready (hd .f) (.clearCondition 1 .meterFault) (holding .meterFault) ∧
      ((holding .meterFault).printer 1).enrolled = true ∧
      ((holding .meterFault).printer 1).holds .meterFault = true ∧ CalloutLaw (holding .meterFault)) ∧
    Ready (hd .f) (.setWeights (some (List.replicate 8 255)) none) busy ∧
    Ready (hd .f) (.setEstimator (some 100) (some 0)) busy ∧
    (Ready (hd .f) (.setFactor 1 .k 96) busy ∧ (busy.lane 1 .k).isSome = true ∧ busy.lane 1 .y = none) ∧
    Ready (hd .f) (.ackUncounted 1 .k) busy ∧
    Ready (hd .f) (.setGrace .meterFault 255) busy ∧ Ready (hd .f) (.setGrace .supplyOut 0) busy ∧
    Ready (hd .f) (.setGrace .jam 256) busy ∧ Ready (hd .f) (.setEscalation 255) busy ∧
    Ready (hd .f) (.setEscalation 0) busy ∧
    (Ready (hd .f) (.clearHistory 3 0xFF#8) busy ∧ (busy.printer 3).enrolled = true) := by
  and_intros <;> decide

theorem test_meets_ReadsChangeNothing :
    Ready (hd .t0) .readNotices busy ∧ Ready (hd .f) .readPorts busy ∧ Ready (hd .f) (.readPrinter 63) busy ∧
    Ready (hd .f) .readWeights busy ∧ (Ready (hd .f) (.readLanes 1) busy ∧ (busy.printer 1).enrolled = true) ∧
    Canonical busy ∧ Ready (hd .f) .listUncounted busy ∧ Ready (hd .f) (.readType 31) busy ∧
    Ready (hd .f) .listOrders busy ∧ Ready (hd .f) .readLink busy ∧ Ready (hd .t0) .readClock busy := by
  and_intros <;> decide

/-! ### Stock, callouts, link -/

/-- Every field of SET_TYPE at an end of its range. -/
def typeEnds : TypeChanges := ⟨some 65535, some 99, some 1, some 999, some 999⟩

theorem test_meets_TypeAndStockAreSet :
    Canonical busy ∧
    (Ready (hd .f) (.setType 0 ⟨none, some 5, some 5, none, none⟩) busy ∧
      (some 5).getD (busy.ctype 0).reorder ≤ (some 5).getD (busy.ctype 0).critical) ∧
    (Ready (hd .f) (.setType 31 typeEnds) busy ∧
      typeEnds.critical.getD (busy.ctype 31).critical < typeEnds.reorder.getD (busy.ctype 31).reorder) ∧
    (Ready (hd .f) (.adjustStock 0 1) busy ∧ (busy.ctype 0).allocated ≤ 1) ∧ Ready (hd .f) (.adjustStock 0 999) busy ∧
    (Ready (hd .f) (.adjustStock 0 0) busy ∧ 0 < (busy.ctype 0).allocated) ∧
    Ready (hd .f) (.adjustStock 31 1000) busy := by
  and_intros <;> decide

theorem test_meets_LaneMovesToAnotherType :
    FleetLaws busy ∧
    (Ready (hd .f) (.setLaneType 1 .y 31) busy ∧ (busy.printer 1).enrolled = true ∧ busy.lane 1 .y = none) ∧
    (Ready (hd .f) (.setLaneType 1 .k 0) busy ∧ (busy.lane 1 .k).map LaneRecord.type = some 0) ∧
    Ready (hd .f) (.setLaneType 1 .k 31) busy :=
  ⟨busy_laws busy (.inl rfl), by decide, by decide, by decide⟩

/-- The busy part's order acknowledged. -/
def acked : State := busy.setOrders [⟨1, 0, 4, true, none⟩]

theorem acked_orders : OrderLaw acked := by
  refine ⟨by decide, by decide, ?_⟩
  rintro (_ | t)
  · exact .inr ⟨⟨1, 0, 4, true, none⟩, by decide⟩
  · exact .inl ⟨by simp [ordersOf, acked, State.setOrders],
      by simp [State.ctype, acked, State.setOrders, busyWith, Table.get, CartridgeType.cold]⟩

theorem test_meets_AckOrderMarksTheOrder :
    (Ready (hd .f) (.ackOrder 0) busy ∧ Ready (hd .f) (.ackOrder 65536) busy) ∧
    (Ready (hd .f) (.ackOrder 65535) busy ∧ ∀ o ∈ busy.su.orders, o.number ≠ 65535) ∧
    (OrderLaw acked ∧ Ready (hd .f) (.ackOrder 1) acked ∧ ⟨1, 0, 4, true, none⟩ ∈ acked.su.orders) ∧
    (OrderLaw busy ∧ Ready (hd .f) (.ackOrder 1) busy ∧ ⟨1, 0, 4, false, none⟩ ∈ busy.su.orders) ∧
    (Instr.asRequest (.setType (hd .t0) 0 typeEnds) = some (hd .t0, .setType 0 typeEnds) ∧
      kindCode (.setType 0 typeEnds) = 96 ∧ Standing (hd .t0) (.setType 0 typeEnds) busy ∧
      formOk (.setType 0 typeEnds) = true ∧ (busy.port .t0).state = .attached) ∧
    kindCode .listOrders = 103 :=
  ⟨by decide, by decide, ⟨acked_orders, by decide⟩, ⟨busy_orders, by decide⟩, by decide, by decide⟩

/-- Type 1 wants an order: nothing on hand, ordering enabled. -/
def wanting : State := busy.setType 1 { CartridgeType.cold with ordering := true }

/-- Sixteen orders, of types 0 to 15; printer 2's lane waits for type 0, and type 30 stands deferred. -/
def starved : State :=
  ((((busy.setType 0 { CartridgeType.cold with waitList := [⟨2, .k⟩], level := 999, ordering := true }).setType 30
    { CartridgeType.cold with ordering := true }).setLane 2 .k
      (some { newLane 0 10000 with estimate := 1500, state := .low, waiting := true })).setOrders
        ((List.range 16).map (fun k => ⟨k + 1, k, 0, false, none⟩))).setDeferredTypes [30]

theorem starved_orders : OrderLaw starved := by
  refine ⟨by decide, by decide, fun t => ?_⟩
  by_cases h : t < 31
  · have few : ∀ t < 31, (ordersOf starved t = [] ∧ (starved.ctype t).onOrder = 0) ∨
        ∃ o ∈ starved.su.orders, ordersOf starved t = [o] ∧ (starved.ctype t).onOrder = o.quantity := by decide
    exact (few t h).imp id (fun ⟨o, _, e⟩ => ⟨o, e⟩)
  · refine .inl ⟨?_, starved.forall_ctype (fun k r => 31 ≤ k → r.onOrder = 0) (fun _ _ => rfl) (by decide) t (by omega)⟩
    have types : ∀ o ∈ starved.su.orders, o.type < 16 := by decide
    exact List.filter_eq_nil_iff.mpr fun o ho => by have := types o ho; simp; omega

/-- R134: the waiter is served, the deferred type takes the room of the order received, and type 0, still below its level, is
deferred behind it. -/
theorem test_meets_OrdersRaisedReceivedAndCancelled_full :
    OrderLaw starved ∧ ⟨1, 0, 0, false, none⟩ ∈ starved.su.orders ∧ Ready (hd .f) (.receiveOrder 1 1) starved ∧
    (starved.ctype 0).allocated ≤ (starved.ctype 0).onHand ∧ (starved.ctype 0).onHand ≤ 999 ∧
    ∃ t, exec (.receiveOrder (hd .f) 1 1) starved = .next t ∧ (t.ctype 0).waitList = [] ∧
      position (t.ctype 0) ≤ (t.ctype 0).level ∧ (t.ctype 0).ordering = true ∧ (∀ y ∈ t.su.orders, y.type ≠ 0) ∧
      t.su.deferred = [0] ∧ (t.lane 2 .k).map LaneRecord.allocation = some true :=
  ⟨starved_orders, by decide, by decide, by decide, by decide, _, rfl, by decide⟩

theorem test_meets_OrdersRaisedReceivedAndCancelled :
    (OrderLaw busy ∧ ⟨1, 0, 4, false, none⟩ ∈ busy.su.orders ∧ Ready (hd .f) (.receiveOrder 1 1000) busy ∧
      Ready (hd .f) (.receiveOrder 1 999) busy ∧ 0 ∉ busy.su.deferred ∧ Ready (hd .f) (.cancelOrder 1) busy) ∧
    (wantsOrder wanting 1 = true ∧ wanting.su.orders.length < 16 ∧ 2 ∉ wanting.su.orders.map Order.number) ∧
    (let s := wanting.setOrders (List.replicate 16 ⟨1, 5, 1, false, none⟩)
     wantsOrder s 1 = true ∧ 16 ≤ s.su.orders.length ∧ (∀ o ∈ s.su.orders, o.type ≠ 1) ∧ 1 ∉ s.su.deferred) ∧
    ((busy.ctype 1).ordering = false ∧ ((busy.ctype 0).level : Int) < position (busy.ctype 0)) ∧
    (let s := busy.setType 0 { busy.ctype 0 with level := 999 }
     wantsOrder s 0 = false ∧ ¬(((s.ctype 0).level : Int) < position (s.ctype 0) ∨ (s.ctype 0).ordering = false)) ∧
    (let s := wanting.setDeferredTypes [1, 0]
     s.su.orders.length < 16 ∧ s.su.deferred = 1 :: [0] ∧ s.su.deferred.Nodup) :=
  ⟨⟨busy_orders, by decide, by decide, by decide, by decide, by decide⟩, by decide⟩

/-- The busy part's callout, RAISED and ACKNOWLEDGED. -/
def jamCallout (acknowledged : Bool) : Callout :=
  ⟨1, 3, .service, [.condition .jam], 1, acknowledged, some ⟨10, 560⟩, some ⟨10, 600⟩⟩
def answeredCallout : State := busy.setCallouts [jamCallout true]

theorem test_meets_AckCalloutMarksTheCallout :
    (Ready (hd .f) (.ackCallout 0) busy ∧ Ready (hd .f) (.ackCallout 65536) busy) ∧
    (Ready (hd .f) (.ackCallout 65535) busy ∧ ∀ c ∈ busy.cu.callouts, c.number ≠ 65535) ∧
    (CalloutLaw answeredCallout ∧ Ready (hd .f) (.ackCallout 1) answeredCallout ∧
      jamCallout true ∈ answeredCallout.cu.callouts) ∧
    (CalloutLaw busy ∧ Ready (hd .f) (.ackCallout 1) busy ∧ jamCallout false ∈ busy.cu.callouts) ∧
    (Standing (hd .t0) (.ackCallout 1) busy ∧ (busy.port .t0).state = .attached) := by
  and_intros <;> decide

theorem test_meets_ListCalloutsShowsTheQueue : Ready (hd .f) .listCallouts busy := by decide

theorem test_meets_ClearStrayEmptiesTheSet :
    Ready (hd .f) (.clearStray (some 9)) busy ∧
    (Ready (hd .f) (.clearStray (some 63)) busy ∧ Canonical busy ∧ busy.stray 63 = none) ∧
    Ready (hd .f) (.clearStray (some 64)) busy ∧ Ready (hd .f) (.clearStray none) busy ∧
    (reportKindOf (.hello (lf 9) true 4 0) = some (lf 9, .hello) ∧ busy.phase ≠ .off ∧
      (busy.printer 9).enrolled = false) ∧
    (Standing (hd .t0) .readLink busy ∧ Standing (hd .t0) (.clearStray none) busy ∧
      (busy.port .t0).state = .attached) := by
  and_intros <;> decide

/-! ### Time, resets, reports, expiries -/

theorem busy_nothing_due : NothingDue busy := by
  refine ⟨by decide, ?_, ?_, ?_⟩
  · exact busy.forall_grace (fun _ g => g ≠ .expiring) (by simp) (by decide)
  · exact busy.forall_session (fun _ r => ∀ x, r = some x → x.minutes ≠ 0) (by simp) (by decide)
  · exact busy.forall_printer (fun _ p => p.stall ≠ some 0) (fun _ => by decide) (by decide)

theorem test_meets_ClockAndScheduleAreSet :
    (Ready (hd .f) (.setClock 65535 1439 6) busy ∧ PolicyAt (some ⟨65535, 1439, 6⟩) busy.tb.schedule .afterHours ∧
      Canonical busy ∧ NothingDue busy) ∧
    PolicyAt (some ⟨0, 480, 0⟩) busy.tb.schedule .day ∧
    Ready (hd .f) (.setClock 0 1440 0) busy ∧
    (Ready (hd .f) (.setSchedule [⟨6, 0, 1440⟩]) busy ∧ PolicyAt busy.tb.clock busy.tb.schedule .day) ∧
    Ready (hd .f) (.setSchedule [⟨7, 0, 0⟩]) busy ∧
    (Ready (hd .f) (.setSchedule [⟨1, 0, 1⟩, ⟨1, 2, 3⟩]) busy ∧
      ¬(([⟨1, 0, 1⟩, ⟨1, 2, 3⟩] : List ScheduleEntry).map ScheduleEntry.weekday).Nodup) := by
  refine ⟨⟨by decide, ⟨by simp, ?_⟩, by decide, busy_nothing_due⟩, ⟨by simp, ?_⟩, by decide,
    ⟨by decide, ⟨by decide, ?_⟩⟩, by decide, by decide⟩
  · intro c hc; cases hc; decide
  · intro c hc; cases hc; decide
  · intro c hc; cases hc; decide

theorem test_meets_ColdResetsAndPowerLoss :
    Ready (hd .f) .clearAll busy ∧
    (({ busy with phase := .off, rm := ⟨false, true⟩ } : State).phase = .off) ∧
    (({ busy with phase := .justReset } : State).tb.cause ∈ [ResetCause.coldPower, .coldClear]) ∧
    busy.phase ≠ .off := by decide

theorem test_meets_WarmResetKeepsTheRetained :
    Canonical busy ∧ busy.phase ≠ .off ∧
    ¬(busy.phase = .justReset ∧ true = true ∧ busy.tb.cause ∈ [ResetCause.coldPower, .coldClear]) ∧
    (let s : State := { busy with phase := .off }
     Canonical s ∧ s.phase = .off ∧ s.rm.marker = true) ∧ StockLaw busy :=
  ⟨by decide, by decide, by decide, by decide, busy_stock busy (.inl rfl)⟩

theorem test_meets_HelloMakesPresent :
    (Canonical busy ∧ busy.phase ≠ .off ∧ (busy.printer 3).enrolled = true ∧ (busy.printer 3).queue = [] ∧
      (busy.printer 3).holds .unreachable = false ∧ (busy.printer 3).holds .mismatch = false ∧
      (busy.printer 3).colour = false) ∧
    (FleetLaws busy ∧ (busy.printer 0).queue = [⟨1, 1⟩, ⟨2, 1⟩] ∧ (busy.job 1).state = .active) ∧
    (let s := busyWith .inService .cancelling 0
     FleetLaws s ∧ (s.printer 0).queue = [⟨1, 1⟩, ⟨2, 1⟩] ∧ (s.job 1).state = .cancelling) :=
  ⟨by decide, ⟨busy_laws busy (.inl rfl), by decide⟩, busy_laws _ (.inr (.inr (.inl rfl))), by decide⟩

theorem test_meets_StatusCountsTheMeter :
    Canonical busy ∧
    (let s := busy.setPrinter 1 { busy.printer 1 with meter := none }
     Canonical s ∧ HeardPlainly (lf 1) s ∧ (s.printer 1).meter = none) ∧
    (HeardPlainly (lf 1) busy ∧ (busy.printer 1).meter = some 100 ∧ (busy.printer 1).surplus = 0 ∧
      busy.ft.walkupMargin = 10 ∧ (busy.printer 1).queue = [] ∧ (busy.printer 1).holds .meterFault = false) ∧
    (HeardPlainly (lf 0) busy ∧ (busy.printer 0).queue = [⟨1, 1⟩, ⟨2, 1⟩] ∧ (busy.job 1).state = .active) ∧
    (Canonical (holding .meterFault) ∧ HeardPlainly (lf 1) (holding .meterFault) ∧
      ((holding .meterFault).printer 1).holds .meterFault = true) := by
  and_intros <;> decide

theorem test_meets_ConditionOnsetAndClear :
    (Canonical (holding .jam) ∧ HeardPlainly (lf 1) (holding .jam) ∧ ((holding .jam).printer 1).holds .jam = true) ∧
    (Canonical busy ∧ HeardPlainly (lf 1) busy ∧ (busy.printer 1).holds .jam = false ∧
      busy.cu.graceTimes.getD ConditionKind.jam.code 0 = 10) ∧
    ((busy.printer 1).holds .hardware = false ∧ busy.cu.graceTimes.getD ConditionKind.hardware.code 0 = 0 ∧
      (busy.printer 1).admin ≠ .outOfService ∧ FleetLaws busy ∧ (∀ c ∈ busy.cu.callouts, c.key ≠ (1, .service)) ∧
      busy.cu.callouts.length < 32) :=
  ⟨by decide, by decide, by decide, by decide, by decide, busy_laws busy (.inl rfl), by decide, by decide⟩

theorem test_meets_LevelAndInstalled :
    (Canonical busy ∧ HeardPlainly (lf 1) busy ∧ (busy.lane 1 .k).bind LaneRecord.candidate = some 16) ∧
    busy.lane 1 .y = none ∧ FleetLaws busy ∧
    ((busy.lane 1 .k).map LaneRecord.allocation = some true ∧ (busy.ctype 0).capacity = 10000) ∧
    (HeardPlainly (lf 2) busy ∧ (busy.lane 2 .k).map LaneRecord.allocation = some false ∧
      (busy.ctype 0).allocated < (busy.ctype 0).onHand) ∧
    (HeardPlainly (lf 0) busy ∧ (busy.lane 0 .k).map LaneRecord.type = some 1 ∧
      (busy.ctype 1).onHand ≤ (busy.ctype 1).allocated ∧ (busy.ctype 1).capacity = 10000) :=
  ⟨by decide, by decide, busy_laws busy (.inl rfl), by decide, by decide, by decide⟩

theorem test_meets_ProgressTakesTheCounts :
    Canonical busy ∧
    (HeardPlainly (lf 0) busy ∧ (busy.printer 0).queue = [⟨1, 1⟩, ⟨2, 1⟩] ∧ (busy.job 1).state = .active ∧
      (busy.job 1).grant = some 1) ∧
    (HeardPlainly (lf 1) busy ∧ (busy.printer 1).queue = [] ∧
      (busy.printer 1).stalled = some ⟨9, 2, 3, none, ⟨2, 0⟩⟩) ∧
    (let s := busy.setJob 1 { busy.job 1 with done := ⟨19998, 0⟩, doneAtRelease := ⟨19990, 0⟩ }
     Canonical s ∧ HeardPlainly (lf 0) s ∧ (s.job 1).grant = some 1 ∧ pagesPrinted (s.job 1) = ⟨8, 0⟩ ∧
      (countTaken (s.job 1) ⟨9, 0⟩).done = (s.job 1).done) := by decide

/-- R96, R100: at done 19998 a higher count lowers the surplus and leaves the stall count. -/
theorem test_saturated_progress_keeps_the_stall_count :
    let s := busy.setJob 1 { busy.job 1 with done := ⟨19998, 0⟩, doneAtRelease := ⟨19990, 0⟩ }
    let s := s.setPrinter 0 { s.printer 0 with stall := some 3 }
    let t := takeProgress 0 1 ⟨9, 0⟩ s
    (t.printer 0).stall = some 3 ∧ (t.printer 0).surplus = (s.printer 0).surplus - 1 ∧
    ((takeProgress 0 1 ⟨9, 0⟩ (s.setJob 1 (busy.job 1))).printer 0).stall = some (s.printer 0).stallLimit := by decide

theorem test_meets_JobEndSettlesTheJob :
    (FleetLaws busy ∧ LaneLaw busy ∧ HeardPlainly (lf 0) busy ∧ (busy.commands 0).length < 8 ∧
      (busy.printer 0).queue = [⟨1, 1⟩, ⟨2, 1⟩] ∧ (busy.job 1).state = .active ∧ (busy.job 1).grant = some 1 ∧
      (busy.job 1).pages = ⟨10, 0⟩ ∧ pagesPrinted (countTaken (busy.job 1) ⟨10, 0⟩) = ⟨10, 0⟩) ∧
    (let s := busyWith .inService .cancelling 0
     FleetLaws s ∧ LaneLaw s ∧ HeardPlainly (lf 0) s ∧ (s.job 1).state = .cancelling) ∧
    (HeardPlainly (lf 1) busy ∧ (busy.commands 1).length < 8 ∧ (busy.printer 1).queue = [] ∧
      (busy.printer 1).stalled = some ⟨9, 2, 3, none, ⟨2, 0⟩⟩ ∧ (busy.account 2).state ≠ .free) :=
  ⟨⟨busy_laws busy (.inl rfl), busy_lanes busy (.inl rfl), by decide⟩,
    ⟨busy_laws _ (.inr (.inr (.inl rfl))), busy_lanes _ (.inr (.inr (.inl rfl))), by decide⟩, by decide⟩

theorem test_meets_LinkDropsStraysAndConfirms :
    (reportKindOf (.sessionEnd ⟨1, false⟩) = some (⟨1, false⟩, .sessionEnd) ∧ busy.phase ≠ .off) ∧
    reportKindOf (.sessionEnd (lf 64)) = some (lf 64, .sessionEnd) ∧
    ¬ReportInRange (.hello (lf 1) true 5 0) ∧
    (busy.printer 63).enrolled = false ∧
    ((busy.printer 3).enrolled = true ∧ (busy.printer 3).presence = .unknown) ∧
    (Heard (lf 1) (holding .unreachable) ∧ ((holding .unreachable).printer 1).holds .unreachable = true ∧
      ((holding .unreachable).commands 1).length < 8) ∧
    (busy.commands 1 = [.offer [⟨⟨0, 1⟩, 0, ⟨4, 0⟩⟩]] ∧ busy.commands 0 = [] ∧ (turnFor busy 3).greeting = true) :=
  ⟨by decide, by decide, by simp [ReportInRange], by decide, by decide, by decide, by decide⟩

theorem busy_no_expiry (minute : Bool) : NoExpiryDue { busy with owed := { Owed.nothing with minute := minute } } :=
  ⟨rfl, busy_nothing_due.2⟩

theorem test_meets_TimeBaseEventsStepTheCounts :
    Canonical busy ∧ busy.phase ≠ .off ∧ NothingDue busy ∧ (∀ n, (busy.printer n).silence ≠ some 0) ∧
    busy.tb.second + 1 < 60 ∧
    (let s : State := { busy with tb := { busy.tb with second := 59 } }
     Canonical s ∧ NothingDue s ∧ 60 ≤ s.tb.second + 1) ∧
    NoExpiryDue busy ∧
    (let s : State := { busy with owed := { Owed.nothing with minute := true } }
     Canonical s ∧ s.phase ≠ .off ∧ NoExpiryDue s ∧ s.owed.minute = true) :=
  ⟨by decide, by decide, busy_nothing_due,
    busy.forall_printer (fun _ p => p.silence ≠ some 0) (fun _ => by decide) (by decide), by decide, ⟨by decide,
    busy_nothing_due, by decide⟩, busy_no_expiry false, by decide, by decide, busy_no_expiry true, rfl⟩

/-- The busy part with the work of a minute event owed. -/
def owing : State := { busy with owed := ⟨false, [0], true, [1]⟩ }
/-- Printer 1's jam has run out its grace time. -/
def graceOut : State := busy.setGrace 1 .jam .expiring

theorem test_meets_TimerExpiriesAct :
    ((busy.setPrinter 1 { busy.printer 1 with silence := some 0 }).printer 1).silence = some 0 ∧
    ((busy.printer 1).silence ≠ some 0 ∧ (busy.printer 0).stall ≠ some 0 ∧ 0 ∉ busy.owed.timerSteps ∧
      ∀ x, busy.session 1 = some x → x.minutes ≠ 0) ∧
    (let s := busy.setSession 1 (some ⟨0, 0, [], [], 0⟩)
     (s.session 1).map Session.minutes = some 0 ∧ (s.commands 1).length < 8 ∧ s.phase ≠ .off) := by decide

theorem test_meets_StallExpiryEndsTheHead :
    ∀ head ∈ [JobState.active, .cancelling],
      let s := busyWith .inService head 0
      FleetLaws s ∧ LaneLaw s ∧ s.phase ≠ .off ∧ (s.printer 0).stall = some 0 ∧
        (s.printer 0).queue = [⟨1, 1⟩, ⟨2, 1⟩] ∧ (s.job 1).state = head ∧ (s.commands 0).length ≤ 6 := by
  intro head hh
  simp only [List.mem_cons, List.not_mem_nil, or_false] at hh
  rcases hh with rfl | rfl
  · exact ⟨busy_laws _ (.inr (.inl rfl)), busy_lanes _ (.inr (.inl rfl)), by decide⟩
  · exact ⟨busy_laws _ (.inr (.inr (.inl rfl))), busy_lanes _ (.inr (.inr (.inl rfl))), by decide⟩

theorem test_meets_MinuteWorkIsTaken :
    (Canonical owing ∧ owing.phase ≠ .off ∧ 0 ∈ owing.owed.timerSteps ∧ (owing.tenant 0).timer.running = true ∧
      owing.tb.clock ≠ none ∧ (owing.tenant 0).timer.count ≤ 1 ∧ (owing.tenant 0).timer.unit = .minutes) ∧
    (owing.owed.jobExpiry = true ∧ owing.now = some ⟨10, 600⟩) ∧
    (Canonical graceOut ∧ graceOut.grace 1 .jam = .expiring ∧
      ∀ (m : Nat) (x : ConditionKind), 8 * m + x.code < 8 * 1 + ConditionKind.jam.code → graceOut.grace m x ≠ .expiring) ∧
    (CalloutLaw owing ∧ jamCallout false ∈ owing.cu.callouts ∧ owing.owed.escalations = [(jamCallout false).number] ∧
      (jamCallout false).deadline = some ⟨10, 600⟩ ∧ timeMinutes ⟨10, 600⟩ ≤ timeMinutes ⟨10, 600⟩) := by
  refine ⟨by decide, by decide, ⟨by decide, by decide, ?_⟩, by decide⟩
  exact graceOut.forall_grace (fun k g => k < 8 * 1 + ConditionKind.jam.code → g ≠ .expiring) (by simp) (by decide)

end Sys2Proof.Tests
end

/-! The requests of accounts and tenants: what an owner that only answers, or changes one record, leaves (R4 to R17, R27, R28,
R36), the reads of jobs (R57 to R60), and the values of a cold reset. -/

namespace Sys2Proof.Machine

/-! ### Searching a table of the canonical form -/

section
variable {α : Type} (d : α)

/-- A record that differs from the unlisted one is listed. -/
theorem Table.mem_of_get_ne (k : Nat) (t : Table α) (h : Table.get d t k ≠ d) : (k, Table.get d t k) ∈ t := by
  induction t with
  | nil => exact absurd rfl h
  | cons e t ih =>
    obtain ⟨k', v⟩ := e
    by_cases hk : k = k'
    · subst hk; simp [Table.get_cons_same]
    · rw [Table.get_cons_other d k k' v t hk] at h ⊢
      exact List.mem_cons_of_mem _ (ih h)

/-- A test that fails on the unlisted record finds a listed record exactly when it holds of some read. -/
theorem Table.any_iff (p : Nat → α → Bool) (t : Table α) (ht : Table.Sound d t) (hd : ∀ k, p k d = false) :
    t.any (fun e => p e.1 e.2) = true ↔ ∃ k, p k (Table.get d t k) = true := by
  rw [List.any_eq_true]
  constructor
  · rintro ⟨⟨k, v⟩, hm, hp⟩
    exact ⟨k, by rw [Table.get_of_mem d k v t ht hm]; exact hp⟩
  · rintro ⟨k, hp⟩
    have hk : Table.get d t k ≠ d := by intro e; simp [e, hd] at hp
    exact ⟨_, Table.mem_of_get_ne d k t hk, hp⟩

theorem Table.lt_of_above_numbers (lo : Nat) (t : Table α) (h : Table.above lo t) : ∀ k ∈ Table.numbers t, lo < k := by
  intro k hk
  obtain ⟨⟨k', v⟩, hm, rfl⟩ := List.mem_map.1 hk
  exact Table.lt_of_mem_above k' v lo t h hm

/-- The numbers of a canonical table rise strictly. -/
theorem Table.numbers_sorted (t : Table α) (ht : Table.Sound d t) : (Table.numbers t).Pairwise (· < ·) := by
  induction t with
  | nil => exact List.Pairwise.nil
  | cons e t ih =>
    obtain ⟨k, v⟩ := e
    exact List.Pairwise.cons (Table.lt_of_above_numbers k t ht.2.1) (ih ht.2.2)

theorem Table.mem_numbers_of_get_ne (k : Nat) (t : Table α) (h : Table.get d t k ≠ d) : k ∈ Table.numbers t :=
  List.mem_map.2 ⟨_, Table.mem_of_get_ne d k t h, rfl⟩

end

/-! ### What a request leaves when its owner answers, or changes one record -/

section
variable (h : Head) (r : Request) (owner : State → State × Answer) (s : State)

/-- An owner that only answers leaves the state with the answer out and nothing else changed. -/
theorem request_answers (a : Answer) (rd : Ready h r s) (ho : owner (atOwner h r s) = (atOwner h r s, a)) :
    request h r owner s = .next (answered h r a s) := by
  rw [request_ready h r owner s rd, ho, issueAnswer_atOwner]

/-- An owner that replaces one account's record and answers. -/
theorem request_setsAccount (a : Answer) (i : Nat) (v : Account) (rd : Ready h r s)
    (ho : owner (atOwner h r s) = ((atOwner h r s).setAccount i v, a)) :
    request h r owner s = .next ((answered h r a s).setAccount i v) := by
  rw [request_ready h r owner s rd, ho, ← issueAnswer_atOwner]
  rfl

/-- An owner that replaces one tenant's record and answers. -/
theorem request_setsTenant (a : Answer) (n : Nat) (v : Tenant) (rd : Ready h r s)
    (ho : owner (atOwner h r s) = ((atOwner h r s).setTenant n v, a)) :
    request h r owner s = .next ((answered h r a s).setTenant n v) := by
  rw [request_ready h r owner s rd, ho, ← issueAnswer_atOwner]
  rfl

end

/-! ### Whose account a request names (R4) -/

/-- R4: a tenant's port reaches the accounts of its tenant's window. -/
theorem accountReach_own (p : PortName) (n i : Nat) (ok : Bool) (s : State) (hp : p.tenant = some n) (hi : i < 1024)
    (ho : (s.tenant n).owns i = true) (hok : ok = true) : accountReach p i ok s = none := by
  have hi' : i < Config.accounts := hi
  simp [accountReach, hp, hi', ho, hok]

/-- R4: port F reaches every account. -/
theorem accountReach_facility (p : PortName) (i : Nat) (s : State) (hi : i < 1024)
    (ho : ∀ n, p.tenant = some n → (s.tenant n).owns i = true) : accountReach p i true s = none := by
  have hi' : i < Config.accounts := hi
  cases hp : p.tenant with
  | none => simp [accountReach, hp, hi']
  | some n => exact accountReach_own p n i true s hp hi (ho n hp) rfl

/-- R4: a request on an account of the sender that stands as it must reaches its act. -/
theorem onAccount_own (p : PortName) (n i : Nat) (ok : Bool) (suits : AccountState → Bool)
    (act : Account → State × Answer) (s : State) (hp : p.tenant = some n) (hi : i < 1024)
    (ho : (s.tenant n).owns i = true) (hok : ok = true) (hf : (s.account i).state ≠ .free)
    (hs : suits (s.account i).state = true) : onAccount p i ok suits act s = act (s.account i) := by
  simp [onAccount, accountReach_own p n i ok s hp hi ho hok, accountStands, hf, hs]

/-- R8: the search for a badge finds it exactly when another non-FREE account holds it. -/
theorem badgeHeldByOther_iff (s : State) (i b : Nat) (hc : Canonical s) :
    badgeHeldByOther s i b = true ↔ ∃ j, j ≠ i ∧ (s.account j).state ≠ .free ∧ (s.account j).badge = some b := by
  have found := Table.any_iff Account.free (fun k a => k != i && a.state != .free && a.badge == some b)
    s.au.accounts ((Table.wf_iff_sound _ _).1 hc.1) (by simp [Account.free])
  simpa [badgeHeldByOther, State.account, and_assoc] using found

/-- R10: the search for a job of an account finds one exactly when a non-FREE entry names it as owner. -/
theorem namedByJob_iff (s : State) (i : Nat) (hc : Canonical s) :
    namedByJob s i = true ↔ ∃ j, (s.job j).state ≠ .free ∧ (s.job j).owner = i := by
  obtain ⟨-, -, hj, -⟩ := hc
  have found := Table.any_iff (Job.freeAt 0) (fun _ j => j.state != .free && j.owner == i)
    s.jt.jobs ((Table.wf_iff_sound _ _).1 hj) (by simp [Job.freeAt])
  simpa [namedByJob, State.job] using found

/-! ### OPEN_ACCOUNT (R5, R8) -/

theorem limitsOk_of_le (l : PerClass Limits)
    (hl : ∀ c, (l.get c).allowance ≤ 65535 ∧ (l.get c).overdraft ≤ 65535 ∧ (l.get c).carryCap ≤ 65535) :
    l.all limitsOk = true := by
  obtain ⟨m1, m2, m3⟩ := hl .mono
  obtain ⟨c1, c2, c3⟩ := hl .colour
  simp only [PerClass.get] at m1 m2 m3 c1 c2 c3
  simp [PerClass.all, limitsOk, pagesOk, inRange, *]

/-- Settles O18: the owner's three branches, the badge search read by `badgeHeldByOther_iff`. -/
theorem openAccountFillsARecord : Obligations.OpenAccountFillsARecord := by
  intro h n i badge l s hc rd hm hl hb
  obtain ⟨hp, hi, ho⟩ := hm
  have hbadge : badge.all badgeOk = true := by
    cases badge with
    | none => rfl
    | some b => simpa [badgeOk, inRange] using hb b rfl
  have reach : accountReach h.port i (l.all limitsOk && badge.all badgeOk) (atOwner h (.openAccount i badge l) s) = none :=
    accountReach_own h.port n i _ _ hp hi (by simpa using ho) (by simp [limitsOk_of_le l hl, hbadge])
  have held : badge.any (badgeHeldByOther (atOwner h (.openAccount i badge l) s) i) = true ↔
      ∃ j b, badge = some b ∧ j ≠ i ∧ (s.account j).state ≠ .free ∧ (s.account j).badge = some b := by
    cases badge with
    | none => simp
    | some b => simpa using badgeHeldByOther_iff (atOwner h (.openAccount i (some b) l) s) i b hc
  refine ⟨fun hf => ?_, fun hf taken => ?_, fun hf clear => ?_⟩
  · exact request_answers h _ _ s _ rd (by simp [openAccount, reach, hf, refuse])
  · exact request_answers h _ _ s _ rd (by simp [openAccount, reach, hf, held.2 taken, refuse])
  · have unheld : badge.any (badgeHeldByOther (atOwner h (.openAccount i badge l) s) i) = false := by
      rw [Bool.eq_false_iff, ne_eq, held]
      rintro ⟨j, b, e, hj, hs, hjb⟩
      exact clear j b e hj hs hjb
    exact request_setsAccount h _ _ s _ i (openedAccount badge l) rd (by simp [openAccount, reach, hf, unheld, accept])

/-! ### The requests that change one field group of an account (R6, R7, R9, R11) -/

theorem changesOk_of_le (c : PerClass LimitChanges)
    (hc : ∀ k x, ((c.get k).allowance = some x ∨ (c.get k).overdraft = some x ∨ (c.get k).carryCap = some x) → x ≤ 65535) :
    c.all changesOk = true := by
  have one : ∀ k, changesOk (c.get k) = true := by
    intro k
    simp only [changesOk, Bool.and_eq_true, Option.all_eq_true, pagesOk, inRange]
    refine ⟨⟨fun x hx => ?_, fun x hx => ?_⟩, fun x hx => ?_⟩ <;> have := hc k x (by simp [hx]) <;> simpa using this
  simp [PerClass.all, show changesOk c.mono = true from one .mono, show changesOk c.colour = true from one .colour]

/-- Settles O19: each request reaches its act on the account's record (`onAccount_own`) and replaces that record alone. -/
theorem accountFieldsChange : Obligations.AccountFieldsChange := by
  intro h n i s hm hf
  obtain ⟨hp, hi, ho⟩ := hm
  have own : ∀ (r : Request) (ok : Bool) (suits : AccountState → Bool) (act : Account → State × Answer), ok = true →
      suits (s.account i).state = true →
      onAccount h.port i ok suits act (atOwner h r s) = act (s.account i) := by
    intro r ok suits act hok hs
    simpa using onAccount_own h.port n i ok suits act (atOwner h r s) hp hi (by simpa using ho) hok (by simpa using hf)
      (by simpa using hs)
  refine ⟨fun c rd hc => ?_, fun b rd h1 h2 hcan clear => ?_, fun rd => ?_, fun rd hs => ?_, fun k d rd h1 h2 => ?_⟩
  · exact request_setsAccount h _ _ s _ i _ rd (own _ _ _ _ (changesOk_of_le c hc) rfl)
  · have unheld : badgeHeldByOther (atOwner h (.setBadge i b) s) i b = false := by
      rw [Bool.eq_false_iff, ne_eq, badgeHeldByOther_iff (atOwner h (.setBadge i b) s) i b hcan]
      rintro ⟨j, hj, hs, hjb⟩
      exact clear j hj (by simpa using hs) (by simpa using hjb)
    refine request_setsAccount h _ _ s _ i _ rd ((own _ _ _ _ (by simp [badgeOk, inRange, h1, h2]) rfl).trans ?_)
    simp [unheld, accept]
  · exact request_setsAccount h _ _ s _ i _ rd (own _ _ _ _ rfl rfl)
  · exact request_setsAccount h _ _ s _ i _ rd (own _ _ _ _ rfl (by simp [hs]))
  · exact request_setsAccount h _ _ s _ i _ rd (own _ _ _ _ (by simp [deltaOk, h1, h2]) rfl)

/-! ### SUSPEND_ACCOUNT and CLOSE_ACCOUNT (R9, R10, R72) -/

/-- The printers found for an account are those at which its session stands, each once. -/
theorem mem_sessionsOf (s : State) (i m : Nat) (hc : Table.wf none s.ru.sessions = true) :
    m ∈ sessionsOf s i ↔ ∃ x, s.session m = some x ∧ x.account = i := by
  have ht := (Table.wf_iff_sound _ _).1 hc
  simp only [sessionsOf, List.mem_map, List.mem_filter]
  constructor
  · rintro ⟨⟨k, v⟩, ⟨hm, hv⟩, rfl⟩
    obtain ⟨x, rfl, hx⟩ := (Option.any_eq_true _ _).1 hv
    exact ⟨x, Table.get_of_mem none _ _ _ ht hm, by simpa using hx⟩
  · rintro ⟨x, hx, rfl⟩
    have hm := Table.mem_of_get_ne none m s.ru.sessions (by rw [show Table.get none _ m = _ from hx]; simp)
    rw [show Table.get none _ m = _ from hx] at hm
    exact ⟨_, ⟨hm, by simp⟩, rfl⟩

theorem sessionsOf_sorted (s : State) (i : Nat) (hc : Table.wf none s.ru.sessions = true) :
    (sessionsOf s i).Pairwise (· < ·) := by
  have sorted := Table.numbers_sorted none s.ru.sessions ((Table.wf_iff_sound _ _).1 hc)
  exact sorted.sublist (List.filter_sublist.map _)

/-- R72: no session of the account, nothing to close. -/
theorem closeAccountSession_none (s : State) (i : Nat) (hc : Table.wf none s.ru.sessions = true)
    (hn : ∀ m x, s.session m = some x → x.account ≠ i) : closeAccountSession i s = s := by
  have none : sessionsOf s i = [] := by
    rw [List.eq_nil_iff_forall_not_mem]
    intro m hm
    obtain ⟨x, hx, ha⟩ := (mem_sessionsOf s i m hc).1 hm
    exact hn m x hx ha
  simp [closeAccountSession, none]

/-- R72: the account's one session is closed, and the agent told where its command queue has room. -/
theorem closeAccountSession_open (s : State) (i m : Nat) (x : Session) (hc : Table.wf none s.ru.sessions = true)
    (hl : SessionLaw s) (hx : s.session m = some x) (ha : x.account = i) (hq : (s.commands m).length < 8) :
    closeAccountSession i s = (s.setSession m none).setCommands m (s.commands m ++ [.sessionClose .account]) := by
  have one : sessionsOf s i = [m] := by
    have only : ∀ k ∈ sessionsOf s i, k = m := by
      intro k hk
      obtain ⟨y, hy, hya⟩ := (mem_sessionsOf s i k hc).1 hk
      exact hl.1 k m y x hy hx (by rw [hya, ha])
    have hm : m ∈ sessionsOf s i := (mem_sessionsOf s i m hc).2 ⟨x, hx, ha⟩
    have nodup : (sessionsOf s i).Nodup := (sessionsOf_sorted s i hc).imp (fun h => by omega)
    match hs : sessionsOf s i with
    | [] => simp [hs] at hm
    | [k] => rw [only k (by simp [hs])]
    | k :: k' :: rest =>
      rw [hs] at only nodup
      have e := (only k (by simp)).trans (only k' (by simp)).symm
      simp [e] at nodup
  have hq' : ((endSession m s).commands m).length < Config.commandDepth := by simpa [endSession, Config.commandDepth] using hq
  simp only [closeAccountSession, one, List.foldl_cons, List.foldl_nil, closeSession, issue, if_pos hq']
  simp [endSession]

/-- Settles O20: R72's closing is nothing, or the one session's (`closeAccountSession_none`, `closeAccountSession_open`). -/
theorem suspendAndCloseAccount : Obligations.SuspendAndCloseAccount := by
  intro h n i s hc hl hm
  obtain ⟨hp, hi, ho⟩ := hm
  have hsess : Table.wf none s.ru.sessions = true := hc.2.2.2.2.1
  have own : ∀ (r : Request) (suits : AccountState → Bool) (act : Account → State × Answer),
      (s.account i).state ≠ .free → suits (s.account i).state = true →
      onAccount h.port i true suits act (atOwner h r s) = act (s.account i) := by
    intro r suits act hf hs
    simpa using onAccount_own h.port n i true suits act (atOwner h r s) hp hi (by simpa using ho) rfl (by simpa using hf)
      (by simpa using hs)
  refine ⟨fun rd hs => ⟨fun hn => ?_, fun m x hx ha hq => ?_⟩, fun rd hf => ⟨fun busy => ?_, fun hj hjobs => ⟨fun hn => ?_,
    fun m x hx ha hq => ?_⟩⟩⟩
  · refine request_setsAccount h _ _ s _ i _ rd ((own _ _ _ (by simp [hs]) (by simp [hs])).trans ?_)
    rw [closeAccountSession_none _ i (by simpa using hsess) (by simpa using hn)]
    rfl
  · show request h _ _ s = _
    rw [request_ready h _ _ s rd, own _ _ _ (by simp [hs]) (by simp [hs]),
      closeAccountSession_open _ i m x (by simpa using hsess) (by exact hl) (by exact hx) ha (by simpa using hq), ← issueAnswer_atOwner]
    rfl
  · have stop : (s.account i).liveJobs > 0 ∨ namedByJob (atOwner h (.closeAccount i) s) i = true :=
      busy.imp id (namedByJob_iff (atOwner h (.closeAccount i) s) i hc).2
    refine request_answers h _ _ s _ rd ((own _ _ _ hf rfl).trans ?_)
    rw [if_pos stop]
    rfl
  all_goals
    have go : ¬((s.account i).liveJobs > 0 ∨ namedByJob (atOwner h (.closeAccount i) s) i = true) := by
      rw [namedByJob_iff (atOwner h (.closeAccount i) s) i hc]
      rintro (hpos | ⟨j, hjs, hjo⟩)
      · omega
      · exact hjobs j (by simpa using hjs) (by simpa using hjo)
    show request h _ _ s = _
    rw [request_ready h _ _ s rd, own _ _ _ hf rfl, if_neg go, ← issueAnswer_atOwner]
  · rw [closeAccountSession_none _ i (by simpa using hsess) (by simpa using hn)]
    rfl
  · rw [closeAccountSession_open _ i m x (by simpa using hsess) (by exact hl) (by exact hx) ha (by simpa using hq)]
    rfl

/-! ### The requests that set a tenant's window, ceilings, timer and policies (R15, R16, R27, R28, R36) -/

theorem mem_otherTenants (n m : Nat) : m ∈ otherTenants n ↔ m < 4 ∧ m ≠ n := by
  simp [otherTenants, Config.tenants]

/-- R15, step 4: windows that share no index do not meet, where each has its ends in order. -/
theorem windowsMeet_eq_false (a b : Window) (ha : a.base ≤ a.limit) (hb : b.base ≤ b.limit)
    (apart : ∀ i, ¬(a.base ≤ i ∧ i ≤ a.limit ∧ b.base ≤ i ∧ i ≤ b.limit)) : windowsMeet a b = false := by
  by_contra meet
  have ends : a.base ≤ b.limit ∧ b.base ≤ a.limit := by simpa [windowsMeet] using meet
  exact apart (max a.base b.base) (by omega)

theorem overlapsOther_eq_false (s : State) (n : Nat) (w : Option Window) (hw : ∀ x, w = some x → x.base ≤ x.limit)
    (apart : ∀ m x y i, m < 4 → m ≠ n → w = some x → (s.tenant m).window = some y →
      ¬(x.base ≤ i ∧ i ≤ x.limit ∧ y.base ≤ i ∧ i ≤ y.limit))
    (ordered : ∀ m y, m < 4 → (s.tenant m).window = some y → y.base ≤ y.limit) : overlapsOther s n w = false := by
  rw [overlapsOther, List.any_eq_false]
  intro m hm
  obtain ⟨hm4, hmn⟩ := (mem_otherTenants n m).1 hm
  cases hx : w with
  | none => simp
  | some x =>
    cases hy : (s.tenant m).window with
    | none => simp
    | some y =>
      simpa using windowsMeet_eq_false x y (hw x hx) (ordered m y hm4 hy) (fun i => apart m x y i hm4 hmn hx hy)

theorem keepsAccounts_of_inside (s : State) (n : Nat) (w : Option Window) (hc : Table.wf Account.free s.au.accounts = true)
    (inside : ∀ i, (s.account i).state ≠ .free → (s.tenant n).owns i = true → ∃ x, w = some x ∧ x.base ≤ i ∧ i ≤ x.limit) :
    keepsAccounts s n w = true := by
  rw [keepsAccounts, List.all_eq_true]
  rintro ⟨i, a⟩ hm
  have ha : s.account i = a := Table.get_of_mem _ _ _ _ ((Table.wf_iff_sound _ _).1 hc) hm
  by_cases hf : a.state = .free
  · simp [hf]
  · cases ho : (s.tenant n).owns i with
    | false => simp
    | true =>
      obtain ⟨x, rfl, hx⟩ := inside i (by rw [ha]; exact hf) ho
      simp [windowHolds, hx]

/-- R45, step 8: a tenant that no entry names has none in use. -/
theorem entriesInUse_eq_zero (s : State) (n : Nat) (hc : Table.wf (Job.freeAt 0) s.jt.jobs = true)
    (idle : ∀ i, (s.job i).state ≠ .free → (s.job i).tenant ≠ n) : entriesInUse s n = 0 := by
  rw [entriesInUse, List.length_eq_zero_iff, List.filter_eq_nil_iff]
  rintro ⟨i, j⟩ hm
  have hj : s.job i = j := Table.get_of_mem _ _ _ _ ((Table.wf_iff_sound _ _).1 hc) hm
  have := idle i
  rw [hj] at this
  simpa using this

/-- R28: START_TIMER and STOP_TIMER on a tenant that exists. -/
theorem switchTimer_eq (n : Nat) (run : Bool) (s : State) (hn : n < 4) :
    switchTimer n run s =
      if (s.tenant n).timer.running = run then (s, .refused .badState)
      else (s.setTenant n { s.tenant n with timer := { (s.tenant n).timer with running := run } }, .accepted .none) := by
  have hn' : n < Config.tenants := hn
  simp [switchTimer, hn', refuse, accept]

/-- R15: the six checks of ASSIGN_TENANT pass. -/
theorem assignCheck_passes (s : State) (n : Nat) (w : Option Window) (share : Nat) (hc : Canonical s) (hn : n < 4)
    (hw : ∀ x, w = some x → x.base ≤ x.limit ∧ x.limit < 1024) (hshare : share ≤ 256)
    (hport : s.attached (PortName.ofTenant n) = false) (idle : ∀ i, (s.job i).state ≠ .free → (s.job i).tenant ≠ n)
    (apart : ∀ m x y i, m < 4 → m ≠ n → w = some x → (s.tenant m).window = some y →
      ¬(x.base ≤ i ∧ i ≤ x.limit ∧ y.base ≤ i ∧ i ≤ y.limit))
    (ordered : ∀ m y, m < 4 → (s.tenant m).window = some y → y.base ≤ y.limit)
    (inside : ∀ i, (s.account i).state ≠ .free → (s.tenant n).owns i = true → ∃ x, w = some x ∧ x.base ≤ i ∧ i ≤ x.limit)
    (shares : share + otherShares s n ≤ 256) : assignCheck s n w share = none := by
  obtain ⟨hacc, -, hjobs, -⟩ := hc
  have hwindow : w.all windowOk = true := by
    cases w with
    | none => rfl
    | some x =>
      obtain ⟨h1, h2⟩ := hw x rfl
      simp [windowOk, Config.accounts, h1, h2]
  have hentries := entriesInUse_eq_zero s n hjobs idle
  have hoverlap := overlapsOther_eq_false s n w (fun x hx => (hw x hx).1) apart ordered
  have hkeeps := keepsAccounts_of_inside s n w hacc inside
  have hn' : n < Config.tenants := hn
  simp only [assignCheck, hn', hwindow, hshare, hport, hentries, hoverlap, hkeeps]
  simpa using shares

/-- Settles O23: each request's checks pass or fail as its clause says, and the tenant's record alone is replaced. -/
theorem tenantSettingsChange : Obligations.TenantSettingsChange := by
  refine ⟨?_, ?_, ?_, ?_, ?_⟩
  · intro h n w share g s hc hp rd hn hw hshare hport idle apart ordered inside shares
    have hattached : (atOwner h (.assignTenant n w share g) s).attached (PortName.ofTenant n) = false := by
      have notF : PortName.ofTenant n ≠ h.port := by
        rw [hp]; unfold PortName.ofTenant; split <;> decide
      simpa [State.attached, atOwner_port, notF] using hport
    have passes := assignCheck_passes (atOwner h (.assignTenant n w share g) s) n w share hc hn hw hshare hattached idle apart
      ordered inside shares
    exact request_setsTenant h _ _ s _ n _ rd (by simp only [passes]; rfl)
  · intro h n k c s hp rd
    refine ⟨fun ⟨hn, hc⟩ => ?_, fun hc => ?_⟩
    · have hok : n < Config.tenants ∧ c.all (inRange 1 16777215) = true :=
        ⟨hn, (Option.all_eq_true _ _).2 (fun x hx => by simpa [inRange] using hc x hx)⟩
      exact request_setsTenant h _ _ s _ n _ rd (by rw [if_neg (not_not.2 hok)]; rfl)
    · exact request_answers h _ _ s _ rd (by simp [hc, inRange, refuse])
  · intro h n u len s hp rd
    refine ⟨fun hn h1 h2 => ?_, fun bad => ?_⟩
    · have hok : n < Config.tenants ∧ inRange 1 65535 len = true := ⟨hn, by simp [inRange, h1, h2]⟩
      exact request_setsTenant h _ _ s _ n _ rd (by rw [if_neg (not_not.2 hok)]; rfl)
    · have hbad : ¬(n < Config.tenants ∧ inRange 1 65535 len = true) := by
        simp only [Config.tenants, inRange, Bool.and_eq_true, decide_eq_true_eq]
        omega
      exact request_answers h _ _ s _ rd (by rw [if_pos hbad]; rfl)
  · intro h n s hp hn
    refine ⟨fun rd => ?_, fun rd => ?_⟩
    all_goals
      split
      · next hrun => exact request_answers h _ _ s _ rd ((switchTimer_eq n _ _ hn).trans (if_pos hrun))
      · next hrun => exact request_setsTenant h _ _ s _ n _ rd ((switchTimer_eq n _ _ hn).trans (if_neg hrun))
  · intro h n name c s hp rd hpages hhold
    have hok : c.maxPages.all (inRange 1 9999) = true ∧ c.holdTime.all (inRange 1 10080) = true :=
      ⟨(Option.all_eq_true _ _).2 (fun x hx => by simpa [inRange] using hpages x hx),
        (Option.all_eq_true _ _).2 (fun x hx => by simpa [inRange] using hhold x hx)⟩
    cases name <;>
      exact request_setsTenant h _ _ s _ n _ rd (by simp only [asTenant, hp]; rw [if_neg (not_not.2 hok)]; rfl)

/-! ### The reads (R12, R17, R39, R57, R59, R60) -/

/-- R17: a read names the port's own tenant, or on F the one it carries. -/
theorem onTenant_eq (p : PortName) (m n : Nat) (act : Nat → State × Answer) (s : State)
    (hp : p.tenant = some n ∨ (p = .f ∧ m = n ∧ n < 4)) : onTenant p m act s = act n := by
  rcases hp with hp | ⟨rfl, rfl, hn⟩
  · simp [onTenant, hp]
  · have hn' : m < Config.tenants := hn
    simp [onTenant, PortName.tenant, hn']

/-- R42: a handle of the sender's own entry. -/
theorem onJob_own (p : PortName) (n : Nat) (j : Handle) (act : Job → State × Answer) (s : State)
    (hp : p.tenant = some n) (hi : j.index < 256) (hf : (s.job j.index).state ≠ .free)
    (hg : (s.job j.index).generation = j.generation) (ht : (s.job j.index).tenant = n) :
    onJob p j act s = act (s.job j.index) := by
  have hi' : j.index < Config.jobs := hi
  simp [onJob, asTenant, hp, resolve, hi', hf, hg, ht]

/-- R60: what LIST_ACTIVE shows of one printer. -/
theorem mem_activeAt (s : State) (n m : Nat) (v : ActiveView) :
    v ∈ activeAt s n m ↔ v.printer = m ∧ v.job ∈ (s.printer m).queue ∧ (s.job v.job.index).state = .active ∧
      (s.job v.job.index).tenant = n ∧ v.label = (s.job v.job.index).label ∧ v.grant = (s.job v.job.index).grant ∧
      v.pages = (s.job v.job.index).pages := by
  simp only [activeAt, List.mem_filterMap]
  constructor
  · rintro ⟨k, hk, hv⟩
    split at hv
    · next c =>
      cases hv
      exact ⟨rfl, hk, c.1, c.2, rfl, rfl, rfl⟩
    · cases hv
  · rintro ⟨rfl, hq, ha, ht, hl, hg, hpg⟩
    exact ⟨v.job, hq, by rw [if_pos ⟨ha, ht⟩, ← hl, ← hg, ← hpg]⟩

/-- R60: LIST_ACTIVE shows the sender's ACTIVE jobs of every dispatch queue, by rising printer number. -/
theorem mem_activeList (s : State) (n : Nat) (v : ActiveView) :
    v ∈ (Table.numbers s.ft.printers).flatMap (activeAt s n) ↔
      v.job ∈ (s.printer v.printer).queue ∧ (s.job v.job.index).state = .active ∧
      (s.job v.job.index).tenant = n ∧ v.label = (s.job v.job.index).label ∧ v.grant = (s.job v.job.index).grant ∧
      v.pages = (s.job v.job.index).pages := by
  simp only [List.mem_flatMap, mem_activeAt]
  constructor
  · rintro ⟨m, -, rfl, shown⟩
    exact shown
  · intro shown
    refine ⟨v.printer, Table.mem_numbers_of_get_ne Printer.cold _ _ ?_, rfl, shown⟩
    intro unlisted
    have hq := shown.1
    rw [State.printer, unlisted] at hq
    cases hq

theorem activeList_sorted (s : State) (n : Nat) (hc : Table.wf Printer.cold s.ft.printers = true) :
    ((Table.numbers s.ft.printers).flatMap (activeAt s n)).Pairwise (fun v w => v.printer ≤ w.printer) := by
  rw [List.pairwise_flatMap]
  refine ⟨fun m _ => List.pairwise_of_forall_mem_list ?_, ?_⟩
  · intro v hv w hw
    rw [((mem_activeAt s n m v).1 hv).1, ((mem_activeAt s n m w).1 hw).1]
  · refine (Table.numbers_sorted _ _ ((Table.wf_iff_sound _ _).1 hc)).imp ?_
    intro a b hab v hv w hw
    rw [((mem_activeAt s n a v).1 hv).1, ((mem_activeAt s n b w).1 hw).1]
    omega

/-- Settles O21: every one of these owners only answers (`request_answers`). -/
theorem accountTenantAndJobReads : Obligations.AccountTenantAndJobReads := by
  refine ⟨⟨?_, ?_, ?_⟩, ?_, ?_, ?_⟩
  · intro h i s hi ho
    have reach : ∀ r, accountReach h.port i true (atOwner h r s) = none :=
      fun r => accountReach_facility h.port i (atOwner h r s) hi ho
    exact ⟨fun rd => request_answers h _ _ s _ rd (by rw [reach]; rfl),
      fun rd => request_answers h _ _ s _ rd (by rw [reach]; rfl)⟩
  · intro h m n s hp
    exact ⟨fun rd => request_answers h _ _ s _ rd (onTenant_eq _ m n _ _ hp),
      fun rd => request_answers h _ _ s _ rd (onTenant_eq _ m n _ _ hp)⟩
  · intro h m s hp hm rd
    have hm' : ¬m < Config.tenants := not_lt.2 hm
    exact request_answers h _ _ s _ rd (by simp [onTenant, hp, PortName.tenant, hm', refuse])
  · intro h n j s hp rd hi hf hg ht
    exact request_answers h _ _ s _ rd (onJob_own _ n j _ _ hp hi hf hg ht)
  · intro h n s hp rd
    exact request_answers h _ _ s _ rd (by simp only [asTenant, hp]; rfl)
  · intro h n s hc hp rd
    obtain ⟨-, -, -, -, -, hprinters, -⟩ := hc
    exact ⟨_, request_answers h _ _ s _ rd (by simp only [asTenant, hp]; rfl), mem_activeList s n,
      activeList_sorted s n hprinters⟩

/-! ### The values of a cold reset -/

/-- Settles O2: every table of the reset state is empty, so that each record reads as its unlisted one. -/
theorem resetLeavesAFreshPart : Obligations.ResetLeavesAFreshPart := by
  have ports : ∀ p, (State.reset.port p).state = .down ∧ (State.reset.port p).queue = [] ∧
      (State.reset.port p).flags = 0 ∧ (State.reset.port p).mask = (if p = .f then 0x03E0#16 else 0x001F#16) := by
    intro p
    cases p <;> exact ⟨rfl, rfl, rfl, rfl⟩
  exact ⟨fun _ => rfl, fun _ => rfl, fun _ => rfl, fun _ => rfl, fun _ => rfl, rfl, rfl, fun _ => rfl, rfl, rfl,
    fun _ _ => rfl, rfl, rfl, rfl, rfl, fun _ => rfl, rfl, rfl, rfl, rfl, rfl, rfl, fun _ _ => rfl, fun _ => rfl, rfl, rfl,
    fun _ => rfl, fun _ => rfl, rfl, rfl, rfl, rfl, rfl, rfl, ports, rfl, rfl⟩

end Sys2Proof.Machine

/-! Totals over a table of the canonical form: what a write adds to a total, and that a total depends on the reads alone. -/

namespace Sys2Proof.Machine

section
variable {α : Type} (d : α)

/-- The sum of a figure over the listed records. -/
def Table.total (f : Nat → α → Nat) (t : Table α) : Nat := (t.map (fun e => f e.1 e.2)).sum

@[simp] theorem Table.total_nil (f : Nat → α → Nat) : Table.total f [] = 0 := rfl

@[simp] theorem Table.total_cons (f : Nat → α → Nat) (k : Nat) (v : α) (t : Table α) :
    Table.total f ((k, v) :: t) = f k v + Table.total f t := by simp [Table.total]

/-- Counting the records that pass a test is a total. -/
theorem Table.length_filter_eq_total (p : Nat × α → Bool) (t : Table α) :
    (t.filter p).length = Table.total (fun k v => if p (k, v) then 1 else 0) t := by
  induction t with
  | nil => rfl
  | cons e t ih =>
    obtain ⟨k, v⟩ := e
    rw [Table.total_cons, ← ih, List.filter_cons]
    split <;> simp [*, Nat.add_comm]

/-- Summing over the records that pass a test is a total. -/
theorem Table.sum_filter_eq_total (p : Nat × α → Bool) (f : Nat × α → Nat) (t : Table α) :
    ((t.filter p).map f).sum = Table.total (fun k v => if p (k, v) then f (k, v) else 0) t := by
  induction t with
  | nil => rfl
  | cons e t ih =>
    obtain ⟨k, v⟩ := e
    rw [Table.total_cons, ← ih, List.filter_cons]
    split <;> simp [*]

theorem Table.numbers_nodup (t : Table α) (ht : Table.Sound d t) : (Table.numbers t).Nodup :=
  (Table.numbers_sorted d t ht).imp (fun h => by omega)

/-- A total is the sum over the listed numbers of the figure of each read. -/
theorem Table.total_eq_sum_numbers (f : Nat → α → Nat) (t : Table α) (ht : Table.Sound d t) :
    Table.total f t = ∑ k ∈ (Table.numbers t).toFinset, f k (Table.get d t k) := by
  rw [List.sum_toFinset _ (Table.numbers_nodup d t ht), Table.total, Table.numbers, List.map_map]
  congr 1
  refine List.map_congr_left fun e he => ?_
  simp only [Function.comp]
  rw [Table.get_of_mem d e.1 e.2 t ht he]

theorem Table.get_eq_of_not_mem_numbers (k : Nat) (t : Table α) (hk : k ∉ Table.numbers t) : Table.get d t k = d := by
  by_contra hne
  exact hk (Table.mem_numbers_of_get_ne d k t hne)

/-- A total is the sum over any set of numbers that holds the listed ones. -/
theorem Table.total_eq_sum (f : Nat → α → Nat) (t : Table α) (ht : Table.Sound d t) (hd : ∀ k, f k d = 0)
    (S : Finset Nat) (hS : (Table.numbers t).toFinset ⊆ S) :
    Table.total f t = ∑ k ∈ S, f k (Table.get d t k) := by
  rw [Table.total_eq_sum_numbers d f t ht]
  refine Finset.sum_subset hS fun k _ hk => ?_
  rw [Table.get_eq_of_not_mem_numbers d k t (by simpa using hk), hd]

/-- Two totals whose figures agree at every number are equal. -/
theorem Table.total_congr {β : Type} (e : β) (f : Nat → α → Nat) (f' : Nat → β → Nat) (t : Table α) (t' : Table β)
    (ht : Table.Sound d t) (ht' : Table.Sound e t') (hd : ∀ k, f k d = 0) (he : ∀ k, f' k e = 0)
    (same : ∀ k, f' k (Table.get e t' k) = f k (Table.get d t k)) : Table.total f' t' = Table.total f t := by
  rw [Table.total_eq_sum d f t ht hd ((Table.numbers t).toFinset ∪ (Table.numbers t').toFinset) Finset.subset_union_left,
    Table.total_eq_sum e f' t' ht' he ((Table.numbers t).toFinset ∪ (Table.numbers t').toFinset) Finset.subset_union_right]
  exact Finset.sum_congr rfl fun k _ => same k

/-- Two totals whose figures agree at every number but one differ by their figures there. -/
theorem Table.total_differ (i : Nat) (f f' : Nat → α → Nat) (t t' : Table α)
    (ht : Table.Sound d t) (ht' : Table.Sound d t') (hd : ∀ k, f k d = 0) (hd' : ∀ k, f' k d = 0)
    (same : ∀ k, k ≠ i → f' k (Table.get d t' k) = f k (Table.get d t k)) :
    Table.total f' t' + f i (Table.get d t i) = Table.total f t + f' i (Table.get d t' i) := by
  set S := Insert.insert i ((Table.numbers t).toFinset ∪ (Table.numbers t').toFinset) with hS
  have hi : i ∈ S := Finset.mem_insert_self _ _
  rw [Table.total_eq_sum d f t ht hd S (Finset.subset_union_left.trans (Finset.subset_insert _ _)),
    Table.total_eq_sum d f' t' ht' hd' S (Finset.subset_union_right.trans (Finset.subset_insert _ _)),
    ← Finset.add_sum_erase S _ hi, ← Finset.add_sum_erase S _ hi]
  have rest : ∑ k ∈ S.erase i, f' k (Table.get d t' k) = ∑ k ∈ S.erase i, f k (Table.get d t k) :=
    Finset.sum_congr rfl fun k hk => same k (Finset.ne_of_mem_erase hk)
  omega

/-- One record's figure is at most the total. -/
theorem Table.le_total (f : Nat → α → Nat) (t : Table α) (ht : Table.Sound d t) (hd : ∀ k, f k d = 0) (i : Nat) :
    f i (Table.get d t i) ≤ Table.total f t := by
  rw [Table.total_eq_sum d f t ht hd (Insert.insert i (Table.numbers t).toFinset) (Finset.subset_insert _ _)]
  exact Finset.single_le_sum (f := fun k => f k (Table.get d t k)) (fun _ _ => Nat.zero_le _) (Finset.mem_insert_self _ _)

/-- A total whose figure is 0 at every read is 0. -/
theorem Table.total_eq_zero (f : Nat → α → Nat) (t : Table α) (ht : Table.Sound d t)
    (hz : ∀ k, f k (Table.get d t k) = 0) : Table.total f t = 0 := by
  rw [Table.total_eq_sum_numbers d f t ht]
  exact Finset.sum_eq_zero fun k _ => hz k

end

end Sys2Proof.Machine

/-! The laws of O11 taken apart: `Laws g` is `AccountLaws` with the sums written as totals over tables, and with the
reservations of the jobs in `g` left out of the accounts' sums. A job's end at its printer charges its account first and takes
the job out of the queue last; between the two the laws hold with that job left out. -/

namespace Sys2Proof.Machine

/-! ### The figures that are summed -/

/-- What entry i adds to the reserved pages of account o; an entry left out adds nothing. -/
def reservationOf (g : Finset Nat) (c : PageClass) (o i : Nat) (j : Job) : Nat :=
  if i ∈ g then 0 else if j.owner = o then reservedPages j c else 0

/-- What an entry adds to the live jobs of account o. -/
def liveOf (o _i : Nat) (j : Job) : Nat := if j.state.live && j.owner == o then 1 else 0

/-- What an entry adds to tenant n's entries in use. -/
def inUseOf (n _i : Nat) (j : Job) : Nat := if j.state != .free && j.tenant == n then 1 else 0

/-- What account i adds to the reserved pages of a tenant. -/
def heldFor (t : Tenant) (c : PageClass) (i : Nat) (a : Account) : Nat := if t.owns i then a.reserved.get c else 0

/-- What a lane record adds to the allocated cartridges of type u. -/
def allocatedOf (u _k : Nat) (x : Option LaneRecord) : Nat := if x.any (fun x => x.type == u && x.allocation) then 1 else 0

@[simp] theorem reservationOf_free (g : Finset Nat) (c : PageClass) (o i gen : Nat) :
    reservationOf g c o i (Job.freeAt gen) = 0 := by simp [reservationOf, reservedPages, Job.freeAt, JobState.released]

@[simp] theorem liveOf_free (o i gen : Nat) : liveOf o i (Job.freeAt gen) = 0 := by
  simp [liveOf, Job.freeAt, JobState.live]

@[simp] theorem inUseOf_free (n i gen : Nat) : inUseOf n i (Job.freeAt gen) = 0 := by simp [inUseOf, Job.freeAt]

@[simp] theorem heldFor_free (t : Tenant) (c : PageClass) (i : Nat) : heldFor t c i Account.free = 0 := by
  cases c <;> simp [heldFor, Account.free, PerClass.both, PerClass.get]

@[simp] theorem allocatedOf_none (u k : Nat) : allocatedOf u k none = 0 := rfl

theorem allocatedLanes_length (s : State) (u : Nat) :
    (allocatedLanes s u).length = Table.total (allocatedOf u) s.se.lanes := Table.length_filter_eq_total _ _

/-! ### The laws -/

/-- R14, for accounts, the jobs in g left out. -/
def ReservedLaw (g : Finset Nat) (s : State) : Prop :=
  ∀ o c, (s.account o).reserved.get c = Table.total (reservationOf g c o) s.jt.jobs

/-- R14, for tenants. -/
def TenantSumLaw (s : State) : Prop :=
  ∀ n c, n < 4 → (s.tenant n).reserved.get c = Table.total (heldFor (s.tenant n) c) s.au.accounts

/-- R23, R47. -/
def LiveLaw (s : State) : Prop :=
  ∀ o, (s.account o).liveJobs = Table.total (liveOf o) s.jt.jobs ∧ (s.account o).liveJobs ≤ 8

/-- R13, R45 step 8. -/
def ShareLaw (s : State) : Prop :=
  (∀ n, n < 4 → Table.total (inUseOf n) s.jt.jobs ≤ (s.tenant n).share) ∧
  (s.tenant 0).share + (s.tenant 1).share + (s.tenant 2).share + (s.tenant 3).share ≤ 256

/-- The laws of O11, one by one, the jobs in g left out of the accounts' reserved sums. -/
structure Laws (g : Finset Nat) (s : State) : Prop where
  canonical : Canonical s
  stock : StockLaw s
  dispatch : DispatchLaw s
  session : SessionLaw s
  committed : CommittedLaw s
  window : WindowLaw s
  reserved : ReservedLaw g s
  tenantSum : TenantSumLaw s
  live : LiveLaw s
  share : ShareLaw s

theorem countLaw_iff (s : State) : CountLaw s ↔ ReservedLaw ∅ s ∧ TenantSumLaw s ∧ LiveLaw s ∧ ShareLaw s := by
  have hreserved : ∀ o c, ((s.jt.jobs.filter (fun e => e.2.owner == o)).map (fun e => reservedPages e.2 c)).sum =
      Table.total (reservationOf ∅ c o) s.jt.jobs := by
    intro o c
    rw [Table.sum_filter_eq_total]
    congr 1
    funext i j
    simp [reservationOf]
  have htenant : ∀ n c, ((s.au.accounts.filter (fun e => (s.tenant n).owns e.1)).map (fun e => e.2.reserved.get c)).sum =
      Table.total (heldFor (s.tenant n) c) s.au.accounts := fun n c => Table.sum_filter_eq_total _ _ _
  have hlive : ∀ o, (s.jt.jobs.filter (fun e => e.2.state.live && e.2.owner == o)).length =
      Table.total (liveOf o) s.jt.jobs := fun o => Table.length_filter_eq_total _ _
  have hshare : ∀ n, (s.jt.jobs.filter (fun e => e.2.state != .free && e.2.tenant == n)).length =
      Table.total (inUseOf n) s.jt.jobs := fun n => Table.length_filter_eq_total _ _
  simp only [CountLaw, ReservedLaw, TenantSumLaw, LiveLaw, ShareLaw, hreserved, htenant, hlive, hshare]

/-- The laws with no job left out are the laws of O11. -/
theorem accountLaws_iff (s : State) : AccountLaws s ↔ Laws ∅ s := by
  rw [AccountLaws, FleetLaws, countLaw_iff]
  constructor
  · rintro ⟨⟨h1, h2, h3, h4, h5⟩, h6, h7, h8, h9, h10⟩
    exact ⟨h1, h2, h3, h4, h5, h6, h7, h8, h9, h10⟩
  · rintro ⟨h1, h2, h3, h4, h5, h6, h7, h8, h9, h10⟩
    exact ⟨⟨h1, h2, h3, h4, h5⟩, h6, h7, h8, h9, h10⟩

section
variable {g : Finset Nat} {s : State}

theorem Laws.jobsSound (h : Laws g s) : Table.Sound (Job.freeAt 0) s.jt.jobs :=
  (Table.wf_iff_sound _ _).1 h.canonical.2.2.1

theorem Laws.accountsSound (h : Laws g s) : Table.Sound Account.free s.au.accounts :=
  (Table.wf_iff_sound _ _).1 h.canonical.1

theorem Laws.lanesSound (h : Laws g s) : Table.Sound none s.se.lanes :=
  (Table.wf_iff_sound _ _).1 h.canonical.2.2.2.2.2.2.1

end

/-! ### What each law reads -/

/-- The fields of a job entry that the laws read. -/
structure SameJobs (s t : State) : Prop where
  state : ∀ i, (t.job i).state = (s.job i).state
  generation : ∀ i, (t.job i).generation = (s.job i).generation
  tenant : ∀ i, (t.job i).tenant = (s.job i).tenant
  owner : ∀ i, (t.job i).owner = (s.job i).owner
  printer : ∀ i, (t.job i).printer = (s.job i).printer
  reservation : ∀ i, (t.job i).reservation = (s.job i).reservation
  needs : ∀ i, (t.job i).needs = (s.job i).needs

/-- The fields of a printer record that the laws read. -/
structure SamePrinters (s t : State) : Prop where
  enrolled : ∀ n, (t.printer n).enrolled = (s.printer n).enrolled
  admin : ∀ n, (t.printer n).admin = (s.printer n).admin
  queue : ∀ n, (t.printer n).queue = (s.printer n).queue

/-- A lane's claim: its type, and whether it holds an allocation or waits. -/
def LaneRecord.claim (x : LaneRecord) : Nat × Bool × Bool := (x.type, x.allocation, x.waiting)

/-- Every lane stands with its claim. -/
def SameClaims (s t : State) : Prop := ∀ n l, (t.lane n l).map LaneRecord.claim = (s.lane n l).map LaneRecord.claim

/-- Every lane stands with its committed need. -/
def SameCommitted (s t : State) : Prop :=
  ∀ n l, (t.lane n l).map LaneRecord.committed = (s.lane n l).map LaneRecord.committed

/-- The fields of a type record that the laws read. -/
structure SameTypes (s t : State) : Prop where
  onHand : ∀ u, (t.ctype u).onHand = (s.ctype u).onHand
  allocated : ∀ u, (t.ctype u).allocated = (s.ctype u).allocated
  waitList : ∀ u, (t.ctype u).waitList = (s.ctype u).waitList

/-- The fields of a session that the laws read. -/
def Session.core (x : Session) : Nat × List Handle × List Handle := (x.account, x.offers, x.withdrawn)

/-- Every session stands with its account and lists. -/
def SameSessions (s t : State) : Prop := ∀ n, (t.session n).map Session.core = (s.session n).map Session.core

/-- Which accounts are FREE, and who holds which badge; a FREE account holds its FREE values. -/
structure SameHolders (s t : State) : Prop where
  free : ∀ i, (t.account i).state = .free ↔ (s.account i).state = .free
  freeValues : (∀ i, (s.account i).state = .free → s.account i = Account.free) →
    ∀ i, (t.account i).state = .free → t.account i = Account.free
  badge : ∀ i, (t.account i).badge = (s.account i).badge

/-- The fields of an account that the laws read. -/
structure SameAccounts (s t : State) : Prop extends SameHolders s t where
  reserved : ∀ i, (t.account i).reserved = (s.account i).reserved
  liveJobs : ∀ i, (t.account i).liveJobs = (s.account i).liveJobs

/-- The fields of a tenant record that the laws read. -/
structure SameTenants (s t : State) : Prop where
  window : ∀ n, (t.tenant n).window = (s.tenant n).window
  reserved : ∀ n, (t.tenant n).reserved = (s.tenant n).reserved
  share : ∀ n, (t.tenant n).share = (s.tenant n).share

section
variable {s t : State}

theorem account_congr (h : t.au = s.au) (i : Nat) : t.account i = s.account i := by rw [State.account, h, State.account]

theorem tenant_congr (h : t.au = s.au) (n : Nat) : t.tenant n = s.tenant n := by rw [State.tenant, h, State.tenant]

theorem job_congr (h : t.jt = s.jt) (i : Nat) : t.job i = s.job i := by rw [State.job, h, State.job]

theorem session_congr (h : t.ru = s.ru) (n : Nat) : t.session n = s.session n := by rw [State.session, h, State.session]

theorem printer_congr (h : t.ft = s.ft) (n : Nat) : t.printer n = s.printer n := by rw [State.printer, h, State.printer]

theorem lane_congr (h : t.se = s.se) (n : Nat) (l : Lane) : t.lane n l = s.lane n l := by rw [State.lane, h, State.lane]

theorem ctype_congr (h : t.su = s.su) (u : Nat) : t.ctype u = s.ctype u := by rw [State.ctype, h, State.ctype]

end

theorem SameJobs.refl (s : State) : SameJobs s s :=
  ⟨fun _ => rfl, fun _ => rfl, fun _ => rfl, fun _ => rfl, fun _ => rfl, fun _ => rfl, fun _ => rfl⟩

theorem SameJobs.of_jobs {s t : State} (h : t.jt.jobs = s.jt.jobs) : SameJobs s t := by
  have e : ∀ i, t.job i = s.job i := fun i => by rw [State.job, h, State.job]
  constructor <;> intro i <;> rw [e]

theorem SamePrinters.of_printers {s t : State} (h : t.ft.printers = s.ft.printers) : SamePrinters s t := by
  have e : ∀ i, t.printer i = s.printer i := fun i => by rw [State.printer, h, State.printer]
  constructor <;> intro i <;> rw [e]

theorem SameClaims.of_lanes {s t : State} (h : t.se.lanes = s.se.lanes) : SameClaims s t := by
  intro n l
  rw [State.lane, h, State.lane]

theorem SameCommitted.of_lanes {s t : State} (h : t.se.lanes = s.se.lanes) : SameCommitted s t := by
  intro n l
  rw [State.lane, h, State.lane]

theorem SameTypes.of_types {s t : State} (h : t.su.types = s.su.types) : SameTypes s t := by
  have e : ∀ i, t.ctype i = s.ctype i := fun i => by rw [State.ctype, h, State.ctype]
  constructor <;> intro i <;> rw [e]

theorem SameSessions.of_sessions {s t : State} (h : t.ru.sessions = s.ru.sessions) : SameSessions s t := by
  intro n
  rw [State.session, h, State.session]

theorem SameAccounts.of_accounts {s t : State} (h : t.au.accounts = s.au.accounts) : SameAccounts s t := by
  have e : ∀ i, t.account i = s.account i := fun i => by rw [State.account, h, State.account]
  refine ⟨⟨fun i => ?_, fun hf i => ?_, fun i => ?_⟩, fun i => ?_, fun i => ?_⟩ <;> rw [e]
  exact hf i

theorem SameTenants.of_tenants {s t : State} (h : t.au.tenants = s.au.tenants) : SameTenants s t := by
  have e : ∀ i, t.tenant i = s.tenant i := fun i => by rw [State.tenant, h, State.tenant]
  constructor <;> intro i <;> rw [e]

theorem SameTenants.owns {s t : State} (h : SameTenants s t) (n i : Nat) : (t.tenant n).owns i = (s.tenant n).owns i := by
  rw [Tenant.owns, h.window, Tenant.owns]

/-- A record of a value read through a map was there with that value. -/
theorem exists_of_map_eq {α β : Type} {f f' : α → β} {x y : Option α} (h : y.map f' = x.map f) {b : α} (hb : y = some b) :
    ∃ a, x = some a ∧ f a = f' b := by
  subst hb
  obtain ⟨a, ha, e⟩ := Option.map_eq_some_iff.1 h.symm
  exact ⟨a, ha, e⟩

/-! ### Each law holds where what it reads is the same -/

section
variable {s t : State}

theorem allocatedOf_congr {x y : Option LaneRecord} (u k : Nat) (h : y.map LaneRecord.claim = x.map LaneRecord.claim) :
    allocatedOf u k y = allocatedOf u k x := by
  cases x <;> cases y <;> simp_all [allocatedOf, LaneRecord.claim]

theorem laneNumber_surjective (k : Nat) : ∃ (n : Nat) (l : Lane), k = 4 * n + l.code := by
  have hr : k % 4 = 0 ∨ k % 4 = 1 ∨ k % 4 = 2 ∨ k % 4 = 3 := by omega
  rcases hr with h | h | h | h
  · exact ⟨k / 4, .k, by simp only [Lane.code]; omega⟩
  · exact ⟨k / 4, .c, by simp only [Lane.code]; omega⟩
  · exact ⟨k / 4, .m, by simp only [Lane.code]; omega⟩
  · exact ⟨k / 4, .y, by simp only [Lane.code]; omega⟩

/-- What a lane's number reads is what the lane reads. -/
theorem SameClaims.total (hs : Table.Sound none s.se.lanes) (ht : Table.Sound none t.se.lanes) (hc : SameClaims s t)
    (u : Nat) : Table.total (allocatedOf u) t.se.lanes = Table.total (allocatedOf u) s.se.lanes := by
  refine Table.total_congr none none _ _ _ _ hs ht (fun _ => rfl) (fun _ => rfl) fun k => ?_
  obtain ⟨n, l, rfl⟩ := laneNumber_surjective k
  exact allocatedOf_congr u _ (hc n l)

theorem StockLaw.congr (h : StockLaw s) (hs : Table.Sound none s.se.lanes) (ht : Table.Sound none t.se.lanes)
    (he : ∀ n, (t.printer n).enrolled = (s.printer n).enrolled) (hc : SameClaims s t) (hy : SameTypes s t) :
    StockLaw t := by
  obtain ⟨h1, h2, h3, h4, h5⟩ := h
  refine ⟨fun u => ?_, fun n l y hl => ?_, fun u => ?_, fun u w => ?_, fun n l hn => ?_⟩
  · rw [allocatedLanes_length, hc.total hs ht, ← allocatedLanes_length, hy.onHand, hy.allocated]
    exact h1 u
  · obtain ⟨x, hx, e⟩ := exists_of_map_eq (hc n l) hl
    simp only [LaneRecord.claim, Prod.mk.injEq] at e
    rw [← e.2.1, ← e.2.2]
    exact h2 n l x hx
  · rw [hy.waitList]; exact h3 u
  · rw [hy.waitList, h4]
    constructor
    · rintro ⟨x, hx, ht, hw⟩
      obtain ⟨y, hy, e⟩ := exists_of_map_eq (hc w.printer w.lane).symm hx
      simp only [LaneRecord.claim, Prod.mk.injEq] at e
      exact ⟨y, hy, e.1.trans ht, e.2.2.trans hw⟩
    · rintro ⟨y, hy, ht, hw⟩
      obtain ⟨x, hx, e⟩ := exists_of_map_eq (hc w.printer w.lane) hy
      simp only [LaneRecord.claim, Prod.mk.injEq] at e
      exact ⟨x, hx, e.1.trans ht, e.2.2.trans hw⟩
  · have gone := hc n l
    rw [he] at hn
    rwa [h5 n l hn, Option.map_none, Option.map_eq_none_iff] at gone

theorem DispatchLaw.congr (h : DispatchLaw s) (hp : SamePrinters s t) (hj : SameJobs s t) : DispatchLaw t := by
  simpa only [DispatchLaw, hp.queue, hp.admin, hp.enrolled, hj.state, hj.generation, hj.printer] using h

theorem SessionLaw.congr (h : SessionLaw s) (hx : SameSessions s t) (hj : SameJobs s t) : SessionLaw t := by
  obtain ⟨h1, h2, h3⟩ := h
  refine ⟨fun n m x y hn hm e => ?_, fun n x k hn hk => ?_, fun n x hn => ?_⟩
  · obtain ⟨x', hx', ex⟩ := exists_of_map_eq (hx n) hn
    obtain ⟨y', hy', ey⟩ := exists_of_map_eq (hx m) hm
    simp only [Session.core, Prod.mk.injEq] at ex ey
    exact h1 n m x' y' hx' hy' (by rw [ex.1, ey.1, e])
  · obtain ⟨x', hx', ex⟩ := exists_of_map_eq (hx n) hn
    simp only [Session.core, Prod.mk.injEq] at ex
    rw [hj.state, hj.generation, hj.owner, ← ex.1]
    exact h2 n x' k hx' (by rw [ex.2.1, ex.2.2]; exact hk)
  · obtain ⟨x', hx', ex⟩ := exists_of_map_eq (hx n) hn
    simp only [Session.core, Prod.mk.injEq] at ex
    rw [← ex.2.1, ← ex.2.2]
    exact h3 n x' hx'

theorem CommittedLaw.congr (h : CommittedLaw s) (hc : SameCommitted s t)
    (hq : ∀ n, (t.printer n).queue = (s.printer n).queue) (hn : ∀ i, (t.job i).needs = (s.job i).needs) :
    CommittedLaw t := by
  intro n l y hy
  obtain ⟨x, hx, e⟩ := exists_of_map_eq (hc n l) hy
  rw [← e, hq]
  simpa only [recordedNeed, hn] using h n l x hx

theorem WindowLaw.congr (h : WindowLaw s) (ha : SameHolders s t) (ht : SameTenants s t) (hj : SameJobs s t) :
    WindowLaw t := by
  obtain ⟨h1, h⟩ := h
  refine ⟨ha.freeValues h1, ?_⟩
  simpa only [ne_eq, ha.free, ha.badge, ht.owns, hj.state, hj.tenant, hj.owner] using h

theorem ReservedLaw.congr {g : Finset Nat} (h : ReservedLaw g s) (hs : Table.Sound (Job.freeAt 0) s.jt.jobs)
    (ht : Table.Sound (Job.freeAt 0) t.jt.jobs) (ha : ∀ i, (t.account i).reserved = (s.account i).reserved)
    (hj : SameJobs s t) : ReservedLaw g t := by
  intro o c
  rw [ha, h o c]
  refine (Table.total_congr (Job.freeAt 0) (Job.freeAt 0) _ _ _ _ hs ht (by simp) (by simp) fun k => ?_).symm
  have h1 := hj.state k
  have h2 := hj.owner k
  have h3 := hj.reservation k
  simp only [State.job] at h1 h2 h3
  simp only [reservationOf, reservedPages, recordedPages, h1, h2, h3]

theorem LiveLaw.congr (h : LiveLaw s) (hs : Table.Sound (Job.freeAt 0) s.jt.jobs)
    (ht : Table.Sound (Job.freeAt 0) t.jt.jobs) (ha : ∀ i, (t.account i).liveJobs = (s.account i).liveJobs)
    (hj : SameJobs s t) : LiveLaw t := by
  intro o
  have same : Table.total (liveOf o) t.jt.jobs = Table.total (liveOf o) s.jt.jobs := by
    refine Table.total_congr (Job.freeAt 0) (Job.freeAt 0) _ _ _ _ hs ht (by simp) (by simp) fun k => ?_
    have h1 := hj.state k
    have h2 := hj.owner k
    simp only [State.job] at h1 h2
    simp only [liveOf, h1, h2]
  rw [ha, same]
  exact h o

theorem ShareLaw.congr (h : ShareLaw s) (hs : Table.Sound (Job.freeAt 0) s.jt.jobs)
    (ht : Table.Sound (Job.freeAt 0) t.jt.jobs) (hn : ∀ n, (t.tenant n).share = (s.tenant n).share)
    (hj : SameJobs s t) : ShareLaw t := by
  have same : ∀ n, Table.total (inUseOf n) t.jt.jobs = Table.total (inUseOf n) s.jt.jobs := by
    intro n
    refine Table.total_congr (Job.freeAt 0) (Job.freeAt 0) _ _ _ _ hs ht (by simp) (by simp) fun k => ?_
    have h1 := hj.state k
    have h2 := hj.tenant k
    simp only [State.job] at h1 h2
    simp only [inUseOf, h1, h2]
  simpa only [ShareLaw, hn, same] using h

theorem TenantSumLaw.congr (h : TenantSumLaw s) (hs : Table.Sound Account.free s.au.accounts)
    (ht : Table.Sound Account.free t.au.accounts) (ha : ∀ i, (t.account i).reserved = (s.account i).reserved)
    (hn : SameTenants s t) : TenantSumLaw t := by
  intro n c hn4
  rw [hn.reserved, h n c hn4]
  refine (Table.total_congr Account.free Account.free _ _ _ _ hs ht (by simp) (by simp) fun k => ?_).symm
  have h1 := ha k
  simp only [State.account] at h1
  simp only [heldFor, hn.owns, h1]

/-- The laws where the stock, the sessions and the committed needs keep theirs, and the rest of what is read is the same. -/
theorem Laws.of_parts {g : Finset Nat} (h : Laws g s) (hc : Canonical t) (jobs : SameJobs s t) (printers : SamePrinters s t)
    (accounts : SameAccounts s t) (tenants : SameTenants s t) (stock : StockLaw t) (session : SessionLaw t)
    (committed : CommittedLaw t) : Laws g t := by
  have accountsSound := (Table.wf_iff_sound _ _).1 hc.1
  have jobsSound := (Table.wf_iff_sound _ _).1 hc.2.2.1
  exact {
    canonical := hc
    stock := stock
    dispatch := h.dispatch.congr printers jobs
    session := session
    committed := committed
    window := h.window.congr accounts.toSameHolders tenants jobs
    reserved := h.reserved.congr h.jobsSound jobsSound accounts.reserved jobs
    tenantSum := h.tenantSum.congr h.accountsSound accountsSound accounts.reserved tenants
    live := h.live.congr h.jobsSound jobsSound accounts.liveJobs jobs
    share := h.share.congr h.jobsSound jobsSound tenants.share jobs }

/-- What all the laws read is the same in two states. -/
structure SameView (s t : State) : Prop where
  jobs : SameJobs s t
  printers : SamePrinters s t
  claims : SameClaims s t
  committed : SameCommitted s t
  types : SameTypes s t
  sessions : SameSessions s t
  accounts : SameAccounts s t
  tenants : SameTenants s t

/-- The laws hold where what they read is the same. -/
theorem Laws.congr {g : Finset Nat} (h : Laws g s) (hc : Canonical t) (v : SameView s t) : Laws g t :=
  h.of_parts hc v.jobs v.printers v.accounts v.tenants
    (h.stock.congr h.lanesSound ((Table.wf_iff_sound _ _).1 hc.2.2.2.2.2.2.1) v.printers.enrolled v.claims v.types)
    (h.session.congr v.sessions v.jobs) (h.committed.congr v.committed v.printers.queue v.jobs.needs)

end

end Sys2Proof.Machine

/-! What a change of one job entry does to each law. -/

namespace Sys2Proof.Machine

/-- Every job entry but i stands. -/
def OnlyJob (i : Nat) (s t : State) : Prop := ∀ x, x ≠ i → t.job x = s.job x

section
variable {s t : State} {i : Nat}

theorem released_ne_free {x : JobState} (h : x.released = true) : x ≠ .free := by rintro rfl; simp [JobState.released] at h

theorem released_ne_held {x : JobState} (h : x.released = true) : x ≠ .held := by rintro rfl; simp [JobState.released] at h

/-! ### Dispatch queues (R94) -/

/-- A job that is not released stands in no dispatch queue. -/
theorem DispatchLaw.not_queued (h : DispatchLaw s) (hr : (s.job i).state.released = false) (n : Nat) (k : Handle)
    (hk : k ∈ (s.printer n).queue) : k.index ≠ i := by
  rintro rfl
  simp [(h.2.1 n k hk).2.1] at hr

/-- The handle of a released job stands in the queue of its printer. -/
theorem DispatchLaw.mem_queue (h : DispatchLaw s) (k : Handle) (n : Nat) (hr : (s.job k.index).state.released = true)
    (hg : (s.job k.index).generation = k.generation) (hp : (s.job k.index).printer = some n) :
    k ∈ (s.printer n).queue := by
  obtain ⟨m, hm, hq⟩ := h.2.2.1 k.index hr
  rw [hp] at hm
  cases hm
  rwa [hg] at hq

/-- Two handles of one index in the queues are one handle in one queue. -/
theorem DispatchLaw.queued_once (h : DispatchLaw s) {n m : Nat} {k k' : Handle} (hk : k ∈ (s.printer n).queue)
    (hk' : k' ∈ (s.printer m).queue) (e : k.index = k'.index) : k = k' ∧ n = m := by
  obtain ⟨hg, -, hp⟩ := h.2.1 n k hk
  obtain ⟨hg', -, hp'⟩ := h.2.1 m k' hk'
  rw [e] at hg hp
  refine ⟨?_, by simpa [hp] using hp'⟩
  cases k
  cases k'
  simp_all

/-- The head of a queue stands in no tail. -/
theorem DispatchLaw.head_not_tail (h : DispatchLaw s) {n m : Nat} {k k' : Handle} {rest : List Handle}
    (hq : (s.printer n).queue = k :: rest) (hk' : k' ∈ (s.printer m).queue.tail) : k'.index ≠ k.index := by
  intro e
  obtain ⟨rfl, rfl⟩ := h.queued_once (List.mem_of_mem_tail hk') (by rw [hq]; simp : k ∈ (s.printer n).queue) e
  have nodup := (h.1 m).2
  rw [hq] at hk' nodup
  exact (List.nodup_cons.1 nodup).1 hk'

/-- A change of an entry that is released neither before nor after. -/
theorem DispatchLaw.of_idleJob (h : DispatchLaw s) (hp : SamePrinters s t) (ho : OnlyJob i s t)
    (hs : (s.job i).state.released = false) (ht : (t.job i).state.released = false) : DispatchLaw t := by
  obtain ⟨h1, h2, h3, h4, h5⟩ := id h
  refine ⟨?_, fun n k hk => ?_, fun x hx => ?_, fun n k hk => ?_, ?_⟩
  · simpa only [hp.queue] using h1
  · rw [hp.queue] at hk
    rw [ho _ (h.not_queued hs n k hk)]
    exact h2 n k hk
  · have hxi : x ≠ i := by rintro rfl; simp [ht] at hx
    rw [ho x hxi] at hx ⊢
    simpa only [hp.queue] using h3 x hx
  · rw [hp.queue] at hk
    rw [ho _ (h.not_queued hs n k (List.mem_of_mem_tail hk))]
    exact h4 n k hk
  · simpa only [hp.queue, hp.admin, hp.enrolled] using h5

/-- A released entry takes another released state: QUEUED, or one that only a head may have. -/
theorem DispatchLaw.of_restatedJob (h : DispatchLaw s) (hp : SamePrinters s t) (ho : OnlyJob i s t)
    (hs : (s.job i).state.released = true) (ht : (t.job i).state.released = true)
    (hg : (t.job i).generation = (s.job i).generation) (hn : (t.job i).printer = (s.job i).printer)
    (tail : ∀ n, ∀ k ∈ (s.printer n).queue.tail, k.index ≠ i) : DispatchLaw t := by
  obtain ⟨h1, h2, h3, h4, h5⟩ := id h
  refine ⟨?_, fun n k hk => ?_, fun x hx => ?_, fun n k hk => ?_, ?_⟩
  · simpa only [hp.queue] using h1
  · rw [hp.queue] at hk
    by_cases e : k.index = i
    · have old := h2 n k hk
      rw [e] at old ⊢
      rw [hg, hn]
      exact ⟨old.1, ht, old.2.2⟩
    · rw [ho _ e]; exact h2 n k hk
  · by_cases e : x = i
    · subst e
      rw [hg, hn]
      simpa only [hp.queue] using h3 x hs
    · rw [ho x e] at hx ⊢
      simpa only [hp.queue] using h3 x hx
  · rw [hp.queue] at hk
    rw [ho _ (tail n k hk)]
    exact h4 n k hk
  · simpa only [hp.queue, hp.admin, hp.enrolled] using h5

/-- A job leaves its queue and is released no more. -/
theorem DispatchLaw.of_leftQueue {n : Nat} {k : Handle} (h : DispatchLaw s) (hk : k.index = i)
    (he : ∀ m, (t.printer m).enrolled = (s.printer m).enrolled) (ha : ∀ m, (t.printer m).admin = (s.printer m).admin)
    (hq : ∀ m, (t.printer m).queue = if m = n then (s.printer n).queue.filter (· ≠ k) else (s.printer m).queue)
    (ho : OnlyJob i s t) (hmem : k ∈ (s.printer n).queue) (ht : (t.job i).state.released = false) : DispatchLaw t := by
  obtain ⟨h1, h2, h3, h4, h5, h6⟩ := id h
  have sub : ∀ m, (t.printer m).queue.Sublist (s.printer m).queue := by
    intro m
    rw [hq]
    split
    · next e => subst e; exact List.filter_sublist
    · exact List.Sublist.refl _
  have other : ∀ m, ∀ k' ∈ (t.printer m).queue, k'.index ≠ i := by
    intro m k' hk' e
    obtain ⟨rfl, rfl⟩ := h.queued_once ((sub m).subset hk') hmem (e.trans hk.symm)
    rw [hq, if_pos rfl] at hk'
    simp at hk'
  refine ⟨fun m => ⟨(sub m).length_le.trans (h1 m).1, (h1 m).2.sublist (sub m)⟩, fun m k' hk' => ?_, fun x hx => ?_,
    fun m k' hk' => ?_, fun m hm => ?_, fun m hm => ?_⟩
  · rw [ho _ (other m k' hk')]
    exact h2 m k' ((sub m).subset hk')
  · have hxi : x ≠ i := by rintro rfl; simp [ht] at hx
    rw [ho x hxi] at hx ⊢
    obtain ⟨m, hm, hin⟩ := h3 x hx
    refine ⟨m, hm, ?_⟩
    rw [hq]
    split
    · next e =>
      subst e
      exact List.mem_filter.2 ⟨hin, by simp only [ne_eq, decide_eq_true_eq]; rintro rfl; exact hxi hk⟩
    · exact hin
  · rw [ho _ (other m k' (List.mem_of_mem_tail hk'))]
    exact h4 m k' ((sub m).tail.subset hk')
  · rw [ha] at hm
    exact List.sublist_nil.1 (h5 m hm ▸ sub m)
  · rw [he] at hm
    rw [ha]
    exact h6 m hm

/-- A job joins the tail of a queue, QUEUED. -/
theorem DispatchLaw.of_joinedQueue {n : Nat} {k : Handle} (h : DispatchLaw s) (hk : k.index = i)
    (he : ∀ m, (t.printer m).enrolled = (s.printer m).enrolled) (ha : ∀ m, (t.printer m).admin = (s.printer m).admin)
    (hq : ∀ m, (t.printer m).queue = if m = n then (s.printer n).queue ++ [k] else (s.printer m).queue)
    (ho : OnlyJob i s t) (hs : (s.job i).state.released = false) (ht : (t.job i).state = .queued)
    (hg : (t.job i).generation = k.generation) (hp : (t.job i).printer = some n)
    (room : (s.printer n).queue.length < 4) (hadmin : (s.printer n).admin ≠ .outOfService) : DispatchLaw t := by
  obtain ⟨h1, h2, h3, h4, h5, h6⟩ := id h
  have idle := h.not_queued hs
  have hnew : k ∉ (s.printer n).queue := fun hin => idle n k hin hk
  refine ⟨fun m => ?_, fun m k' hk' => ?_, fun x hx => ?_, fun m k' hk' => ?_, fun m hm => ?_, fun m hm => ?_⟩
  · rw [hq]
    split
    · refine ⟨by simp; omega, (List.nodup_append.2 ⟨(h1 n).2, by simp, ?_⟩)⟩
      rintro a hin b hb rfl
      rw [List.mem_singleton] at hb
      exact hnew (hb ▸ hin)
    · exact h1 m
  · have cases : k' = k ∧ m = n ∨ k' ∈ (s.printer m).queue := by
      rw [hq] at hk'
      split at hk'
      · next e => subst e; simpa [or_comm] using hk'
      · exact .inr hk'
    rcases cases with ⟨rfl, rfl⟩ | hin
    · rw [hk, ht]; exact ⟨hg, rfl, hp⟩
    · rw [ho _ (idle m k' hin)]; exact h2 m k' hin
  · by_cases e : x = i
    · subst e
      refine ⟨n, hp, ?_⟩
      rw [hq, if_pos rfl, hg, ← hk]
      simp
    · rw [ho x e] at hx ⊢
      obtain ⟨m, hm, hin⟩ := h3 x hx
      refine ⟨m, hm, ?_⟩
      rw [hq]
      split
      · next e => subst e; exact List.mem_append_left _ hin
      · exact hin
  · have cases : k' = k ∨ k' ∈ (s.printer m).queue.tail := by
      rw [hq] at hk'
      split at hk'
      · next e =>
        subst e
        cases hl : (s.printer m).queue with
        | nil => simp [hl] at hk'
        | cons a l => simpa [hl, or_comm] using hk'
      · exact .inr hk'
    rcases cases with rfl | hin
    · rw [hk, ht]
    · rw [ho _ (idle m k' (List.mem_of_mem_tail hin))]; exact h4 m k' hin
  · rw [ha] at hm
    have hmn : m ≠ n := by rintro rfl; exact hadmin hm
    rw [hq, if_neg hmn]
    exact h5 m hm
  · rw [he] at hm
    rw [ha]
    exact h6 m hm

/-! ### Sessions (R67) -/

/-- A job that is not HELD stands in no session's lists. -/
theorem SessionLaw.not_listed (h : SessionLaw s) (hs : (s.job i).state ≠ .held) {n : Nat} {x : Session} {k : Handle}
    (hx : s.session n = some x) (hk : k ∈ x.offers ++ x.withdrawn) : k.index ≠ i := by
  rintro rfl
  exact hs (h.2.1 n x k hx hk).1

/-- A change of an entry that was not HELD. -/
theorem SessionLaw.of_unheldJob (h : SessionLaw s) (hx : SameSessions s t) (ho : OnlyJob i s t)
    (hs : (s.job i).state ≠ .held) : SessionLaw t := by
  obtain ⟨h1, h2, h3⟩ := id h
  refine ⟨fun n m x y hn hm e => ?_, fun n x k hn hk => ?_, fun n x hn => ?_⟩
  · obtain ⟨x', hx', ex⟩ := exists_of_map_eq (hx n) hn
    obtain ⟨y', hy', ey⟩ := exists_of_map_eq (hx m) hm
    simp only [Session.core, Prod.mk.injEq] at ex ey
    exact h1 n m x' y' hx' hy' (by rw [ex.1, ey.1, e])
  · obtain ⟨x', hx', ex⟩ := exists_of_map_eq (hx n) hn
    simp only [Session.core, Prod.mk.injEq] at ex
    rw [← ex.2.1, ← ex.2.2] at hk
    rw [ho _ (h.not_listed hs hx' hk), ← ex.1]
    exact h2 n x' k hx' hk
  · obtain ⟨x', hx', ex⟩ := exists_of_map_eq (hx n) hn
    simp only [Session.core, Prod.mk.injEq] at ex
    rw [← ex.2.1, ← ex.2.2]
    exact h3 n x' hx'

/-- R68: a session with a handle out of both its lists. -/
def Session.without (k : Handle) (x : Session) : Session :=
  { x with offers := x.offers.filter (· ≠ k), withdrawn := x.withdrawn.filter (· ≠ k) }

theorem Session.mem_without {k k' : Handle} {x : Session} :
    k' ∈ (x.without k).offers ++ (x.without k).withdrawn ↔ k' ∈ x.offers ++ x.withdrawn ∧ k' ≠ k := by
  simp only [Session.without, List.mem_append, List.mem_filter, ne_eq, decide_eq_true_eq]
  tauto

/-- A HELD job taken out of every list may change as it likes. -/
theorem SessionLaw.of_removedJob {k : Handle} (h : SessionLaw s)
    (hx : ∀ n, t.session n = (s.session n).map (Session.without k)) (ho : OnlyJob k.index s t)
    (hg : (s.job k.index).generation = k.generation) : SessionLaw t := by
  obtain ⟨h1, h2, h3⟩ := id h
  have was : ∀ {n x}, t.session n = some x → ∃ y, s.session n = some y ∧ y.without k = x := by
    intro n x hn
    rw [hx] at hn
    exact Option.map_eq_some_iff.1 hn
  refine ⟨fun n m x y hn hm e => ?_, fun n x k' hn hk' => ?_, fun n x hn => ?_⟩
  · obtain ⟨x', hx', rfl⟩ := was hn
    obtain ⟨y', hy', rfl⟩ := was hm
    exact h1 n m x' y' hx' hy' e
  · obtain ⟨x', hx', rfl⟩ := was hn
    obtain ⟨hin, hne⟩ := Session.mem_without.1 hk'
    have old := h2 n x' k' hx' hin
    have off : k'.index ≠ k.index := by
      intro e
      apply hne
      rw [e, hg] at old
      cases k
      cases k'
      simp_all
    rw [ho _ off]
    exact old
  · obtain ⟨x', hx', rfl⟩ := was hn
    exact (h3 n x' hx').sublist (List.filter_sublist.append List.filter_sublist)

/-! ### Committed needs (R114) -/

/-- A change of an entry that stands in no queue. -/
theorem CommittedLaw.of_idleJob (h : CommittedLaw s) (hd : DispatchLaw s) (hc : SameCommitted s t)
    (hq : ∀ n, (t.printer n).queue = (s.printer n).queue) (ho : OnlyJob i s t)
    (hs : (s.job i).state.released = false) : CommittedLaw t := by
  intro n l y hy
  obtain ⟨x, hx, e⟩ := exists_of_map_eq (hc n l) hy
  rw [← e, hq, h n l x hx]
  congr 1
  refine List.map_congr_left fun k hk => ?_
  rw [ho _ (hd.not_queued hs n k hk)]

theorem sum_filter_ne_add {l : List Handle} {k : Handle} (f : Handle → Nat) (hn : l.Nodup) (hk : k ∈ l) :
    ((l.filter (· ≠ k)).map f).sum + f k = (l.map f).sum := by
  induction l with
  | nil => simp at hk
  | cons a l ih =>
    obtain ⟨ha, hl⟩ := List.nodup_cons.1 hn
    by_cases e : a = k
    · subst e
      have rest : l.filter (fun x => decide (x ≠ a)) = l :=
        List.filter_eq_self.2 fun x hx => by simp only [ne_eq, decide_eq_true_eq]; rintro rfl; exact ha hx
      rw [List.filter_cons_of_neg (by simp), rest, List.map_cons, List.sum_cons, Nat.add_comm]
    · have hk' : k ∈ l := (List.mem_cons.1 hk).resolve_left (fun h => e h.symm)
      rw [List.filter_cons_of_pos (by simpa using e), List.map_cons, List.map_cons, List.sum_cons, List.sum_cons, ← ih hl hk']
      omega

/-- A job leaves its queue and its needs are returned. -/
theorem CommittedLaw.of_leftQueue {n : Nat} {k : Handle} (h : CommittedLaw s) (hd : DispatchLaw s) (hk : k.index = i)
    (hq : ∀ m, (t.printer m).queue = if m = n then (s.printer n).queue.filter (· ≠ k) else (s.printer m).queue)
    (hl : ∀ m l, (t.lane m l).map LaneRecord.committed =
      (s.lane m l).map (fun x => if m = n then x.committed - recordedNeed (s.job i) l else x.committed))
    (ho : OnlyJob i s t) (hmem : k ∈ (s.printer n).queue) : CommittedLaw t := by
  intro m l y hy
  obtain ⟨x, hx, e⟩ := exists_of_map_eq (hl m l) hy
  rw [← e, hq]
  by_cases hm : m = n
  · subst hm
    rw [if_pos rfl, if_pos rfl, h m l x hx,
      ← sum_filter_ne_add (fun k' => recordedNeed (s.job k'.index) l) (hd.1 m).2 hmem, hk, Nat.add_sub_cancel]
    congr 1
    refine List.map_congr_left fun k' hk' => ?_
    obtain ⟨hin, hne⟩ := List.mem_filter.1 hk'
    have off : k'.index ≠ i := by
      intro e'
      obtain ⟨rfl, -⟩ := hd.queued_once hin hmem (e'.trans hk.symm)
      simp at hne
    rw [ho _ off]
  · rw [if_neg hm, if_neg hm, h m l x hx]
    congr 1
    refine List.map_congr_left fun k' hk' => ?_
    have off : k'.index ≠ i := fun e' => hm (hd.queued_once hk' hmem (e'.trans hk.symm)).2
    rw [ho _ off]

/-- A job joins a queue and its needs are added. -/
theorem CommittedLaw.of_joinedQueue {n : Nat} {k : Handle} (h : CommittedLaw s) (hd : DispatchLaw s) (hk : k.index = i)
    (hq : ∀ m, (t.printer m).queue = if m = n then (s.printer n).queue ++ [k] else (s.printer m).queue)
    (hl : ∀ m l, (t.lane m l).map LaneRecord.committed =
      (s.lane m l).map (fun x => if m = n then x.committed + recordedNeed (t.job i) l else x.committed))
    (ho : OnlyJob i s t) (hs : (s.job i).state.released = false) : CommittedLaw t := by
  intro m l y hy
  obtain ⟨x, hx, e⟩ := exists_of_map_eq (hl m l) hy
  have stands : (s.printer m).queue.map (fun h => recordedNeed (t.job h.index) l) =
      (s.printer m).queue.map (fun h => recordedNeed (s.job h.index) l) :=
    List.map_congr_left fun k' hk' => by rw [ho _ (hd.not_queued hs m k' hk')]
  rw [← e, hq]
  by_cases hm : m = n
  · subst hm
    rw [if_pos rfl, if_pos rfl, h m l x hx, List.map_append, List.sum_append, stands]
    simp [hk]
  · rw [if_neg hm, if_neg hm, h m l x hx, stands]

/-! ### Windows, reserved pages, live jobs and shares -/

/-- An entry in use was in use before, of the same owner and tenant. -/
theorem WindowLaw.of_jobs (h : WindowLaw s) (ha : SameHolders s t) (hn : SameTenants s t)
    (hj : ∀ x, (t.job x).state ≠ .free → (s.job x).state ≠ .free ∧ (t.job x).owner = (s.job x).owner ∧
      (t.job x).tenant = (s.job x).tenant) : WindowLaw t := by
  obtain ⟨h1, h2, h3, h4, h5⟩ := h
  refine ⟨ha.freeValues h1, ?_, ?_, ?_, fun x hx => ?_⟩
  · simpa only [ha.badge] using h2
  · simpa only [hn.owns] using h3
  · simpa only [ne_eq, ha.free, hn.owns] using h4
  · obtain ⟨hs, ho, ht⟩ := hj x hx
    rw [ho, ht, hn.owns, ne_eq, ha.free]
    exact h5 x hs

/-- A total over the entries, where one entry changes. -/
theorem jobTotal_differ (hs : Table.Sound (Job.freeAt 0) s.jt.jobs) (ht : Table.Sound (Job.freeAt 0) t.jt.jobs)
    (ho : OnlyJob i s t) (f f' : Nat → Job → Nat) (hf : ∀ k, f k (Job.freeAt 0) = 0) (hf' : ∀ k, f' k (Job.freeAt 0) = 0)
    (same : ∀ k j, k ≠ i → f' k j = f k j) :
    Table.total f' t.jt.jobs + f i (s.job i) = Table.total f s.jt.jobs + f' i (t.job i) := by
  refine Table.total_differ (Job.freeAt 0) i f f' _ _ hs ht hf hf' fun k hk => ?_
  have e := ho k hk
  simp only [State.job] at e
  rw [e, same k _ hk]

/-- A total over the entries stands where the changed entry's figure stands. -/
theorem jobTotal_same (hs : Table.Sound (Job.freeAt 0) s.jt.jobs) (ht : Table.Sound (Job.freeAt 0) t.jt.jobs)
    (ho : OnlyJob i s t) (f f' : Nat → Job → Nat) (hf : ∀ k, f k (Job.freeAt 0) = 0) (hf' : ∀ k, f' k (Job.freeAt 0) = 0)
    (same : ∀ k j, k ≠ i → f' k j = f k j) (hi : f' i (t.job i) = f i (s.job i)) :
    Table.total f' t.jt.jobs = Table.total f s.jt.jobs := by
  have := jobTotal_differ hs ht ho f f' hf hf' same
  omega

/-- The entry's reservation counts for as much as before, in the account it counts for. -/
theorem ReservedLaw.of_job {g g' : Finset Nat} (h : ReservedLaw g s) (hs : Table.Sound (Job.freeAt 0) s.jt.jobs)
    (ht : Table.Sound (Job.freeAt 0) t.jt.jobs) (ha : ∀ i, (t.account i).reserved = (s.account i).reserved)
    (ho : OnlyJob i s t) (hg : ∀ k, k ≠ i → (k ∈ g' ↔ k ∈ g))
    (hi : ∀ c o, reservationOf g' c o i (t.job i) = reservationOf g c o i (s.job i)) : ReservedLaw g' t := by
  intro o c
  rw [ha, h o c]
  refine (jobTotal_same hs ht ho _ _ (by simp) (by simp) (fun k j hk => ?_) (hi c o)).symm
  simp only [reservationOf, hg k hk]

/-- An entry that is live before and after, or neither, with its owner. -/
theorem LiveLaw.of_job (h : LiveLaw s) (hs : Table.Sound (Job.freeAt 0) s.jt.jobs)
    (ht : Table.Sound (Job.freeAt 0) t.jt.jobs) (ha : ∀ i, (t.account i).liveJobs = (s.account i).liveJobs)
    (ho : OnlyJob i s t) (hi : ∀ o, liveOf o i (t.job i) = liveOf o i (s.job i)) : LiveLaw t := by
  intro o
  rw [ha, jobTotal_same hs ht ho (liveOf o) (liveOf o) (by simp) (by simp) (fun _ _ _ => rfl) (hi o)]
  exact h o

/-- R23: an entry that ends lowers its owner's live jobs. -/
theorem LiveLaw.of_endedJob (h : LiveLaw s) (hs : Table.Sound (Job.freeAt 0) s.jt.jobs)
    (ht : Table.Sound (Job.freeAt 0) t.jt.jobs)
    (ha : ∀ o, (t.account o).liveJobs = if o = (s.job i).owner then (s.account o).liveJobs - 1 else (s.account o).liveJobs)
    (ho : OnlyJob i s t) (hlive : (s.job i).state.live = true) (hend : (t.job i).state.live = false) : LiveLaw t := by
  intro o
  have differ := jobTotal_differ hs ht ho (liveOf o) (liveOf o) (by simp) (by simp) (fun _ _ _ => rfl)
  obtain ⟨hsum, hmax⟩ := h o
  rw [ha]
  by_cases e : o = (s.job i).owner
  · simp only [liveOf, hlive, hend, Bool.true_and, Bool.false_and, e, beq_self_eq_true] at differ
    rw [if_pos e]
    rw [e] at hsum hmax ⊢
    simp only [if_true, Bool.false_eq_true, if_false] at differ hsum ⊢
    omega
  · have e' : ¬(s.job i).owner = o := fun h => e h.symm
    simp only [liveOf, hlive, hend, Bool.true_and, Bool.false_and, beq_iff_eq, e', if_false, Bool.false_eq_true] at differ hsum ⊢
    rw [if_neg e]
    omega

/-- An entry that is in use before and after, or neither, with its tenant. -/
theorem ShareLaw.of_job (h : ShareLaw s) (hs : Table.Sound (Job.freeAt 0) s.jt.jobs)
    (ht : Table.Sound (Job.freeAt 0) t.jt.jobs) (hn : ∀ n, (t.tenant n).share = (s.tenant n).share)
    (ho : OnlyJob i s t) (hi : ∀ n, inUseOf n i (t.job i) ≤ inUseOf n i (s.job i)) : ShareLaw t := by
  refine ⟨fun n hn4 => ?_, by simpa only [hn] using h.2⟩
  have differ := jobTotal_differ hs ht ho (inUseOf n) (inUseOf n) (by simp) (by simp) (fun _ _ _ => rfl)
  have := hi n
  have := h.1 n hn4
  rw [hn]
  omega

end

end Sys2Proof.Machine

/-! Reserve, Return and Charge (section 1.4): what they do to the figures the laws read. -/

namespace Sys2Proof.Machine

theorem owningTenant_owns {s : State} {n o : Nat} (h : owningTenant s o = some n) : (s.tenant n).owns o = true :=
  List.find?_some (p := fun n => (s.tenant n).owns o) h

/-- A tenant that owns an account is the one found for it. -/
theorem owningTenant_eq {s : State} (h : WindowLaw s) {n o : Nat} (hn : n < 4) (ho : (s.tenant n).owns o = true) :
    owningTenant s o = some n := by
  obtain ⟨-, -, hunique, -⟩ := h
  have found : ∃ m, owningTenant s o = some m := by
    rw [← Option.isSome_iff_exists, owningTenant, List.find?_isSome]
    exact ⟨n, by simpa [Config.tenants] using hn, ho⟩
  obtain ⟨m, hm⟩ := found
  have hm4 : m < 4 := by simpa [Config.tenants] using List.mem_of_find?_eq_some hm
  rw [hm, hunique m n o hm4 hn (owningTenant_owns hm) ho]

/-- The reserved pages of account o and of its tenant are changed class by class, and nothing else that the laws read. -/
structure Adjusted (o : Nat) (f : PageClass → Nat → Nat) (s t : State) : Prop where
  jt : t.jt = s.jt
  ru : t.ru = s.ru
  ft : t.ft = s.ft
  se : t.se = s.se
  su : t.su = s.su
  cu : t.cu = s.cu
  flc : t.flc = s.flc
  accountsWf : Table.wf Account.free s.au.accounts = true → Table.wf Account.free t.au.accounts = true
  tenantsWf : Table.wf Tenant.cold s.au.tenants = true → Table.wf Tenant.cold t.au.tenants = true
  others : ∀ k, k ≠ o → t.account k = s.account k
  state : (t.account o).state = (s.account o).state
  badge : (t.account o).badge = (s.account o).badge
  liveJobs : (t.account o).liveJobs = (s.account o).liveJobs
  reserved : ∀ c, (t.account o).reserved.get c = f c ((s.account o).reserved.get c)
  window : ∀ n, (t.tenant n).window = (s.tenant n).window
  share : ∀ n, (t.tenant n).share = (s.tenant n).share
  tenantReserved : ∀ n c, (t.tenant n).reserved.get c =
    if owningTenant s o = some n then f c ((s.tenant n).reserved.get c) else (s.tenant n).reserved.get c

section
variable {o : Nat} {f f' : PageClass → Nat → Nat} {s t u : State}

theorem owningTenant_congr (hw : ∀ n, (t.tenant n).window = (s.tenant n).window) (o : Nat) :
    owningTenant t o = owningTenant s o := by
  simp only [owningTenant, Tenant.owns, hw]

theorem Adjusted.trans (h : Adjusted o f s t) (h' : Adjusted o f' t u) : Adjusted o (fun c => f' c ∘ f c) s u where
  jt := h'.jt.trans h.jt
  ru := h'.ru.trans h.ru
  ft := h'.ft.trans h.ft
  se := h'.se.trans h.se
  su := h'.su.trans h.su
  cu := h'.cu.trans h.cu
  flc := h'.flc.trans h.flc
  accountsWf := h'.accountsWf ∘ h.accountsWf
  tenantsWf := h'.tenantsWf ∘ h.tenantsWf
  others k hk := (h'.others k hk).trans (h.others k hk)
  state := h'.state.trans h.state
  badge := h'.badge.trans h.badge
  liveJobs := h'.liveJobs.trans h.liveJobs
  reserved c := by rw [h'.reserved, h.reserved]; rfl
  window n := (h'.window n).trans (h.window n)
  share n := (h'.share n).trans (h.share n)
  tenantReserved n c := by
    rw [h'.tenantReserved, owningTenant_congr h.window, h.tenantReserved]
    split <;> rfl

@[simp] theorem account_withOwner (i : Nat) (g : Tenant → Tenant) (s : State) (k : Nat) :
    (withOwner i g s).account k = s.account k := by
  unfold withOwner
  split <;> simp

theorem tenant_withOwner (i : Nat) (g : Tenant → Tenant) (s : State) (n : Nat) :
    (withOwner i g s).tenant n = if owningTenant s i = some n then g (s.tenant n) else s.tenant n := by
  unfold withOwner
  split
  · next m hm =>
    rw [State.tenant_setTenant, hm]
    by_cases e : n = m
    · subst e; simp
    · rw [if_neg e, if_neg (by simpa using fun h => e h.symm)]
  · next hm => simp [hm]

/-- The account's record and its tenant's are changed, of what the laws read the reserved pages alone. -/
theorem Adjusted.of_records (fa : Account) (ft : Tenant → Tenant)
    (ha : fa.state = (s.account o).state ∧ fa.badge = (s.account o).badge ∧ fa.liveJobs = (s.account o).liveJobs)
    (hr : ∀ c, fa.reserved.get c = f c ((s.account o).reserved.get c))
    (ht : ∀ x : Tenant, (ft x).window = x.window ∧ (ft x).share = x.share)
    (htr : ∀ (x : Tenant) (c : PageClass), (ft x).reserved.get c = f c (x.reserved.get c)) :
    Adjusted o f s (withOwner o ft (s.setAccount o fa)) := by
  have howner : owningTenant (s.setAccount o fa) o = owningTenant s o := by simp [owningTenant]
  refine ⟨by simp, by simp, by simp, by simp, by simp, by simp, by simp, fun hwf => ?_, fun hwf => ?_, fun k hk => ?_, ?_, ?_,
    ?_, fun c => ?_, fun n => ?_, fun n => ?_, fun n c => ?_⟩
  · unfold withOwner
    split <;> exact Table.wf_set _ _ _ _ hwf
  · unfold withOwner
    split
    · exact Table.wf_set _ _ _ _ hwf
    · exact hwf
  · simp [hk]
  · simp [ha]
  · simp [ha]
  · simp [ha]
  · simp [hr]
  · rw [tenant_withOwner]; split <;> simp [ht]
  · rw [tenant_withOwner]; split <;> simp [ht]
  · rw [tenant_withOwner, howner]; split <;> simp [htr]

theorem get_bump (c c' : PageClass) (g : Nat → Nat) (p : PerClass Nat) :
    (bump c g p).get c' = if c' = c then g (p.get c') else p.get c' := by
  cases c <;> cases c' <;> simp [bump, PerClass.get, PerClass.set]

/-- A change of one class. -/
def onlyClass (c : PageClass) (g : Nat → Nat) (c' : PageClass) (x : Nat) : Nat := if c' = c then g x else x

theorem reserve_adjusted (o : Nat) (c : PageClass) (n : Nat) (s : State) :
    Adjusted o (onlyClass c (· + n)) s (reserve o c n s) := by
  unfold reserve
  exact Adjusted.of_records _ _ ⟨rfl, rfl, rfl⟩ (fun c' => get_bump c c' _ _) (fun _ => ⟨rfl, rfl⟩)
    (fun _ c' => get_bump c c' _ _)

theorem returnPages_adjusted (o : Nat) (c : PageClass) (n : Nat) (s : State) :
    Adjusted o (onlyClass c (· - n)) s (returnPages o c n s) := by
  unfold returnPages
  exact Adjusted.of_records _ _ ⟨rfl, rfl, rfl⟩ (fun c' => get_bump c c' _ _) (fun _ => ⟨rfl, rfl⟩)
    (fun _ c' => get_bump c c' _ _)

/-- A raise changes nothing of an adjusted state that the laws read. -/
theorem Adjusted.raise (h : Adjusted o f s t) (p : PortName) (k : NoticeKind) : Adjusted o f s (raise p k t) := by
  have hau : (Machine.raise p k t).au = t.au := by simp
  have ha : ∀ i, (Machine.raise p k t).account i = t.account i := fun i => by simp [State.account]
  have hn : ∀ i, (Machine.raise p k t).tenant i = t.tenant i := fun i => by simp [State.tenant]
  refine ⟨by simp [h.jt], by simp [h.ru], by simp [h.ft], by simp [h.se], by simp [h.su], by simp [h.cu], by simp [h.flc],
    ?_, ?_, ?_, ?_, ?_, ?_, ?_, ?_, ?_, ?_⟩
  · rw [hau]; exact h.accountsWf
  · rw [hau]; exact h.tenantsWf
  · simpa only [ha] using h.others
  · rw [ha]; exact h.state
  · rw [ha]; exact h.badge
  · rw [ha]; exact h.liveJobs
  · simpa only [ha] using h.reserved
  · simpa only [hn] using h.window
  · simpa only [hn] using h.share
  · simpa only [hn] using h.tenantReserved

theorem charge_adjusted (o : Nat) (c : PageClass) (a r : Nat) (s : State) :
    Adjusted o (onlyClass c (· - r)) s (charge o c a r s) := by
  have paid : Adjusted o (onlyClass c (· - r)) s
      (withOwner o (fun t => chargedTenant t c a r) (s.setAccount o (chargedAccount (s.account o) c a r))) :=
    Adjusted.of_records _ _ ⟨rfl, rfl, rfl⟩ (fun c' => get_bump c c' _ _) (fun _ => ⟨rfl, rfl⟩)
      (fun _ c' => get_bump c c' _ _)
  unfold charge
  dsimp only
  split
  · split
    · exact paid.raise _ _
    · exact paid
  · exact paid

/-- The two classes changed one after the other. -/
theorem Adjusted.both {g : Nat → Nat → Nat} {p : PerClass Nat}
    (h : Adjusted o (onlyClass .mono (fun x => g x p.mono)) s t)
    (h' : Adjusted o (onlyClass .colour (fun x => g x p.colour)) t u) : Adjusted o (fun c x => g x (p.get c)) s u := by
  have both := h.trans h'
  have e : (fun c => onlyClass .colour (fun x => g x p.colour) c ∘ onlyClass .mono (fun x => g x p.mono) c) =
      fun c x => g x (p.get c) := by
    funext c x
    cases c <;> simp [onlyClass, PerClass.get]
  rwa [e] at both

theorem reserveBoth_adjusted (o : Nat) (p : PerClass Nat) (s : State) :
    Adjusted o (fun c x => x + p.get c) s (reserveBoth o p s) :=
  Adjusted.both (g := fun x n => x + n) (reserve_adjusted o _ _ s) (reserve_adjusted o _ _ _)

theorem returnBoth_adjusted (o : Nat) (p : PerClass Nat) (s : State) :
    Adjusted o (fun c x => x - p.get c) s (returnBoth o p s) :=
  Adjusted.both (g := fun x n => x - n) (returnPages_adjusted o _ _ s) (returnPages_adjusted o _ _ _)

theorem chargeBoth_adjusted (o : Nat) (a r : PerClass Nat) (s : State) :
    Adjusted o (fun c x => x - r.get c) s (chargeBoth o a r s) :=
  Adjusted.both (g := fun x n => x - n) (charge_adjusted o _ _ _ s) (charge_adjusted o _ _ _ _)

/-! ### The laws after an adjustment -/

theorem Adjusted.canonical (h : Adjusted o f s t) (hc : Canonical s) : Canonical t := by
  obtain ⟨h1, h2, h3⟩ := hc
  exact ⟨h.accountsWf h1, h.tenantsWf h2, by rw [h.jt, h.ru, h.ft, h.se, h.su, h.cu, h.flc]; exact h3⟩

theorem Adjusted.sameTenantWindows (h : Adjusted o f s t) (n i : Nat) : (t.tenant n).owns i = (s.tenant n).owns i := by
  rw [Tenant.owns, h.window, Tenant.owns]

theorem Adjusted.sameJobs (h : Adjusted o f s t) : SameJobs s t := .of_jobs (by rw [h.jt])

/-- The accounts' states, badges and live jobs stand; a FREE account is not adjusted. -/
theorem Adjusted.windowLaw (h : Adjusted o f s t) (hw : WindowLaw s) (ho : (s.account o).state ≠ .free) : WindowLaw t := by
  have hstate : ∀ i, (t.account i).state = (s.account i).state := by
    intro i
    by_cases e : i = o
    · subst e; exact h.state
    · rw [h.others i e]
  have hbadge : ∀ i, (t.account i).badge = (s.account i).badge := by
    intro i
    by_cases e : i = o
    · subst e; exact h.badge
    · rw [h.others i e]
  obtain ⟨h1, h2⟩ := hw
  refine ⟨fun i hi => ?_, ?_⟩
  · rw [hstate] at hi
    have e : i ≠ o := by rintro rfl; exact ho hi
    rw [h.others i e]
    exact h1 i hi
  · have hj := h.sameJobs
    simpa only [hstate, hbadge, h.sameTenantWindows, hj.state, hj.tenant, hj.owner] using h2

theorem Adjusted.sameLive (h : Adjusted o f s t) (i : Nat) : (t.account i).liveJobs = (s.account i).liveJobs := by
  by_cases e : i = o
  · subst e; exact h.liveJobs
  · rw [h.others i e]

/-- The tenants' sums follow the accounts' where the adjustment takes away no more than is there. -/
theorem Adjusted.tenantSum (h : Adjusted o f s t) (hw : WindowLaw s) (ht : TenantSumLaw s)
    (hs : Table.Sound Account.free s.au.accounts) (hs' : Table.Sound Account.free t.au.accounts)
    (linear : ∀ c x, (s.account o).reserved.get c ≤ x → f c x + (s.account o).reserved.get c =
      x + f c ((s.account o).reserved.get c)) : TenantSumLaw t := by
  intro n c hn
  have same : ∀ k a, heldFor (t.tenant n) c k a = heldFor (s.tenant n) c k a := by
    intro k a
    simp only [heldFor, h.sameTenantWindows]
  have differ := Table.total_differ Account.free o (heldFor (s.tenant n) c) (heldFor (t.tenant n) c) s.au.accounts
    t.au.accounts hs hs' (by simp) (by simp) (fun k hk => by
      have e := h.others k hk
      simp only [State.account] at e
      rw [e, same])
  have le := Table.le_total Account.free (heldFor (s.tenant n) c) s.au.accounts hs (by simp) o
  have hr := h.reserved c
  rw [← State.account, ← State.account, same] at differ
  rw [← State.account] at le
  rw [h.tenantReserved, ht n c hn]
  by_cases hown : (s.tenant n).owns o = true
  · rw [if_pos (owningTenant_eq hw hn hown)]
    simp only [heldFor, hown, if_true] at differ le ⊢
    have moved := linear c _ le
    omega
  · have hne : owningTenant s o ≠ some n := fun e => hown (owningTenant_owns e)
    rw [if_neg hne]
    have out : ∀ a, heldFor (s.tenant n) c o a = 0 := fun a => if_neg hown
    rw [out, out] at differ
    omega

theorem Adjusted.refl (o : Nat) (s : State) : Adjusted o (fun _ x => x) s s :=
  ⟨rfl, rfl, rfl, rfl, rfl, rfl, rfl, id, id, fun _ _ => rfl, rfl, rfl, rfl, fun _ => rfl, fun _ => rfl, fun _ => rfl,
    fun _ _ => by split <;> rfl⟩

/-- R20: the reservation an entry records is returned, nothing where it records none. -/
theorem returnReservation_adjusted (j : Job) (s : State) :
    Adjusted j.owner (fun c x => x - recordedPages j c) s (returnReservation j s) := by
  unfold returnReservation
  split
  · next r hr => simpa [recordedPages, hr] using returnBoth_adjusted j.owner r s
  · next hr => simpa [recordedPages, hr] using Adjusted.refl j.owner s

/-- R21: the charge of a job's end takes away the reservation its entry records. -/
theorem chargeJob_adjusted (j : Job) (actual : PerClass Nat) (s : State) :
    Adjusted j.owner (fun c x => x - recordedPages j c) s (chargeBoth j.owner actual (j.reservation.getD (.both 0)) s) := by
  have e : ∀ c, (j.reservation.getD (.both 0)).get c = recordedPages j c := by
    intro c
    cases hr : j.reservation <;> cases c <;> simp [recordedPages, hr, PerClass.both, PerClass.get]
  have paid := chargeBoth_adjusted j.owner actual (j.reservation.getD (.both 0)) s
  simpa only [e] using paid

/-- The laws that do not read reserved pages. -/
theorem Adjusted.laws {g g' : Finset Nat} (h : Adjusted o f s t) (hl : Laws g s) (ho : (s.account o).state ≠ .free)
    (linear : ∀ c x, (s.account o).reserved.get c ≤ x → f c x + (s.account o).reserved.get c =
      x + f c ((s.account o).reserved.get c)) (hr : ReservedLaw g' t) : Laws g' t := by
  have hc := h.canonical hl.canonical
  have accountsSound := (Table.wf_iff_sound _ _).1 hc.1
  have jobsSound := (Table.wf_iff_sound _ _).1 hc.2.2.1
  have lanesSound := (Table.wf_iff_sound _ _).1 hc.2.2.2.2.2.2.1
  have printers : SamePrinters s t := .of_printers (by rw [h.ft])
  exact {
    canonical := hc
    stock := hl.stock.congr hl.lanesSound lanesSound printers.enrolled (.of_lanes (by rw [h.se])) (.of_types (by rw [h.su]))
    dispatch := hl.dispatch.congr printers h.sameJobs
    session := hl.session.congr (.of_sessions (by rw [h.ru])) h.sameJobs
    committed := hl.committed.congr (.of_lanes (by rw [h.se])) printers.queue h.sameJobs.needs
    window := h.windowLaw hl.window ho
    reserved := hr
    tenantSum := h.tenantSum hl.window hl.tenantSum hl.accountsSound accountsSound linear
    live := hl.live.congr hl.jobsSound jobsSound h.sameLive h.sameJobs
    share := hl.share.congr hl.jobsSound jobsSound h.share h.sameJobs }

/-- A released job's reservation is taken off its account: the laws hold with that job left out. -/
theorem Laws.of_returned {g : Finset Nat} {i : Nat} (hl : Laws g s) (hr : (s.job i).state.released = true) (hi : i ∉ g)
    (h : Adjusted (s.job i).owner (fun c x => x - recordedPages (s.job i) c) s t) : Laws (insert i g) t := by
  have differ : ∀ c o, Table.total (reservationOf (insert i g) c o) s.jt.jobs + reservationOf g c o i (s.job i) =
      Table.total (reservationOf g c o) s.jt.jobs := by
    intro c o
    have one := jobTotal_differ (i := i) hl.jobsSound hl.jobsSound (fun _ _ => rfl) (reservationOf g c o)
      (reservationOf (insert i g) c o) (by simp) (by simp) (fun k j hk => by simp [reservationOf, hk])
    simpa [reservationOf] using one
  have figure : ∀ c, reservationOf g c (s.job i).owner i (s.job i) = recordedPages (s.job i) c := by
    intro c
    simp [reservationOf, hi, reservedPages, hr]
  have enough : ∀ c, recordedPages (s.job i) c ≤ (s.account (s.job i).owner).reserved.get c := by
    intro c
    rw [hl.reserved, ← differ, figure]
    omega
  obtain ⟨-, -, -, -, hjobs⟩ := id hl.window
  refine h.laws hl (hjobs i (released_ne_free hr)).2.2 (fun c x hx => ?_) (fun o c => ?_)
  · have := enough c
    omega
  · have one := differ c o
    have before := hl.reserved o c
    by_cases e : o = (s.job i).owner
    · subst e
      rw [h.reserved, before, ← one, figure, h.jt]
      omega
    · rw [h.others o e, before, ← one, h.jt]
      have e' : ¬(s.job i).owner = o := fun h => e h.symm
      simp [reservationOf, e']

/-- A charge against no reservation leaves every figure the laws read (R101). -/
theorem Laws.of_charged {g : Finset Nat} (hl : Laws g s) (ho : (s.account o).state ≠ .free)
    (h : Adjusted o (fun _ x => x - 0) s t) : Laws g t := by
  refine h.laws hl ho (fun c x _ => by omega) ?_
  have same : ∀ i, (t.account i).reserved = (s.account i).reserved := by
    intro i
    by_cases e : i = o
    · subst e
      have one := h.reserved
      cases ht : (t.account i).reserved
      cases hs : (s.account i).reserved
      rw [ht, hs] at one
      have m := one .mono
      have c := one .colour
      simp only [PerClass.get, Nat.sub_zero] at m c
      rw [m, c]
    · rw [h.others i e]
  exact hl.reserved.congr hl.jobsSound (by rw [h.jt]; exact hl.jobsSound) same h.sameJobs

end

end Sys2Proof.Machine

/-! The moves of a job that the laws see: it leaves its queue and its claims are returned, it is restated within its queue, it
ends. -/

namespace Sys2Proof.Machine

/-! ### Updates the laws do not see -/

section
variable {g : Finset Nat} {s t : State}

theorem SameView.of_tables (hau : t.au = s.au) (hj : t.jt.jobs = s.jt.jobs) (hs : t.ru.sessions = s.ru.sessions)
    (hp : t.ft.printers = s.ft.printers) (hl : t.se.lanes = s.se.lanes) (ht : t.su.types = s.su.types) : SameView s t :=
  ⟨.of_jobs hj, .of_printers hp, .of_lanes hl, .of_lanes hl, .of_types ht, .of_sessions hs, .of_accounts (by rw [hau]),
    .of_tenants (by rw [hau])⟩

/-- R168: raising a notice changes nothing the laws read. -/
theorem Laws.raise (h : Laws g s) (p : PortName) (k : NoticeKind) : Laws g (raise p k s) :=
  h.congr (by simpa [Canonical] using h.canonical) (.of_tables (by simp) (by simp) (by simp) (by simp) (by simp) (by simp))

theorem Laws.raiseTenant (h : Laws g s) (n : Nat) (k : NoticeKind) : Laws g (raiseTenant n k s) := h.raise _ _

theorem Laws.setFinishedList (h : Laws g s) (n : Nat) (l : List Handle) : Laws g (s.setFinishedList n l) := by
  obtain ⟨h1, h2, h3, h4, h5⟩ := id h.canonical
  exact h.congr ⟨h1, h2, h3, Table.wf_set _ _ _ _ h4, h5⟩ (.of_tables rfl rfl rfl rfl rfl rfl)

theorem canonical_setJob (h : Canonical s) (i : Nat) (j : Job) : Canonical (s.setJob i j) :=
  ⟨h.1, h.2.1, Table.wf_set _ _ _ _ h.2.2.1, h.2.2.2⟩

theorem canonical_setAccount (h : Canonical s) (i : Nat) (a : Account) : Canonical (s.setAccount i a) :=
  ⟨Table.wf_set _ _ _ _ h.1, h.2⟩

theorem canonical_setTenant (h : Canonical s) (n : Nat) (x : Tenant) : Canonical (s.setTenant n x) :=
  ⟨h.1, Table.wf_set _ _ _ _ h.2.1, h.2.2⟩

theorem canonical_setPrinter (h : Canonical s) (n : Nat) (p : Printer) : Canonical (s.setPrinter n p) := by
  obtain ⟨h1, h2, h3, h4, h5, h6, h7⟩ := h
  exact ⟨h1, h2, h3, h4, h5, Table.wf_set _ _ _ _ h6, h7⟩

theorem canonical_setLane (h : Canonical s) (n : Nat) (l : Lane) (x : Option LaneRecord) : Canonical (s.setLane n l x) := by
  obtain ⟨h1, h2, h3, h4, h5, h6, h7, h8⟩ := h
  exact ⟨h1, h2, h3, h4, h5, h6, Table.wf_set _ _ _ _ h7, h8⟩

theorem canonical_setType (h : Canonical s) (u : Nat) (r : CartridgeType) : Canonical (s.setType u r) := by
  obtain ⟨h1, h2, h3, h4, h5, h6, h7, h8, h9⟩ := h
  exact ⟨h1, h2, h3, h4, h5, h6, h7, Table.wf_set _ _ _ _ h8, h9⟩

theorem canonical_setSession (h : Canonical s) (n : Nat) (x : Option Session) : Canonical (s.setSession n x) := by
  obtain ⟨h1, h2, h3, h4, h5, h6⟩ := h
  exact ⟨h1, h2, h3, h4, Table.wf_set _ _ _ _ h5, h6⟩

theorem onlyJob_setJob (s : State) (i : Nat) (j : Job) : OnlyJob i s (s.setJob i j) := fun x hx => by simp [hx]

end

/-! ### Leaving a dispatch queue -/

section
variable {s : State}

theorem lane_changeCommitted (n : Nat) (needs : PerLane Nat) (f : Nat → Nat → Nat) (l : Lane) (s : State) (m : Nat) (l' : Lane) :
    (changeCommitted n needs f l s).lane m l' = if m = n ∧ l' = l then
      (s.lane m l').map (fun x => { x with committed := f x.committed (needs.get l) }) else s.lane m l' := by
  rw [changeCommitted, State.lane_setLane]
  split
  · next e => rw [e.1, e.2]
  · rfl

/-- The committed needs of a printer's four lanes changed one after the other. -/
theorem lane_changeAll (n : Nat) (needs : PerLane Nat) (f : Nat → Nat → Nat) (s : State) (m : Nat) (l : Lane) :
    (Lane.all.foldl (fun s l => changeCommitted n needs f l s) s).lane m l =
      (s.lane m l).map (fun x => if m = n then { x with committed := f x.committed (needs.get l) } else x) := by
  simp only [Lane.all, List.foldl_cons, List.foldl_nil, lane_changeCommitted]
  by_cases e : m = n
  · cases l <;> simp [e]
  · simp [e]

/-- R114: the needs an entry records are taken off the committed needs of the printer's lanes. -/
theorem lane_returnNeeds (n : Nat) (j : Job) (s : State) (m : Nat) (l : Lane) :
    (returnNeeds n j s).lane m l =
      (s.lane m l).map (fun x => if m = n then { x with committed := x.committed - recordedNeed j l } else x) := by
  unfold returnNeeds
  split
  · next e => simp [recordedNeed, e]
  · next needs e =>
    rw [lane_changeAll]
    simp [recordedNeed, e]

theorem lane_addNeeds (n : Nat) (needs : PerLane Nat) (s : State) (m : Nat) (l : Lane) :
    (addNeeds n needs s).lane m l =
      (s.lane m l).map (fun x => if m = n then { x with committed := x.committed + needs.get l } else x) :=
  lane_changeAll n needs _ s m l

theorem canonical_changeAll (n : Nat) (needs : PerLane Nat) (f : Nat → Nat → Nat) (h : Canonical s) :
    Canonical (Lane.all.foldl (fun s l => changeCommitted n needs f l s) s) := by
  simp only [Lane.all, List.foldl_cons, List.foldl_nil, changeCommitted]
  exact canonical_setLane (canonical_setLane (canonical_setLane (canonical_setLane h _ _ _) _ _ _) _ _ _) _ _ _

theorem canonical_returnNeeds (n : Nat) (j : Job) (h : Canonical s) : Canonical (returnNeeds n j s) := by
  unfold returnNeeds
  split
  · exact h
  · exact canonical_changeAll n _ _ h

theorem printer_leaveQueue (n : Nat) (k : Handle) (s : State) (m : Nat) :
    (leaveQueue n k s).printer m =
      if m = n then { s.printer n with queue := (s.printer n).queue.filter (· ≠ k) } else s.printer m := by
  simp [leaveQueue]

/-- R94, R114: a job's needs returned and its handle out of the queue. -/
def outOfQueue (n : Nat) (k : Handle) (j : Job) (s : State) : State := leaveQueue n k (returnNeeds n j s)

theorem outOfQueue_frame (n : Nat) (k : Handle) (j : Job) (s : State) :
    (outOfQueue n k j s).au = s.au ∧ (outOfQueue n k j s).jt = s.jt ∧ (outOfQueue n k j s).ru = s.ru ∧
    (outOfQueue n k j s).su = s.su ∧ (outOfQueue n k j s).tb = s.tb ∧
    (∀ m, (outOfQueue n k j s).printer m =
      if m = n then { s.printer n with queue := (s.printer n).queue.filter (· ≠ k) } else s.printer m) ∧
    (∀ m l, (outOfQueue n k j s).lane m l =
      (s.lane m l).map (fun x => if m = n then { x with committed := x.committed - recordedNeed j l } else x)) := by
  refine ⟨by simp [outOfQueue], by simp [outOfQueue], by simp [outOfQueue], by simp [outOfQueue], by simp [outOfQueue],
    fun m => ?_, fun m l => ?_⟩
  · rw [outOfQueue, printer_leaveQueue]
    simp [State.printer]
  · rw [← lane_returnNeeds]
    simp [outOfQueue, leaveQueue]

theorem canonical_outOfQueue (n : Nat) (k : Handle) (j : Job) (h : Canonical s) : Canonical (outOfQueue n k j s) :=
  canonical_setPrinter (canonical_returnNeeds n j h) _ _

/-- A job that stands in a dispatch queue, by its handle. -/
structure InQueue (n : Nat) (k : Handle) (s : State) : Prop where
  released : (s.job k.index).state.released = true
  generation : (s.job k.index).generation = k.generation
  printer : (s.job k.index).printer = some n

theorem InQueue.of_mem {n : Nat} {k : Handle} (h : DispatchLaw s) (hk : k ∈ (s.printer n).queue) : InQueue n k s := by
  obtain ⟨hg, hr, hp⟩ := h.2.1 n k hk
  exact ⟨hr, hg, hp⟩

theorem InQueue.mem {n : Nat} {k : Handle} (q : InQueue n k s) (h : DispatchLaw s) : k ∈ (s.printer n).queue :=
  h.mem_queue k n q.released q.generation q.printer

/-- A job out of its queue, its reservation returned before, takes a state in which it is released no more: every law but
that of the live jobs, which depends on whether the job lives on. -/
theorem Laws.of_leftQueue {g : Finset Nat} {n : Nat} {k : Handle} {j e : Job} {t : State}
    (h : Laws (insert k.index g) s) (q : InQueue n k s) (hj : j.needs = (s.job k.index).needs)
    (he : e.state.released = false ∧ e.state ≠ .free ∧ e.owner = (s.job k.index).owner ∧ e.tenant = (s.job k.index).tenant)
    (hc : Canonical t) (hjt : t.jt = ((outOfQueue n k j s).setJob k.index e).jt) (hft : t.ft = (outOfQueue n k j s).ft)
    (hse : t.se = (outOfQueue n k j s).se) (hsu : t.su = s.su) (hru : t.ru = s.ru) (htenants : t.au.tenants = s.au.tenants)
    (holders : SameHolders s t) (hreserved : ∀ i, (t.account i).reserved = (s.account i).reserved) (live : LiveLaw t) : Laws g t := by
  obtain ⟨-, fjt, -, -, -, fprinter, flane⟩ := outOfQueue_frame n k j s
  have accountsSound := (Table.wf_iff_sound _ _).1 hc.1
  have jobsSound := (Table.wf_iff_sound _ _).1 hc.2.2.1
  have lanesSound := (Table.wf_iff_sound _ _).1 hc.2.2.2.2.2.2.1
  have hjob : ∀ x, t.job x = if x = k.index then e else s.job x := by
    intro x
    rw [job_congr hjt, State.job_setJob, job_congr fjt]
  have hprinter : ∀ m, t.printer m = (outOfQueue n k j s).printer m := printer_congr hft
  have hlane : ∀ m l, t.lane m l = (outOfQueue n k j s).lane m l := lane_congr hse
  have only : OnlyJob k.index s t := fun x hx => by rw [hjob, if_neg hx]
  have hi : t.job k.index = e := by rw [hjob, if_pos rfl]
  have enrolled : ∀ m, (t.printer m).enrolled = (s.printer m).enrolled := fun m => by
    rw [hprinter, fprinter]; split <;> simp [*]
  have admin : ∀ m, (t.printer m).admin = (s.printer m).admin := fun m => by
    rw [hprinter, fprinter]; split <;> simp [*]
  have queue : ∀ m, (t.printer m).queue =
      if m = n then (s.printer n).queue.filter (· ≠ k) else (s.printer m).queue := fun m => by
    rw [hprinter, fprinter]; split <;> rfl
  have tenants : SameTenants s t := .of_tenants htenants
  have hmem := q.mem h.dispatch
  obtain ⟨her, hef, heo, het⟩ := he
  have inUse : ∀ x, (t.job x).state ≠ .free → (s.job x).state ≠ .free ∧ (t.job x).owner = (s.job x).owner ∧
      (t.job x).tenant = (s.job x).tenant := by
    intro x hx
    rw [hjob] at hx ⊢
    split at hx
    · next e' => subst e'; rw [if_pos rfl]; exact ⟨released_ne_free q.released, heo, het⟩
    · next e' => rw [if_neg e']; exact ⟨hx, rfl, rfl⟩
  exact {
    canonical := hc
    stock := h.stock.congr h.lanesSound lanesSound enrolled
      (fun m l => by
        rw [hlane, flane, Option.map_map]
        congr 1
        funext x
        simp only [Function.comp]
        split <;> rfl) (.of_types (by rw [hsu]))
    dispatch := h.dispatch.of_leftQueue rfl enrolled admin queue only hmem (by rw [hi]; exact her)
    session := h.session.of_unheldJob (.of_sessions (by rw [hru])) only (released_ne_held q.released)
    committed := h.committed.of_leftQueue h.dispatch rfl queue
      (fun m l => by
        rw [hlane, flane, Option.map_map]
        congr 1
        funext x
        simp only [Function.comp, recordedNeed, hj]
        split <;> rfl) only hmem
    window := h.window.of_jobs holders tenants inUse
    reserved := h.reserved.of_job h.jobsSound jobsSound hreserved only
      (fun x hx => by simp [hx]) (fun c o => by simp [reservationOf, hi, reservedPages, her])
    tenantSum := h.tenantSum.congr h.accountsSound accountsSound hreserved tenants
    live := live
    share := h.share.of_job h.jobsSound jobsSound tenants.share only
      (fun m => by simp [inUseOf, hi, het, hef, released_ne_free q.released]) }

/-- An account whose state and badge stand, and that is not FREE. -/
theorem SameHolders.of_setAccount {i : Nat} {a : Account} (hs : (a.state = .free ↔ (s.account i).state = .free))
    (hf : (s.account i).state ≠ .free) (hb : a.badge = (s.account i).badge) : SameHolders s (s.setAccount i a) := by
  refine ⟨fun x => ?_, fun hv x hx => ?_, fun x => ?_⟩
  · rw [State.account_setAccount]; split
    · next e => subst e; exact hs
    · rfl
  · rw [State.account_setAccount] at hx ⊢
    split at hx
    · exact absurd (hs.1 hx) hf
    · next e => rw [if_neg e]; exact hv x hx
  · rw [State.account_setAccount]; split
    · next e => subst e; exact hb
    · rfl

theorem SameHolders.trans {t u : State} (h : SameHolders s t) (h' : SameHolders t u) : SameHolders s u :=
  ⟨fun i => (h'.free i).trans (h.free i), fun hv => h'.freeValues (h.freeValues hv), fun i => (h'.badge i).trans (h.badge i)⟩

theorem released_live {x : JobState} (h : x.released = true) : x.live = true := by
  cases x <;> simp_all [JobState.released, JobState.live]

/-- R51: a job out of its queue is HELD again. -/
theorem Laws.sentBack {g : Finset Nat} {n : Nat} {k : Handle} {j e : Job} (h : Laws (insert k.index g) s)
    (q : InQueue n k s) (hj : j.needs = (s.job k.index).needs) (hs : e.state = .held)
    (ho : e.owner = (s.job k.index).owner) (ht : e.tenant = (s.job k.index).tenant) :
    Laws g ((outOfQueue n k j s).setJob k.index e) := by
  obtain ⟨fau, fjt, fru, fsu, -⟩ := outOfQueue_frame n k j s
  have hc := canonical_setJob (canonical_outOfQueue n k j h.canonical) k.index e
  have accounts : SameAccounts s ((outOfQueue n k j s).setJob k.index e) := .of_accounts (by simp [fau])
  have only : OnlyJob k.index s ((outOfQueue n k j s).setJob k.index e) := fun x hx => by
    rw [State.job_setJob, if_neg hx, job_congr fjt]
  refine h.of_leftQueue q hj (by simp [hs, ho, ht, JobState.released]) hc rfl rfl rfl (by simp [fsu]) (by simp [fru]) (by simp [fau])
    accounts.toSameHolders accounts.reserved
    (h.live.of_job h.jobsSound ((Table.wf_iff_sound _ _).1 hc.2.2.1) accounts.liveJobs only fun o => ?_)
  have held : JobState.held.live = true := rfl
  simp [liveOf, hs, ho, held, released_live q.released]

theorem final_not_live {x : JobState} (h : x.final = true) : x.live = false ∧ x.released = false ∧ x ≠ .free := by
  cases x <;> simp_all [JobState.released, JobState.live, JobState.final]

/-- R50: a job out of its queue ends, and its owner's live jobs are lowered. -/
theorem Laws.ended {g : Finset Nat} {n : Nat} {k : Handle} {j e : Job} (h : Laws (insert k.index g) s)
    (q : InQueue n k s) (hj : j.needs = (s.job k.index).needs) (hs : e.state.final = true)
    (ho : e.owner = (s.job k.index).owner) (ht : e.tenant = (s.job k.index).tenant) :
    Laws g (lowerLive (s.job k.index).owner ((outOfQueue n k j s).setJob k.index e)) := by
  obtain ⟨fau, fjt, fru, fsu, -⟩ := outOfQueue_frame n k j s
  have hc := canonical_setAccount (canonical_setJob (canonical_outOfQueue n k j h.canonical) k.index e)
  obtain ⟨hlive, hrel, hfree⟩ := final_not_live hs
  obtain ⟨-, -, -, -, hjobs⟩ := id h.window
  have owner := (hjobs k.index (released_ne_free q.released)).2.2
  have accounts : SameAccounts s ((outOfQueue n k j s).setJob k.index e) := .of_accounts (by simp [fau])
  have account : ∀ i, ((outOfQueue n k j s).setJob k.index e).account i = s.account i := fun i => by
    simp [account_congr fau]
  have only : OnlyJob k.index s (lowerLive (s.job k.index).owner ((outOfQueue n k j s).setJob k.index e)) := fun x hx => by
    simp [lowerLive, hx, job_congr fjt]
  have holders : SameHolders s (lowerLive (s.job k.index).owner ((outOfQueue n k j s).setJob k.index e)) :=
    accounts.toSameHolders.trans (.of_setAccount Iff.rfl (by rw [account]; exact owner) rfl)
  refine h.of_leftQueue (e := e) q hj ⟨hrel, hfree, ho, ht⟩ (hc _ _) (by simp) (by simp) (by simp) (by simp [fsu])
    (by simp [fru]) (by simp [lowerLive, fau, State.setAccount]) holders (fun i => ?_)
    (h.live.of_endedJob h.jobsSound ((Table.wf_iff_sound _ _).1 (hc _ _).2.2.1) (fun o => ?_) only (released_live q.released) ?_)
  · simp only [lowerLive, State.account_setAccount, account]
    split
    · next e' => rw [e']
    · rfl
  · simp only [lowerLive, State.account_setAccount, account]
    split
    · next e' => rw [e']
    · rfl
  · simpa [lowerLive] using hlive

/-- R95, R54: a job of a queue is restated: a head that starts to print, or a printing head told to stop. -/
theorem Laws.restated {g : Finset Nat} {i : Nat} {x : JobState} (h : Laws g s) (hr : (s.job i).state.released = true)
    (hx : x.released = true) (tail : ∀ n, ∀ k ∈ (s.printer n).queue.tail, k.index ≠ i) :
    Laws g (s.setJob i { s.job i with state := x }) := by
  have hc := canonical_setJob h.canonical i { s.job i with state := x }
  have accountsSound := (Table.wf_iff_sound _ _).1 hc.1
  have jobsSound := (Table.wf_iff_sound _ _).1 hc.2.2.1
  have lanesSound := (Table.wf_iff_sound _ _).1 hc.2.2.2.2.2.2.1
  have only := onlyJob_setJob s i { s.job i with state := x }
  have hi : (s.setJob i { s.job i with state := x }).job i = { s.job i with state := x } := by simp
  have accounts : SameAccounts s (s.setJob i { s.job i with state := x }) := .of_accounts rfl
  have tenants : SameTenants s (s.setJob i { s.job i with state := x }) := .of_tenants rfl
  have printers : SamePrinters s (s.setJob i { s.job i with state := x }) := .of_printers rfl
  exact {
    canonical := hc
    stock := h.stock.congr h.lanesSound lanesSound printers.enrolled (.of_lanes rfl) (.of_types rfl)
    dispatch := h.dispatch.of_restatedJob printers only hr (by rw [hi]; exact hx) (by rw [hi]) (by rw [hi]) tail
    session := h.session.of_unheldJob (.of_sessions rfl) only (released_ne_held hr)
    committed := h.committed.congr (.of_lanes rfl) printers.queue (fun y => by
      rw [State.job_setJob]; split <;> simp [*])
    window := h.window.of_jobs accounts.toSameHolders tenants (fun y hy => by
      rw [State.job_setJob] at hy ⊢
      split
      · next e => subst e; exact ⟨released_ne_free hr, rfl, rfl⟩
      · next e => rw [if_neg e] at hy; exact ⟨hy, rfl, rfl⟩)
    reserved := h.reserved.of_job h.jobsSound jobsSound accounts.reserved only (fun _ _ => Iff.rfl)
      (fun c o => by simp [reservationOf, hi, reservedPages, hx, hr, recordedPages])
    tenantSum := h.tenantSum.congr h.accountsSound accountsSound accounts.reserved tenants
    live := h.live.of_job h.jobsSound jobsSound accounts.liveJobs only
      (fun o => by simp [liveOf, hi, released_live hr, released_live hx])
    share := h.share.of_job h.jobsSound jobsSound tenants.share only
      (fun n => by simp [inUseOf, hi, released_ne_free hr, released_ne_free hx]) }

end

end Sys2Proof.Machine

/-! What the operations of chapters 5 and 8 do to the laws: callouts, conditions, commands and promotions send QUEUED jobs back
and promote heads, and touch no other job, no lane's claim and no session. -/

namespace Sys2Proof.Machine

/-! ### Updates of one record that the laws do not see -/

section
variable {g : Finset Nat} {s : State}

theorem SameJobs.of_setJob {i : Nat} {e : Job} (h1 : e.state = (s.job i).state) (h2 : e.generation = (s.job i).generation)
    (h3 : e.tenant = (s.job i).tenant) (h4 : e.owner = (s.job i).owner) (h5 : e.printer = (s.job i).printer)
    (h6 : e.reservation = (s.job i).reservation) (h7 : e.needs = (s.job i).needs) : SameJobs s (s.setJob i e) := by
  constructor <;> intro x <;> rw [State.job_setJob] <;> split <;> simp_all

theorem SamePrinters.of_setPrinter {n : Nat} {p : Printer} (h1 : p.enrolled = (s.printer n).enrolled)
    (h2 : p.admin = (s.printer n).admin) (h3 : p.queue = (s.printer n).queue) : SamePrinters s (s.setPrinter n p) := by
  constructor <;> intro x <;> rw [State.printer_setPrinter] <;> split <;> simp_all

theorem Laws.setJob_same {i : Nat} {e : Job} (h : Laws g s) (v : SameJobs s (s.setJob i e)) : Laws g (s.setJob i e) :=
  h.congr (canonical_setJob h.canonical i e)
    ⟨v, .of_printers rfl, .of_lanes rfl, .of_lanes rfl, .of_types rfl, .of_sessions rfl, .of_accounts rfl, .of_tenants rfl⟩

theorem Laws.setPrinter_same {n : Nat} {p : Printer} (h : Laws g s) (v : SamePrinters s (s.setPrinter n p)) :
    Laws g (s.setPrinter n p) :=
  h.congr (canonical_setPrinter h.canonical n p)
    ⟨.of_jobs rfl, v, .of_lanes rfl, .of_lanes rfl, .of_types rfl, .of_sessions rfl, .of_accounts rfl, .of_tenants rfl⟩

/-- R88, R89: an admin state that suits the printer's queue. -/
theorem Laws.setAdmin {n : Nat} {a : AdminState} (h : Laws g s) (hq : a = .outOfService → (s.printer n).queue = [])
    (he : (s.printer n).enrolled = false → a = .outOfService) :
    Laws g (s.setPrinter n { s.printer n with admin := a }) := by
  have hc := canonical_setPrinter h.canonical n { s.printer n with admin := a }
  have queue : ∀ m, ((s.setPrinter n { s.printer n with admin := a }).printer m).queue = (s.printer m).queue := fun m => by
    rw [State.printer_setPrinter]; split <;> simp [*]
  have enrolled : ∀ m, ((s.setPrinter n { s.printer n with admin := a }).printer m).enrolled = (s.printer m).enrolled :=
    fun m => by rw [State.printer_setPrinter]; split <;> simp [*]
  have admin : ∀ m, ((s.setPrinter n { s.printer n with admin := a }).printer m).admin =
      if m = n then a else (s.printer m).admin := fun m => by rw [State.printer_setPrinter]; split <;> rfl
  obtain ⟨h1, h2, h3, h4, h5, h6⟩ := h.dispatch
  exact {
    canonical := hc
    stock := h.stock.congr h.lanesSound h.lanesSound enrolled (.of_lanes rfl) (.of_types rfl)
    dispatch := by
      refine ⟨fun m => by rw [queue]; exact h1 m, fun m k hk => h2 m k (by rw [← queue]; exact hk), fun i hi => ?_,
        fun m k hk => h4 m k (by rw [← queue]; exact hk), fun m hm => ?_, fun m hm => ?_⟩
      · obtain ⟨m, hm, hin⟩ := h3 i hi
        exact ⟨m, hm, by rw [queue]; exact hin⟩
      · rw [admin] at hm
        rw [queue]
        split at hm
        · next e => subst e; exact hq hm
        · exact h5 m hm
      · rw [enrolled] at hm
        rw [admin]
        split
        · next e => subst e; exact he hm
        · exact h6 m hm
    session := h.session
    committed := h.committed.congr (.of_lanes rfl) queue (fun _ => rfl)
    window := h.window
    reserved := h.reserved
    tenantSum := h.tenantSum
    live := h.live
    share := h.share }

end

/-! ### A job's return to HELD, and its end, out of its queue -/

/-- A job entry keeps its names. -/
def SameName (j e : Job) : Prop :=
  e.generation = j.generation ∧ e.owner = j.owner ∧ e.tenant = j.tenant ∧ e.printer = j.printer

section
variable {g : Finset Nat} {s : State} {n : Nat} {k : Handle} {j : Job}

/-- R50: an entry that was not HELD enters a final state; no session lists it. -/
theorem enterFinal_unheld (i : Nat) (f : JobState) (r : EndReason) (s : State) (h : (s.job i).state ≠ .held) :
    ∃ l, enterFinal i f r s = raiseTenant (s.job i).tenant .finished
      ((lowerLive (s.job i).owner (s.setJob i { s.job i with
        state := f, endReason := some r, finished := s.now, reservation := none, needs := none })).setFinishedList
        (s.job i).tenant l) := by
  simp only [enterFinal, if_neg h]
  exact ⟨_, rfl⟩

theorem job_enterFinal (i : Nat) (f : JobState) (r : EndReason) (s : State) (x : Nat) :
    (enterFinal i f r s).job x = if x = i then { s.job i with
      state := f, endReason := some r, finished := s.now, reservation := none, needs := none } else s.job x := by
  have list : ∀ (u : State) (n : Nat) (l : List Handle), (u.setFinishedList n l).job x = u.job x := fun _ _ _ => rfl
  simp only [enterFinal]
  rw [job_congr (raiseTenant_frame _ _ _).2.1, list]
  split <;> simp [job_congr (lowerLive_frame _ _).2.1, job_congr (removeFromLists_frame _ _).2.2.1]

/-- R51: the entry is HELD again, or DONE; its names stand, and every other entry. -/
theorem job_returnToHeld (i : Nat) (s : State) :
    OnlyJob i s (returnToHeld i s) ∧ SameName (s.job i) ((returnToHeld i s).job i) ∧
      (((returnToHeld i s).job i).state = .held ∨ ((returnToHeld i s).job i).state = .done) := by
  unfold returnToHeld
  dsimp only
  split
  · simp only [OnlyJob, job_enterFinal]
    exact ⟨fun x hx => by rw [if_neg hx], by simp [SameName], by simp⟩
  · rw [OnlyJob]
    simp only [job_congr (raiseTenant_frame _ _ _).2.1, State.job_setJob]
    exact ⟨fun x hx => by rw [if_neg hx], by simp [SameName], by simp⟩

theorem sessions_enterFinal (i : Nat) (f : JobState) (r : EndReason) (s : State) (h : (s.job i).state ≠ .held) :
    (enterFinal i f r s).ru = s.ru := by
  obtain ⟨l, e⟩ := enterFinal_unheld i f r s h
  rw [e]
  simp

theorem sessions_returnToHeld (i : Nat) (s : State) (h : (s.job i).state ≠ .held) : (returnToHeld i s).ru = s.ru := by
  unfold returnToHeld
  dsimp only
  split
  · exact sessions_enterFinal i _ _ s h
  · simp

/-- R50: a job out of its queue enters a final state. -/
theorem Laws.enterFinal_outOfQueue {f : JobState} (h : Laws (insert k.index g) s) (q : InQueue n k s)
    (hj : j.needs = (s.job k.index).needs) (hf : f.final = true) (r : EndReason) :
    Laws g (enterFinal k.index f r (outOfQueue n k j s)) := by
  have job : (outOfQueue n k j s).job k.index = s.job k.index := job_congr (outOfQueue_frame n k j s).2.1 _
  obtain ⟨l, e⟩ := enterFinal_unheld k.index f r (outOfQueue n k j s) (by rw [job]; exact released_ne_held q.released)
  rw [e, job]
  refine Laws.raiseTenant (Laws.setFinishedList (h.ended q hj ?_ ?_ ?_) _ _) _ _
  exacts [hf, rfl, rfl]

/-- R51: a job out of its queue is sent back. -/
theorem Laws.returnToHeld_outOfQueue (h : Laws (insert k.index g) s) (q : InQueue n k s)
    (hj : j.needs = (s.job k.index).needs) : Laws g (returnToHeld k.index (outOfQueue n k j s)) := by
  have job : (outOfQueue n k j s).job k.index = s.job k.index := job_congr (outOfQueue_frame n k j s).2.1 _
  unfold returnToHeld
  dsimp only
  split
  · exact h.enterFinal_outOfQueue q hj rfl _
  · rw [job]
    refine Laws.raiseTenant (h.sentBack q hj ?_ ?_ ?_) _ _
    all_goals rfl

theorem outOfQueue_setJob (n : Nat) (k : Handle) (j : Job) (s : State) (i : Nat) (e : Job) :
    outOfQueue n k j (s.setJob i e) = (outOfQueue n k j s).setJob i e := by
  unfold outOfQueue returnNeeds
  cases j.needs <;> rfl

/-- R99: a job out of its queue is interrupted. -/
theorem Laws.interruptEntry_outOfQueue (h : Laws (insert k.index g) s) (q : InQueue n k s)
    (hj : j.needs = (s.job k.index).needs) : Laws g (interruptEntry k.index (outOfQueue n k j s)) := by
  have job : (outOfQueue n k j s).job k.index = s.job k.index := job_congr (outOfQueue_frame n k j s).2.1 _
  have h' : Laws (insert k.index g) (s.setJob k.index { s.job k.index with interrupts := (s.job k.index).interrupts + 1 }) :=
    h.setJob_same (.of_setJob rfl rfl rfl rfl rfl rfl rfl)
  have q' : InQueue n k (s.setJob k.index { s.job k.index with interrupts := (s.job k.index).interrupts + 1 }) := by
    obtain ⟨h1, h2, h3⟩ := q
    exact ⟨by simpa using h1, by simpa using h2, by simpa using h3⟩
  unfold interruptEntry
  dsimp only
  rw [job, ← outOfQueue_setJob]
  split
  · exact h'.enterFinal_outOfQueue q' (by simpa using hj) rfl _
  · exact h'.returnToHeld_outOfQueue q' (by simpa using hj)

end

/-! ### What the operations that send jobs back and promote them leave -/

/-- No job but a QUEUED one changes, and it keeps its names and stays in use; no printer is enrolled or taken off; one
OUT_OF_SERVICE stays so; every session stands; no lane comes or goes. -/
structure Still (s t : State) : Prop where
  jobs : ∀ i, (s.job i).state ≠ .queued → t.job i = s.job i
  queued : ∀ i, (s.job i).state = .queued → (t.job i).state ≠ .free
  names : ∀ i, SameName (s.job i) (t.job i)
  enrolled : ∀ n, (t.printer n).enrolled = (s.printer n).enrolled
  outOfService : ∀ n, (s.printer n).admin = .outOfService → (t.printer n).admin = .outOfService
  sessions : t.ru.sessions = s.ru.sessions
  lanes : ∀ n l, (t.lane n l).isSome = (s.lane n l).isSome

/-- As `Still`, and the laws are kept, with any jobs left out that are not QUEUED. -/
structure Gentle (s t : State) : Prop extends Still s t where
  laws : ∀ g : Finset Nat, (∀ i ∈ g, (s.job i).state ≠ .queued) → Laws g s → Laws g t

/-- As `Gentle`, and every lane keeps its type and its claim. -/
structure Calm (s t : State) : Prop extends Gentle s t where
  claims : SameClaims s t

section
variable {s t u : State}

theorem Still.refl (s : State) : Still s s :=
  ⟨fun _ _ => rfl, fun _ h => by simp [h], fun _ => ⟨rfl, rfl, rfl, rfl⟩, fun _ => rfl, fun _ h => h, rfl, fun _ _ => rfl⟩

theorem Still.trans (h : Still s t) (h' : Still t u) : Still s u where
  jobs i hi := by
    have e := h.jobs i hi
    rw [h'.jobs i (by rw [e]; exact hi), e]
  queued i hi := by
    by_cases e : (t.job i).state = .queued
    · exact h'.queued i e
    · rw [h'.jobs i e]
      exact h.queued i hi
  names i := by
    obtain ⟨a1, a2, a3, a4⟩ := h.names i
    obtain ⟨b1, b2, b3, b4⟩ := h'.names i
    exact ⟨b1.trans a1, b2.trans a2, b3.trans a3, b4.trans a4⟩
  enrolled n := (h'.enrolled n).trans (h.enrolled n)
  outOfService n hn := h'.outOfService n (h.outOfService n hn)
  sessions := h'.sessions.trans h.sessions
  lanes n l := (h'.lanes n l).trans (h.lanes n l)

theorem Gentle.refl (s : State) : Gentle s s := ⟨.refl s, fun _ _ h => h⟩

theorem Gentle.trans (h : Gentle s t) (h' : Gentle t u) : Gentle s u :=
  ⟨h.toStill.trans h'.toStill, fun g hg hl =>
    h'.laws g (fun i hi => by rw [h.jobs i (hg i hi)]; exact hg i hi) (h.laws g hg hl)⟩

theorem SameClaims.trans (h : SameClaims s t) (h' : SameClaims t u) : SameClaims s u :=
  fun n l => (h' n l).trans (h n l)

theorem Calm.refl (s : State) : Calm s s := ⟨.refl s, fun _ _ => rfl⟩

theorem Calm.trans (h : Calm s t) (h' : Calm t u) : Calm s u :=
  ⟨h.toGentle.trans h'.toGentle, h.claims.trans h'.claims⟩

/-- A fold of calm steps is calm. -/
theorem Calm.foldl {α : Type} {f : State → α → State} (step : ∀ a x, Calm a (f a x)) (l : List α) (s : State) :
    Calm s (l.foldl f s) :=
  foldl_keeps f Calm .refl (fun _ _ _ => .trans) step l s

theorem Gentle.foldl {α : Type} {f : State → α → State} (step : ∀ a x, Gentle a (f a x)) (l : List α) (s : State) :
    Gentle s (l.foldl f s) :=
  foldl_keeps f Gentle .refl (fun _ _ _ => .trans) step l s

theorem SameClaims.isSome (h : SameClaims s t) (n : Nat) (l : Lane) : (t.lane n l).isSome = (s.lane n l).isSome := by
  rw [← Option.isSome_map (f := LaneRecord.claim), h n l, Option.isSome_map]

/-- An update that the laws do not see, and that leaves the entries and the sessions. -/
theorem Calm.of_view (hc : Canonical s → Canonical t) (v : SameView s t) (hj : ∀ i, t.job i = s.job i)
    (hs : t.ru.sessions = s.ru.sessions) : Calm s t where
  laws _ _ h := h.congr (hc h.canonical) v
  jobs i _ := hj i
  queued i h := by rw [hj, h]; decide
  names i := by rw [hj]; exact ⟨rfl, rfl, rfl, rfl⟩
  enrolled := v.printers.enrolled
  outOfService n h := (v.printers.admin n).trans h
  sessions := hs
  lanes := v.claims.isSome
  claims := v.claims

/-- An update of other tables than the laws read. -/
theorem Calm.of_tables (hc : Canonical s → Canonical t) (hau : t.au = s.au) (hj : t.jt = s.jt)
    (hs : t.ru.sessions = s.ru.sessions) (hp : t.ft.printers = s.ft.printers) (hl : t.se.lanes = s.se.lanes)
    (ht : t.su.types = s.su.types) : Calm s t :=
  .of_view hc (.of_tables hau (by rw [hj]) hs hp hl ht) (job_congr hj) hs

theorem raise_calm (p : PortName) (k : NoticeKind) (s : State) : Calm s (raise p k s) :=
  .of_tables (by simp [Canonical]) (by simp) (by simp) (by simp) (by simp) (by simp) (by simp)

theorem raiseTenant_calm (n : Nat) (k : NoticeKind) (s : State) : Calm s (raiseTenant n k s) := raise_calm _ _ s

theorem setPrinter_calm {n : Nat} {p : Printer} (v : SamePrinters s (s.setPrinter n p)) : Calm s (s.setPrinter n p) :=
  .of_view (fun h => canonical_setPrinter h n p)
    ⟨.of_jobs rfl, v, .of_lanes rfl, .of_lanes rfl, .of_types rfl, .of_sessions rfl, .of_accounts rfl, .of_tenants rfl⟩
    (fun _ => rfl) rfl

theorem setGrace_calm (n : Nat) (k : ConditionKind) (x : Grace) (s : State) : Calm s (s.setGrace n k x) :=
  .of_tables (fun h => by
    obtain ⟨h1, h2, h3, h4, h5, h6, h7, h8, h9, h10⟩ := h
    exact ⟨h1, h2, h3, h4, h5, h6, h7, h8, Table.wf_set _ _ _ _ h9, h10⟩) rfl rfl rfl rfl rfl rfl

theorem setHistory_calm (n : Nat) (k : KindSet) (s : State) : Calm s (s.setHistory n k) :=
  .of_tables (fun h => by
    obtain ⟨h1, h2, h3, h4, h5, h6, h7, h8, h9, h10, h11⟩ := h
    exact ⟨h1, h2, h3, h4, h5, h6, h7, h8, h9, Table.wf_set _ _ _ _ h10, h11⟩) rfl rfl rfl rfl rfl rfl

theorem setCommands_calm (n : Nat) (l : List Command) (s : State) : Calm s (s.setCommands n l) :=
  .of_tables (fun h => by
    obtain ⟨h1, h2, h3, h4, h5, h6, h7, h8, h9, h10, h11, h12⟩ := h
    exact ⟨h1, h2, h3, h4, h5, h6, h7, h8, h9, h10, Table.wf_set _ _ _ _ h11, h12⟩) rfl rfl rfl rfl rfl rfl

theorem setStray_calm (n : Nat) (x : Option Stray) (s : State) : Calm s (s.setStray n x) :=
  .of_tables (fun h => by
    obtain ⟨h1, h2, h3, h4, h5, h6, h7, h8, h9, h10, h11, h12⟩ := h
    exact ⟨h1, h2, h3, h4, h5, h6, h7, h8, h9, h10, h11, Table.wf_set _ _ _ _ h12⟩) rfl rfl rfl rfl rfl rfl

theorem setCallouts_calm (l : List Callout) (s : State) : Calm s (s.setCallouts l) :=
  .of_tables id rfl rfl rfl rfl rfl rfl

theorem setDeferrals_calm (l : List Deferral) (s : State) : Calm s (s.setDeferrals l) :=
  .of_tables id rfl rfl rfl rfl rfl rfl

/-! ### Sending QUEUED jobs back (R102) -/

/-- R89. -/
theorem drainingTest_calm (n : Nat) (s : State) : Calm s (drainingTest n s) := by
  unfold drainingTest
  dsimp only
  split
  · next c =>
    obtain ⟨ha, hq⟩ := c
    have moved : Calm s (s.setPrinter n { s.printer n with admin := .outOfService }) := {
      laws := fun g _ h => h.setAdmin (fun _ => hq) (fun _ => rfl)
      jobs := fun _ _ => rfl
      queued := fun i h => by simp [h]
      names := fun _ => ⟨rfl, rfl, rfl, rfl⟩
      enrolled := fun m => by rw [State.printer_setPrinter]; split <;> simp [*]
      outOfService := fun m hm => by rw [State.printer_setPrinter]; split <;> simp [*]
      sessions := rfl
      lanes := fun _ _ => rfl
      claims := fun _ _ => rfl }
    exact moved.trans (raise_calm _ _ _)
  · exact .refl s

theorem requeueJob_eq (n : Nat) (k : Handle) (s : State) :
    requeueJob n k s = returnToHeld k.index (outOfQueue n k (s.job k.index) (returnReservation (s.job k.index) s)) := rfl

/-- R102: a QUEUED job is sent back. -/
theorem Laws.requeueJob {g : Finset Nat} {n : Nat} {k : Handle} {s : State} (h : Laws g s)
    (hgn : ∀ i ∈ g, (s.job i).state ≠ .queued) (hs : (s.job k.index).state = .queued)
    (hg : (s.job k.index).generation = k.generation) (hp : (s.job k.index).printer = some n) :
    Laws g (requeueJob n k s) := by
  have released : (s.job k.index).state.released = true := by rw [hs]; rfl
  have paid := returnReservation_adjusted (s.job k.index) s
  have out := h.of_returned released (fun hin => hgn _ hin hs) paid
  have q : InQueue n k (returnReservation (s.job k.index) s) := by
    constructor <;> rw [job_congr paid.jt] <;> assumption
  exact out.returnToHeld_outOfQueue q (by rw [job_congr paid.jt])

theorem requeueJob_still {n : Nat} {k : Handle} {s : State} (hs : (s.job k.index).state = .queued) :
    Still s (requeueJob n k s) ∧ SameClaims s (requeueJob n k s) := by
  obtain ⟨fau, fjt, fru, fsu, -, fprinter, flane⟩ := outOfQueue_frame n k (s.job k.index) (returnReservation (s.job k.index) s)
  have paid := returnReservation_adjusted (s.job k.index) s
  have job : ∀ x, (outOfQueue n k (s.job k.index) (returnReservation (s.job k.index) s)).job x = s.job x := fun x => by
    rw [job_congr fjt, job_congr paid.jt]
  obtain ⟨only, name, state⟩ :=
    job_returnToHeld k.index (outOfQueue n k (s.job k.index) (returnReservation (s.job k.index) s))
  have hft : (requeueJob n k s).ft = (outOfQueue n k (s.job k.index) (returnReservation (s.job k.index) s)).ft := by
    rw [requeueJob_eq]; simp
  have hse : (requeueJob n k s).se = (outOfQueue n k (s.job k.index) (returnReservation (s.job k.index) s)).se := by
    rw [requeueJob_eq]; simp
  rw [job] at name
  have claims : SameClaims s (requeueJob n k s) := by
    intro m l
    rw [lane_congr hse, flane, lane_congr paid.se, Option.map_map]
    congr 1
    funext x
    simp only [Function.comp]
    split <;> rfl
  refine ⟨{ jobs := fun i hi => ?_, queued := fun i hi => ?_, names := fun i => ?_, enrolled := fun m => ?_,
            outOfService := fun m hm => ?_, sessions := ?_, lanes := claims.isSome }, claims⟩
  · have hik : i ≠ k.index := by rintro rfl; exact hi hs
    rw [requeueJob_eq, only i hik, job]
  · by_cases e : i = k.index
    · subst e
      rw [requeueJob_eq]
      rcases state with e | e <;> rw [e] <;> decide
    · rw [requeueJob_eq, only i e, job, hi]
      decide
  · by_cases e : i = k.index
    · subst e; exact name
    · rw [requeueJob_eq, only i e, job]
      exact ⟨rfl, rfl, rfl, rfl⟩
  · rw [printer_congr hft, fprinter, printer_congr paid.ft]
    split <;> simp [*, printer_congr paid.ft]
  · rw [printer_congr hft, fprinter, printer_congr paid.ft]
    split <;> simp_all [printer_congr paid.ft]
  · rw [requeueJob_eq, sessions_returnToHeld _ _ (by rw [job, hs]; decide), fru, paid.ru]

/-- One step of sending a queue's jobs back. -/
def requeueStep (n : Nat) (which : Job → Bool) (s : State) (k : Handle) : State :=
  if (s.job k.index).state = .queued ∧ which (s.job k.index) then requeueJob n k s else s

theorem requeueJobs_eq (n : Nat) (which : Job → Bool) (s : State) :
    requeueJobs n which s = (s.printer n).queue.foldl (requeueStep n which) s := rfl

theorem requeueStep_still (n : Nat) (which : Job → Bool) (s : State) (k : Handle) :
    Still s (requeueStep n which s k) ∧ SameClaims s (requeueStep n which s k) := by
  unfold requeueStep
  split
  · next c => exact requeueJob_still c.1
  · exact ⟨.refl s, fun _ _ => rfl⟩

theorem Laws.requeueFold {g : Finset Nat} (n : Nat) (which : Job → Bool) (l : List Handle) (s : State) (h : Laws g s)
    (hg : ∀ i ∈ g, (s.job i).state ≠ .queued)
    (named : ∀ k ∈ l, (s.job k.index).generation = k.generation ∧ (s.job k.index).printer = some n) :
    Laws g (l.foldl (requeueStep n which) s) := by
  induction l generalizing s with
  | nil => exact h
  | cons k l ih =>
    have still := (requeueStep_still n which s k).1
    refine ih _ ?_ (fun i hi => ?_) (fun k' hk' => ?_)
    · unfold requeueStep
      split
      · next c => exact h.requeueJob hg c.1 (named k (by simp)).1 (named k (by simp)).2
      · exact h
    · rw [still.jobs i (hg i hi)]
      exact hg i hi
    · obtain ⟨e1, -, -, e2⟩ := still.names k'.index
      rw [e1, e2]
      exact named k' (by simp [hk'])

/-- R102, R103: the QUEUED jobs of a printer that meet a test are sent back. -/
theorem requeueJobs_calm (n : Nat) (which : Job → Bool) (s : State) : Calm s (requeueJobs n which s) := by
  rw [requeueJobs_eq]
  obtain ⟨still, claims⟩ := foldl_keeps (requeueStep n which) (fun s t => Still s t ∧ SameClaims s t)
    (fun s => ⟨.refl s, fun _ _ => rfl⟩) (fun _ _ _ h h' => ⟨h.1.trans h'.1, h.2.trans h'.2⟩)
    (requeueStep_still n which) (s.printer n).queue s
  refine ⟨⟨still, fun g hg h => h.requeueFold n which _ s hg fun k hk => ?_⟩, claims⟩
  have q := InQueue.of_mem h.dispatch hk
  exact ⟨q.generation, q.printer⟩

end

end Sys2Proof.Machine

/-! Callouts, conditions, commands and promotions are calm. -/

namespace Sys2Proof.Machine

/-! ### Callouts (R139 to R151) -/

theorem serviceRequeue_calm (n : Nat) (s : State) : Calm s (serviceRequeue n s) :=
  (requeueJobs_calm n _ s).trans (drainingTest_calm n _)

theorem announceCallout_calm (n : Nat) (k : CalloutKind) (s : State) : Calm s (announceCallout n k s) := by
  cases k with
  | service => exact (raise_calm _ _ s).trans (serviceRequeue_calm n _)
  | supply => exact raise_calm _ _ s

theorem makeCallout_calm (n : Nat) (k : CalloutKind) (items : List CalloutItem) (s : State) :
    Calm s (makeCallout n k items s) := by
  unfold makeCallout
  dsimp only
  refine Calm.trans ?_ (announceCallout_calm n k _)
  exact .of_tables id rfl rfl rfl rfl rfl rfl

theorem extendCallout_calm (n : Nat) (k : CalloutKind) (items : List CalloutItem) (s : State) :
    Calm s (extendCallout n k items s) :=
  (setCallouts_calm _ s).trans (announceCallout_calm n k _)

theorem deferRaise_calm (n : Nat) (k : CalloutKind) (items : List CalloutItem) (s : State) :
    Calm s (deferRaise n k items s) := by
  unfold deferRaise
  split
  · exact setDeferrals_calm _ s
  · exact setDeferrals_calm _ s

theorem raiseItems_calm (n : Nat) (k : CalloutKind) (items : List CalloutItem) (s : State) :
    Calm s (raiseItems n k items s) := by
  unfold raiseItems
  split
  · dsimp only
    split
    · exact .refl s
    · exact extendCallout_calm n k _ s
  · split
    · exact .refl s
    · split
      · exact makeCallout_calm n k items s
      · exact deferRaise_calm n k items s

theorem serviceRaise_calm (n : Nat) (kinds : List ConditionKind) (s : State) : Calm s (serviceRaise n kinds s) := by
  unfold serviceRaise
  split
  · exact .refl s
  · exact raiseItems_calm n _ _ s

theorem supplyRaise_calm (n : Nat) (l : Lane) (s : State) : Calm s (supplyRaise n l s) := raiseItems_calm n _ _ s

theorem serveDeferral_calm (d : Deferral) (s : State) : Calm s (serveDeferral d s) := by
  unfold serveDeferral
  dsimp only
  split
  · exact setDeferrals_calm _ s
  · exact (setDeferrals_calm _ s).trans (makeCallout_calm _ _ _ _)

theorem serveDeferrals_calm (s : State) : Calm s (serveDeferrals s) := by
  unfold serveDeferrals
  refine Calm.foldl (fun a d => ?_) _ s
  split
  · exact serveDeferral_calm d a
  · exact .refl a

theorem dropDeferredItem_calm (n : Nat) (k : CalloutKind) (item : CalloutItem) (s : State) :
    Calm s (dropDeferredItem n k item s) := setDeferrals_calm _ s

theorem dropCalloutItem_calm (n : Nat) (k : CalloutKind) (item : CalloutItem) (s : State) :
    Calm s (dropCalloutItem n k item s) := by
  unfold dropCalloutItem
  split
  · exact .refl s
  · split
    · split
      · exact (setCallouts_calm _ s).trans (serveDeferrals_calm _)
      · exact setCallouts_calm _ s
    · exact .refl s

theorem dropItem_calm (n : Nat) (k : CalloutKind) (item : CalloutItem) (s : State) : Calm s (dropItem n k item s) :=
  (dropCalloutItem_calm n k item s).trans (dropDeferredItem_calm n k item _)

/-! ### Conditions and commands (R93, R143, R144, R159, R160) -/

theorem tellOnset_calm (n : Nat) (k : ConditionKind) (s : State) : Calm s (tellOnset n k s) := by
  unfold tellOnset
  dsimp only
  refine (setHistory_calm n (s.history n ||| k.only) s).trans ?_
  split
  · exact .refl _
  · split
    · exact setGrace_calm _ _ _ _
    · exact (setGrace_calm _ _ _ _).trans (serviceRaise_calm n _ _)

theorem addCondition_calm (n : Nat) (k : ConditionKind) (s : State) : Calm s (addCondition n k s) := by
  unfold addCondition
  dsimp only
  split
  · exact .refl s
  · refine Calm.trans ?_ (tellOnset_calm n k _)
    exact setPrinter_calm (.of_setPrinter rfl rfl rfl)

theorem tellCleared_calm (n : Nat) (k : ConditionKind) (s : State) : Calm s (tellCleared n k s) := by
  unfold tellCleared
  split
  · exact .refl s
  · exact (setGrace_calm _ _ _ _).trans (dropItem_calm _ _ _ _)

theorem silenceRunOut_calm (n : Nat) (s : State) : Calm s (silenceRunOut n s) := by
  unfold silenceRunOut
  refine Calm.trans ?_ (addCondition_calm n _ _)
  exact setPrinter_calm (.of_setPrinter rfl rfl rfl)

theorem issue_calm (n : Nat) (c : Command) (s : State) : Calm s (issue n c s) := by
  unfold issue
  dsimp only
  split
  · exact setCommands_calm _ _ s
  · refine Calm.trans (silenceRunOut_calm n s) ?_
    exact setCommands_calm n _ _

/-! ### Promotion (R95) -/

/-- The head of a queue, QUEUED, becomes ACTIVE. -/
theorem headActive_calm {n : Nat} {k : Handle} {rest : List Handle} {s : State} (hq : (s.printer n).queue = k :: rest)
    (hs : (s.job k.index).state = .queued) : Calm s (s.setJob k.index { s.job k.index with state := .active }) := by
  have released : (s.job k.index).state.released = true := by rw [hs]; rfl
  have job : ∀ i, i ≠ k.index → (s.setJob k.index { s.job k.index with state := .active }).job i = s.job i := fun i hi => by
    rw [State.job_setJob, if_neg hi]
  have changed : (s.setJob k.index { s.job k.index with state := .active }).job k.index =
      { s.job k.index with state := .active } := by simp
  exact {
    jobs := fun i hi => job i (by rintro rfl; exact hi hs)
    queued := fun i hi => by
      by_cases e : i = k.index
      · subst e; rw [changed]; simp
      · rw [job i e, hi]; decide
    names := fun i => by
      by_cases e : i = k.index
      · subst e; rw [changed]; exact ⟨rfl, rfl, rfl, rfl⟩
      · rw [job i e]; exact ⟨rfl, rfl, rfl, rfl⟩
    enrolled := fun _ => rfl
    outOfService := fun _ h => h
    sessions := rfl
    lanes := fun _ _ => rfl
    laws := fun g _ h => h.restated released rfl fun m k' hk' => h.dispatch.head_not_tail hq hk'
    claims := fun _ _ => rfl }

theorem promotionCheck_calm (n : Nat) (s : State) : Calm s (promotionCheck n s) := by
  unfold promotionCheck
  split
  · exact .refl s
  · next k rest hq =>
    split
    · next may =>
      have hs : (s.job k.index).state = .queued := by
        simp only [mayPromote, Bool.and_eq_true, beq_iff_eq] at may
        exact may.1.1.1.1
      unfold promote
      dsimp only
      refine Calm.trans ?_ (raiseTenant_calm _ _ _)
      refine Calm.trans ?_ (issue_calm n _ _)
      refine (headActive_calm hq hs).trans (setPrinter_calm ?_)
      exact .of_setPrinter rfl rfl rfl
    · exact .refl s

theorem removeCondition_calm (n : Nat) (k : ConditionKind) (s : State) : Calm s (removeCondition n k s) := by
  unfold removeCondition
  dsimp only
  split
  · have told : Calm s (tellCleared n k
        (s.setPrinter n { s.printer n with conditions := Table.set none (s.printer n).conditions k.code none })) := by
      refine Calm.trans ?_ (tellCleared_calm n k _)
      exact setPrinter_calm (.of_setPrinter rfl rfl rfl)
    split
    · exact told.trans (promotionCheck_calm n _)
    · exact told
  · exact .refl s

theorem setSupplyOut_calm (n : Nat) (l : Lane) (out : Bool) (s : State) : Calm s (setSupplyOut n l out s) := by
  unfold setSupplyOut
  dsimp only
  refine Calm.trans ?_ (promotionCheck_calm n _)
  have marked : Calm s (s.setPrinter n { s.printer n with supplyOut := withLane (s.printer n).supplyOut l out }) :=
    setPrinter_calm (.of_setPrinter rfl rfl rfl)
  split
  · exact marked.trans (removeCondition_calm n _ _)
  · exact marked.trans (addCondition_calm n _ _)

theorem detachRequeue_calm (tenant : Nat) (s : State) : Calm s (detachRequeue tenant s) := by
  unfold detachRequeue
  exact Calm.foldl (fun a n => ((requeueJobs_calm n _ a).trans (promotionCheck_calm n _)).trans (drainingTest_calm n _)) _ s

theorem afterEnd_calm (n : Nat) (s : State) : Calm s (afterEnd n s) :=
  (promotionCheck_calm n s).trans (drainingTest_calm n _)

theorem protocolError_calm (n : Nat) (k : ReportKind) (grant : Nat) (s : State) : Calm s (protocolError n k grant s) := by
  unfold protocolError
  refine Calm.trans ?_ (raise_calm _ _ _)
  exact setPrinter_calm (.of_setPrinter rfl rfl rfl)

theorem stopStall_calm (n : Nat) (s : State) : Calm s (stopStall n s) := by
  unfold stopStall
  exact setPrinter_calm (.of_setPrinter rfl rfl rfl)

theorem recordStalled_calm (n : Nat) (k : Handle) (s : State) : Calm s (recordStalled n k s) := by
  unfold recordStalled
  exact setPrinter_calm (.of_setPrinter rfl rfl rfl)

theorem heard_calm (n : Nat) (s : State) : Calm s (heard n s) := by
  unfold heard
  refine Calm.trans ?_ (removeCondition_calm n _ _)
  exact setPrinter_calm (.of_setPrinter rfl rfl rfl)

theorem strayReport_calm (a : Nat) (k : ReportKind) (s : State) : Calm s (strayReport a k s) :=
  (setStray_calm _ _ s).trans (raise_calm _ _ _)

theorem compareCapabilities_calm (n : Nat) (s : State) : Calm s (compareCapabilities n s) := by
  unfold compareCapabilities
  dsimp only
  split
  · exact removeCondition_calm n _ s
  · exact addCondition_calm n _ s

end Sys2Proof.Machine

/-! The stock: what a change of one lane's claim and of its type's figures does to R129, and the Stock Unit's operations. -/

namespace Sys2Proof.Machine

/-! ### One lane's claim -/

/-- Every lane but l of printer n stands. -/
def OnlyLane (n : Nat) (l : Lane) (s t : State) : Prop := ∀ m l', ¬(m = n ∧ l' = l) → t.lane m l' = s.lane m l'

section
variable {s t : State} {n : Nat} {l : Lane} {x y : LaneRecord} {u : Nat}

theorem lanesSound_of_canonical (h : Canonical s) : Table.Sound none s.se.lanes :=
  (Table.wf_iff_sound _ _).1 h.2.2.2.2.2.2.1

theorem allocatedTotal_differ (hs : Canonical s) (ht : Canonical t) (ho : OnlyLane n l s t) (u : Nat) :
    Table.total (allocatedOf u) t.se.lanes + allocatedOf u 0 (s.lane n l) =
      Table.total (allocatedOf u) s.se.lanes + allocatedOf u 0 (t.lane n l) := by
  refine Table.total_differ none (4 * n + l.code) (allocatedOf u) (allocatedOf u) _ _ (lanesSound_of_canonical hs)
    (lanesSound_of_canonical ht) (fun _ => rfl) (fun _ => rfl) fun k hk => ?_
  obtain ⟨m, l', rfl⟩ := laneNumber_surjective k
  exact congrArg (allocatedOf u 0) (ho m l' (by rintro ⟨rfl, rfl⟩; exact hk rfl))

/-- A lane that holds an allocation is counted. -/
theorem StockLaw.allocated_pos (h : StockLaw s) (hs : Canonical s) (hx : s.lane n l = some x)
    (ha : x.allocation = true) : 0 < (s.ctype x.type).allocated := by
  have le := Table.le_total none (allocatedOf x.type) s.se.lanes (lanesSound_of_canonical hs) (fun _ => rfl) (4 * n + l.code)
  rw [← State.lane, hx, ← allocatedLanes_length, ← (h.1 x.type).2.2] at le
  exact Nat.lt_of_lt_of_le Nat.zero_lt_one (by simpa [allocatedOf, ha] using le)

/-- A lane that does not wait stands in no wait list. -/
theorem StockLaw.not_listed (h : StockLaw s) (hx : s.lane n l = some x) (hw : x.waiting = false) (u : Nat) :
    (⟨n, l⟩ : LaneName) ∉ (s.ctype u).waitList := by
  intro hin
  obtain ⟨x', hx', -, hw'⟩ := (h.2.2.2.1 u _).1 hin
  rw [hx] at hx'
  cases hx'
  simp [hw] at hw'

/-- R129 after a change of one lane and of the types' figures. -/
theorem StockLaw.of_lane (h : StockLaw s) (hs : Canonical s) (ht : Canonical t) (ho : OnlyLane n l s t)
    (room : ∀ u, (t.ctype u).allocated ≤ (t.ctype u).onHand ∧ (t.ctype u).onHand ≤ 999)
    (counted : ∀ u, (t.ctype u).allocated + allocatedOf u 0 (s.lane n l) =
      (s.ctype u).allocated + allocatedOf u 0 (t.lane n l))
    (one : ∀ y, t.lane n l = some y → ¬(y.allocation = true ∧ y.waiting = true))
    (nodup : ∀ u, (t.ctype u).waitList.Nodup)
    (waits : ∀ u w, w ∈ (t.ctype u).waitList ↔ (w ≠ ⟨n, l⟩ ∧ w ∈ (s.ctype u).waitList) ∨
      (w = ⟨n, l⟩ ∧ ∃ y, t.lane n l = some y ∧ y.type = u ∧ y.waiting = true))
    (enrolled : ∀ m l', (t.printer m).enrolled = false → t.lane m l' = none) : StockLaw t := by
  obtain ⟨h1, h2, h3, h4, h5⟩ := h
  refine ⟨fun u => ⟨(room u).1, (room u).2, ?_⟩, fun m l' y hy => ?_, nodup, fun u w => ?_, enrolled⟩
  · have differ := allocatedTotal_differ hs ht ho u
    have := counted u
    have := (h1 u).2.2
    rw [← allocatedLanes_length, ← allocatedLanes_length] at differ
    omega
  · by_cases e : m = n ∧ l' = l
    · obtain ⟨rfl, rfl⟩ := e
      exact one y hy
    · rw [ho m l' e] at hy
      exact h2 m l' y hy
  · rw [waits, h4]
    by_cases e : w = ⟨n, l⟩
    · subst e; simp
    · have off : ¬(w.printer = n ∧ w.lane = l) := by
        rintro ⟨rfl, rfl⟩
        exact e rfl
      rw [ho _ _ off]
      simp [e]

/-- A claim of one lane moved: its type's record and its own are replaced, its type kept. -/
def moveClaim (n : Nat) (l : Lane) (r : CartridgeType) (y : LaneRecord) (s : State) : State :=
  (s.setType y.type r).setLane n l (some y)

theorem canonical_moveClaim {r : CartridgeType} (h : Canonical s) : Canonical (moveClaim n l r y s) :=
  canonical_setLane (canonical_setType h _ _) _ _ _

theorem lane_moveClaim {r : CartridgeType} (m : Nat) (l' : Lane) :
    (moveClaim n l r y s).lane m l' = if m = n ∧ l' = l then some y else s.lane m l' := by
  rw [moveClaim, State.lane_setLane]
  rfl

theorem ctype_moveClaim {r : CartridgeType} (u : Nat) :
    (moveClaim n l r y s).ctype u = if u = y.type then r else s.ctype u := by
  rw [← State.ctype_setType]
  rfl

/-- R126 to R129: a claim moved within its type keeps the stock law where the figures and the wait list follow it. -/
theorem StockLaw.moveClaim {r : CartridgeType} (h : StockLaw s) (hs : Canonical s) (hx : s.lane n l = some x)
    (type : y.type = x.type) (room : r.allocated ≤ r.onHand ∧ r.onHand ≤ (s.ctype y.type).onHand)
    (counted : r.allocated + x.allocation.toNat = (s.ctype y.type).allocated + y.allocation.toNat)
    (one : ¬(y.allocation = true ∧ y.waiting = true)) (nodup : r.waitList.Nodup)
    (waits : ∀ w, w ∈ r.waitList ↔ (w ≠ ⟨n, l⟩ ∧ w ∈ (s.ctype y.type).waitList) ∨ (w = ⟨n, l⟩ ∧ y.waiting = true)) :
    StockLaw (moveClaim n l r y s) := by
  have own : (Machine.moveClaim n l r y s).lane n l = some y := by simp [lane_moveClaim]
  have figure : ∀ (z : LaneRecord) (u : Nat), allocatedOf u 0 (some z) = if u = z.type then z.allocation.toNat else 0 := by
    intro z u
    by_cases e : u = z.type
    · cases ha : z.allocation <;> simp [allocatedOf, e, ha]
    · have e' : z.type ≠ u := fun h => e h.symm
      simp [allocatedOf, e, e']
  refine h.of_lane (n := n) (l := l) hs (canonical_moveClaim hs) (fun m l' e => by rw [lane_moveClaim, if_neg e])
    (fun u => ?_) (fun u => ?_) (fun z hz => ?_) (fun u => ?_) (fun u w => ?_) (fun m l' hm => ?_)
  · rw [ctype_moveClaim]
    split
    · exact ⟨room.1, room.2.trans (h.1 _).2.1⟩
    · exact ⟨(h.1 u).1, (h.1 u).2.1⟩
  · rw [ctype_moveClaim, own, hx, figure, figure, type]
    split
    · next e => rw [e, ← type]; exact counted
    · rfl
  · rw [own] at hz
    cases hz
    exact one
  · rw [ctype_moveClaim]
    split
    · exact nodup
    · exact h.2.2.1 u
  · rw [ctype_moveClaim, own]
    simp only [Option.some.injEq, exists_eq_left']
    by_cases e : u = y.type
    · subst e
      simp [waits]
    · have e' : y.type ≠ u := fun h => e h.symm
      have off : w ∈ (s.ctype u).waitList → w ≠ ⟨n, l⟩ := by
        rintro hin rfl
        obtain ⟨x', hx', ht, -⟩ := (h.2.2.2.1 u _).1 hin
        rw [hx] at hx'
        cases hx'
        exact e (ht.symm.trans type.symm)
      simp only [e, e', if_false, false_and, and_false, or_false]
      exact ⟨fun hin => ⟨off hin, hin⟩, fun hin => hin.2⟩
  · have gone := h.2.2.2.2 m l' hm
    rw [lane_moveClaim]
    split
    · next e =>
      obtain ⟨rfl, rfl⟩ := e
      simp [hx] at gone
    · exact gone

/-! ### Operations that touch the stock alone are gentle -/

theorem Still.of_stock (hjt : t.jt = s.jt) (hru : t.ru.sessions = s.ru.sessions) (hp : SamePrinters s t)
    (hl : ∀ n l, (t.lane n l).isSome = (s.lane n l).isSome) : Still s t where
  jobs i _ := job_congr hjt i
  queued i h := by rw [job_congr hjt, h]; decide
  names i := by rw [job_congr hjt]; exact ⟨rfl, rfl, rfl, rfl⟩
  enrolled := hp.enrolled
  outOfService n h := (hp.admin n).trans h
  sessions := hru
  lanes := hl

theorem SameCommitted.isSome (h : SameCommitted s t) (n : Nat) (l : Lane) : (t.lane n l).isSome = (s.lane n l).isSome := by
  rw [← Option.isSome_map (f := LaneRecord.committed), h n l, Option.isSome_map]

/-- The laws hold where the stock law does and the rest of what they read is the same. -/
theorem Laws.of_stock {g : Finset Nat} (h : Laws g s) (hc : Canonical t) (hau : t.au = s.au) (hjt : t.jt = s.jt)
    (hru : t.ru.sessions = s.ru.sessions) (hp : SamePrinters s t) (hm : SameCommitted s t) (stock : StockLaw t) :
    Laws g t := by
  have jobs : SameJobs s t := .of_jobs (by rw [hjt])
  exact h.of_parts hc jobs hp (.of_accounts (by rw [hau])) (.of_tenants (by rw [hau])) stock
    (h.session.congr (.of_sessions hru) jobs) (h.committed.congr hm hp.queue jobs.needs)

theorem Gentle.of_stock (hc : Canonical s → Canonical t) (hau : t.au = s.au) (hjt : t.jt = s.jt)
    (hru : t.ru.sessions = s.ru.sessions) (hp : SamePrinters s t) (hm : SameCommitted s t)
    (stock : Canonical s → StockLaw s → StockLaw t) : Gentle s t :=
  ⟨.of_stock hjt hru hp hm.isSome, fun _ _ h =>
    h.of_stock (hc h.canonical) hau hjt hru hp hm (stock h.canonical h.stock)⟩

theorem sameCommitted_setLane {z : Option LaneRecord} (h : z.map LaneRecord.committed = (s.lane n l).map LaneRecord.committed) :
    SameCommitted s (s.setLane n l z) := by
  intro m l'
  rw [State.lane_setLane]
  split
  · next e => rw [e.1, e.2]; exact h
  · rfl

theorem moveClaim_gentle {r : CartridgeType} (hx : s.lane n l = some x) (hm : y.committed = x.committed)
    (stock : Canonical s → StockLaw s → StockLaw (moveClaim n l r y s)) : Gentle s (moveClaim n l r y s) :=
  .of_stock canonical_moveClaim rfl rfl rfl (.of_printers rfl)
    (sameCommitted_setLane (s := s.setType y.type r) (by simp [hx, hm])) stock

theorem setLane_calm {z : Option LaneRecord} (hz : z.map LaneRecord.claim = (s.lane n l).map LaneRecord.claim)
    (hm : z.map LaneRecord.committed = (s.lane n l).map LaneRecord.committed) : Calm s (s.setLane n l z) :=
  .of_view (fun h => canonical_setLane h n l z)
    ⟨.of_jobs rfl, .of_printers rfl, fun m l' => by
      rw [State.lane_setLane]
      split
      · next e => rw [e.1, e.2]; exact hz
      · rfl, sameCommitted_setLane hm, .of_types rfl, .of_sessions rfl, .of_accounts rfl, .of_tenants rfl⟩
    (fun _ => rfl) rfl

/-- A lane's record changed in nothing that the laws read. -/
theorem setLane_some_calm (hx : s.lane n l = some x) (hc : y.claim = x.claim) (hm : y.committed = x.committed) :
    Calm s (s.setLane n l (some y)) :=
  setLane_calm (by simp [hx, hc]) (by simp [hx, hm])

theorem setType_calm {r : CartridgeType} (h1 : r.onHand = (s.ctype u).onHand) (h2 : r.allocated = (s.ctype u).allocated)
    (h3 : r.waitList = (s.ctype u).waitList) : Calm s (s.setType u r) :=
  .of_view (fun h => canonical_setType h u r)
    ⟨.of_jobs rfl, .of_printers rfl, .of_lanes rfl, .of_lanes rfl,
      by constructor <;> intro v <;> rw [State.ctype_setType] <;> split <;> simp [*],
      .of_sessions rfl, .of_accounts rfl, .of_tenants rfl⟩
    (fun _ => rfl) rfl

/-- Stock counted up or down to a figure that covers what is allocated (R129). -/
theorem setOnHand_gentle (u : Nat) (x : Nat) {r : CartridgeType} (hx : (s.ctype u).allocated ≤ x ∧ x ≤ 999) (h1 : r.onHand = x)
    (h2 : r.allocated = (s.ctype u).allocated) (h3 : r.waitList = (s.ctype u).waitList) : Gentle s (s.setType u r) := by
  refine .of_stock (fun h => canonical_setType h u r) rfl rfl rfl (.of_printers rfl) (.of_lanes rfl) fun _ h => ?_
  obtain ⟨a1, a2, a3, a4, a5⟩ := h
  have allocated : ∀ v, ((s.setType u r).ctype v).allocated = (s.ctype v).allocated := fun v => by
    rw [State.ctype_setType]; split <;> simp [*]
  have waitList : ∀ v, ((s.setType u r).ctype v).waitList = (s.ctype v).waitList := fun v => by
    rw [State.ctype_setType]; split <;> simp [*]
  refine ⟨fun v => ?_, a2, fun v => by rw [waitList]; exact a3 v, fun v w => by rw [waitList]; exact a4 v w, a5⟩
  rw [allocated]
  refine ⟨?_, ?_, (a1 v).2.2⟩
  · rw [State.ctype_setType]; split
    · next e => rw [e, h1]; exact hx.1
    · exact (a1 v).1
  · rw [State.ctype_setType]; split
    · rw [h1]; exact hx.2
    · exact (a1 v).2.1

/-! ### Orders (R130 to R132) -/

theorem setOrders_calm (q : List Order) (s : State) : Calm s (s.setOrders q) :=
  .of_tables id rfl rfl rfl rfl rfl rfl

theorem setDeferredTypes_calm (q : List Nat) (s : State) : Calm s (s.setDeferredTypes q) :=
  .of_tables id rfl rfl rfl rfl rfl rfl

theorem raiseOrder_calm (u : Nat) (s : State) : Calm s (raiseOrder u s) := by
  unfold raiseOrder
  dsimp only
  refine Calm.trans ?_ (raise_calm _ _ _)
  refine Calm.trans (t := { s with su := { s.su with
      orders := s.su.orders ++ [Order.mk (freeNumber (s.su.orders.map Order.number) (Config.orderDepth + 1) s.su.orderCounter) u
        (orderQuantity (s.ctype u)) false s.now]
      orderCounter := nextNumber (freeNumber (s.su.orders.map Order.number) (Config.orderDepth + 1) s.su.orderCounter) } })
    ?_ (setType_calm ?_ ?_ ?_)
  · exact .of_tables id rfl rfl rfl rfl rfl rfl
  all_goals rfl

theorem trigger_calm (u : Nat) (s : State) : Calm s (trigger u s) := by
  unfold trigger
  dsimp only
  split
  · split
    · exact raiseOrder_calm u s
    · split
      · exact .refl s
      · exact setDeferredTypes_calm _ s
  · split
    · exact setDeferredTypes_calm _ s
    · exact .refl s

theorem serveDeferredTypes_calm (s : State) : Calm s (serveDeferredTypes s) := by
  unfold serveDeferredTypes
  refine Calm.foldl (fun a u => ?_) _ s
  split
  · exact (setDeferredTypes_calm _ a).trans (trigger_calm u _)
  · exact .refl a

theorem dropOrder_calm (o : Order) (s : State) : Calm s (dropOrder o s) := by
  unfold dropOrder
  dsimp only
  refine Calm.trans (setType_calm ?_ ?_ ?_) (setOrders_calm _ _)
  all_goals rfl

end

end Sys2Proof.Machine

/-! The claims of lanes (R126 to R128), and the Supply Estimator's operations, are gentle. -/

namespace Sys2Proof.Machine

section
variable {s : State} {n : Nat} {l : Lane} {x : LaneRecord} {u : Nat}

/-! ### Asking for a cartridge, serving the waiters (R126, R128) -/

theorem hasClaim_eq_false (hx : s.lane n l = some x) : hasClaim s n l = false ↔ x.allocation = false ∧ x.waiting = false := by
  simp [hasClaim, hx]

/-- R126: a free cartridge is allocated to a lane that has no claim, or the lane joins the wait list. -/
theorem requestCartridge_gentle (h : hasClaim s n l = false) : Gentle s (requestCartridge n l s) := by
  unfold requestCartridge
  split
  · exact .refl s
  · next x hx =>
    obtain ⟨ha, hw⟩ := (hasClaim_eq_false hx).1 h
    dsimp only
    refine Gentle.trans ?_ (trigger_calm _ _).toGentle
    split
    · next free =>
      refine moveClaim_gentle (y := { x with allocation := true }) hx rfl fun hc hs => ?_
      refine hs.moveClaim hc hx rfl ⟨free, le_refl _⟩ (by simp [ha]) (by simp [hw]) (hs.2.2.1 _) fun w => ?_
      have off := hs.not_listed hx hw x.type
      constructor
      · exact fun hin => .inl ⟨by rintro rfl; exact off hin, hin⟩
      · rintro (⟨-, hin⟩ | ⟨-, hin⟩)
        · exact hin
        · simp [hw] at hin
    · next full =>
      refine moveClaim_gentle (y := { x with waiting := true }) hx rfl fun hc hs => ?_
      have off := hs.not_listed hx hw x.type
      refine hs.moveClaim hc hx rfl ⟨(hs.1 _).1, le_refl _⟩ (by simp [ha]) (by simp [ha]) ?_ fun w => ?_
      · refine List.nodup_append.2 ⟨hs.2.2.1 _, by simp, ?_⟩
        rintro a hin b hb rfl
        rw [List.mem_singleton] at hb
        exact off (hb ▸ hin)
      · simp only [List.mem_append, List.mem_singleton, and_true]
        constructor
        · rintro (hin | hin)
          · exact .inl ⟨by rintro rfl; exact off hin, hin⟩
          · exact .inr hin
        · rintro (⟨-, hin⟩ | hin)
          · exact .inl hin
          · exact .inr hin

/-- The head of a wait list served. -/
def serveHead (u : Nat) (w : LaneName) (rest : List LaneName) (s : State) : State :=
  let r := s.ctype u
  let s := s.setType u { r with waitList := rest, allocated := r.allocated + 1 }
  s.setLane w.printer w.lane ((s.lane w.printer w.lane).map (fun x => { x with waiting := false, allocation := true }))

theorem serveWaitersN_succ (u fuel : Nat) (s : State) : serveWaitersN u (fuel + 1) s =
    match (s.ctype u).waitList with
    | [] => s
    | w :: rest => if (s.ctype u).onHand > (s.ctype u).allocated then serveWaitersN u fuel (serveHead u w rest s) else s := by
  conv_lhs => unfold serveWaitersN
  rfl

theorem serveHead_gentle {w : LaneName} {rest : List LaneName} (hl : (s.ctype u).waitList = w :: rest)
    (free : (s.ctype u).onHand > (s.ctype u).allocated) : Gentle s (serveHead u w rest s) := by
  unfold serveHead
  dsimp only
  refine .of_stock (fun h => canonical_setLane (canonical_setType h _ _) _ _ _) rfl rfl rfl (.of_printers rfl)
    (sameCommitted_setLane (s := s.setType u _) (by rw [Option.map_map]; rfl)) fun hc hs => ?_
  obtain ⟨x, hx, rfl, hw⟩ := (hs.2.2.2.1 u w).1 (by rw [hl]; simp)
  have nodup := hs.2.2.1 x.type
  rw [hl] at nodup
  obtain ⟨off, nodup⟩ := List.nodup_cons.1 nodup
  have ha : x.allocation = false := by simpa [hw] using hs.2.1 _ _ x hx
  have moved := hs.moveClaim (y := { x with waiting := false, allocation := true })
    (r := { s.ctype x.type with waitList := rest, allocated := (s.ctype x.type).allocated + 1 }) hc hx rfl
    ⟨free, le_refl _⟩ (by simp [ha]) (by simp) nodup (fun v => by
      simp only [hl, List.mem_cons, Bool.false_eq_true, and_false, or_false]
      constructor
      · exact fun hin => ⟨by rintro rfl; exact off hin, .inr hin⟩
      · rintro ⟨hne, rfl | hin⟩
        · exact absurd rfl hne
        · exact hin)
  have shape : moveClaim w.printer w.lane
      { s.ctype x.type with waitList := rest, allocated := (s.ctype x.type).allocated + 1 }
      { x with waiting := false, allocation := true } s =
      (s.setType x.type { s.ctype x.type with waitList := rest, allocated := (s.ctype x.type).allocated + 1 }).setLane
        w.printer w.lane (some { x with waiting := false, allocation := true }) := rfl
  rw [shape] at moved
  have lane : (s.setType x.type { s.ctype x.type with
      waitList := rest, allocated := (s.ctype x.type).allocated + 1 }).lane w.printer w.lane = some x := hx
  rw [lane]
  exact moved

theorem serveWaitersN_gentle (u fuel : Nat) (s : State) : Gentle s (serveWaitersN u fuel s) := by
  induction fuel generalizing s with
  | zero => exact .refl s
  | succ fuel ih =>
    rw [serveWaitersN_succ]
    split
    · exact .refl s
    · next w rest hl =>
      split
      · next free => exact (serveHead_gentle hl free).trans (ih _)
      · exact .refl s

theorem serveWaiters_gentle (u : Nat) (s : State) : Gentle s (serveWaiters u s) := serveWaitersN_gentle u _ s

/-- A lane that does not wait is not served. -/
theorem lane_serveWaitersN {g : Finset Nat} (u fuel : Nat) (hg : ∀ i ∈ g, (s.job i).state ≠ .queued) (h : Laws g s)
    (hx : s.lane n l = some x) (hw : x.waiting = false) : (serveWaitersN u fuel s).lane n l = some x := by
  induction fuel generalizing s with
  | zero => exact hx
  | succ fuel ih =>
    rw [serveWaitersN_succ]
    split
    · exact hx
    · next w rest hl =>
      split
      · next free =>
        have served := serveHead_gentle hl free
        have off : ¬(n = w.printer ∧ l = w.lane) := by
          rintro ⟨rfl, rfl⟩
          exact h.stock.not_listed hx hw u (by rw [hl]; simp)
        refine ih (fun i hi => by rw [served.jobs i (hg i hi)]; exact hg i hi) (served.laws g hg h) ?_
        unfold serveHead
        dsimp only
        rw [State.lane_setLane, if_neg off]
        exact hx
      · exact hx

theorem lane_serveWaiters {g : Finset Nat} (u : Nat) (hg : ∀ i ∈ g, (s.job i).state ≠ .queued) (h : Laws g s)
    (hx : s.lane n l = some x) (hw : x.waiting = false) : (serveWaiters u s).lane n l = some x :=
  lane_serveWaitersN u _ hg h hx hw

/-! ### Giving a claim back (R127) -/

/-- The record of a type with a lane's claim back. -/
def withoutClaim (n : Nat) (l : Lane) (x : LaneRecord) (r : CartridgeType) : CartridgeType :=
  { r with
    allocated := if x.allocation then r.allocated - 1 else r.allocated
    waitList := if x.waiting then r.waitList.filter (· ≠ ⟨n, l⟩) else r.waitList }

theorem returnClaim_eq (n : Nat) (l : Lane) (s : State) : returnClaim n l s =
    match s.lane n l with
    | none => s
    | some x => if x.allocation ∨ x.waiting then trigger x.type (serveWaiters x.type
        (moveClaim n l (withoutClaim n l x (s.ctype x.type)) { x with allocation := false, waiting := false } s)) else s := by
  unfold returnClaim
  rfl

/-- R127: the claim itself given back, before the waiters are served. -/
theorem claimBack_gentle (hx : s.lane n l = some x) : Gentle s
    (moveClaim n l (withoutClaim n l x (s.ctype x.type)) { x with allocation := false, waiting := false } s) := by
  refine moveClaim_gentle hx rfl fun hc hs => ?_
  refine hs.moveClaim hc hx rfl ⟨?_, le_refl _⟩ ?_ (by simp) ?_ fun w => ?_
  · have := (hs.1 x.type).1
    dsimp only [withoutClaim]
    split <;> omega
  · cases ha : x.allocation with
    | false => simp [withoutClaim, ha]
    | true =>
      have := hs.allocated_pos hc hx ha
      simp only [withoutClaim, ha, if_true, Bool.toNat_true, Bool.toNat_false]
      omega
  · dsimp only [withoutClaim]
    split
    · exact (hs.2.2.1 _).filter _
    · exact hs.2.2.1 _
  · cases hw : x.waiting with
    | true => simp [withoutClaim, hw, and_comm]
    | false =>
      have off := hs.not_listed hx hw x.type
      simp only [withoutClaim, hw, Bool.false_eq_true, if_false, and_false, or_false]
      exact ⟨fun hin => ⟨by rintro rfl; exact off hin, hin⟩, fun hin => hin.2⟩

theorem returnClaim_gentle (n : Nat) (l : Lane) (s : State) : Gentle s (returnClaim n l s) := by
  rw [returnClaim_eq]
  split
  · exact .refl s
  · next x hx =>
    split
    · exact ((claimBack_gentle hx).trans (serveWaiters_gentle _ _)).trans (trigger_calm _ _).toGentle
    · exact .refl s

/-- R127: the lane has no claim left. -/
theorem lane_returnClaim {g : Finset Nat} (hg : ∀ i ∈ g, (s.job i).state ≠ .queued) (h : Laws g s)
    (hx : s.lane n l = some x) :
    (returnClaim n l s).lane n l = some { x with allocation := false, waiting := false } := by
  rw [returnClaim_eq, hx]
  dsimp only
  split
  · have back := claimBack_gentle hx
    have own : (moveClaim n l (withoutClaim n l x (s.ctype x.type)) { x with allocation := false, waiting := false } s).lane
        n l = some { x with allocation := false, waiting := false } := by simp [lane_moveClaim]
    have kept := lane_serveWaiters x.type (fun i hi => by rw [back.jobs i (hg i hi)]; exact hg i hi) (back.laws g hg h) own rfl
    rw [lane_congr (trigger_frame _ _).2.2.2.2.1]
    exact kept
  · next none =>
    rw [hx]
    cases x
    simp_all

/-! ### A lane's state and its effects (R110, R111) -/

theorem supplyOutEffect_calm (n : Nat) (l : Lane) (a b : LaneState) (s : State) : Calm s (supplyOutEffect n l a b s) := by
  unfold supplyOutEffect
  split
  · exact setSupplyOut_calm n l _ s
  · split
    · exact setSupplyOut_calm n l _ s
    · exact .refl s

theorem calloutEffect_calm (n : Nat) (l : Lane) (a b : LaneState) (s : State) : Calm s (calloutEffect n l a b s) := by
  unfold calloutEffect
  split
  · exact supplyRaise_calm n l s
  · split
    · exact dropItem_calm _ _ _ s
    · exact .refl s

theorem claimEffect_gentle (n : Nat) (l : Lane) (a b : LaneState) (s : State) : Gentle s (claimEffect n l a b s) := by
  unfold claimEffect
  split
  · exact returnClaim_gentle n l s
  · split
    · next asks => exact requestCartridge_gentle (by simpa using asks.2)
    · exact .refl s

theorem laneEffects_gentle (n : Nat) (l : Lane) (a b : LaneState) (s : State) : Gentle s (laneEffects n l a b s) :=
  ((supplyOutEffect_calm n l a b s).trans (calloutEffect_calm n l a b _)).toGentle.trans (claimEffect_gentle n l a b _)

theorem recompute_gentle (n : Nat) (l : Lane) (s : State) : Gentle s (recompute n l s) := by
  unfold recompute
  split
  · exact .refl s
  · next x hx =>
    dsimp only
    split
    · exact .refl s
    · refine Gentle.trans ?_ (laneEffects_gentle n l _ _ _)
      exact (setLane_some_calm hx (by rfl) (by rfl)).toGentle

theorem reconcileLane_gentle (n : Nat) (l : Lane) (s : State) : Gentle s (reconcileLane n l s) := by
  unfold reconcileLane
  split
  · exact .refl s
  · next x hx =>
    refine Gentle.trans ?_ (laneEffects_gentle n l _ _ _)
    exact (setLane_some_calm hx (by rfl) (by rfl)).toGentle

theorem reconcileLanes_gentle (s : State) : Gentle s (reconcileLanes s) :=
  Gentle.foldl (fun a n => Gentle.foldl (fun b l => reconcileLane_gentle n l b) _ a) _ s

/-! ### Deductions, readings, cartridges installed (R115 to R119) -/

theorem deductedLane_same (x : LaneRecord) (p w : Nat) :
    (deductedLane x p w).claim = x.claim ∧ (deductedLane x p w).committed = x.committed := by
  unfold deductedLane
  split <;> exact ⟨rfl, rfl⟩

theorem deduct_gentle (n : Nat) (l : Lane) (p w : Nat) (s : State) : Gentle s (deduct n l p w s) := by
  unfold deduct
  split
  · exact .refl s
  · next x hx =>
    dsimp only
    have written := (setLane_some_calm hx (deductedLane_same x p w).1 (deductedLane_same x p w).2).toGentle
    split
    · exact written
    · exact written.trans (recompute_gentle n l _)

theorem deductPages_gentle (n : Nat) (p : PerClass Nat) (k : Nat) (c : Option Nat) (s : State) :
    Gentle s (deductPages n p k c s) :=
  Gentle.foldl (fun a l => deduct_gentle n l _ _ a) _ s

theorem calibrated_same (x : LaneRecord) (c r t b : Nat) :
    (calibrated x c r t b).claim = x.claim ∧ (calibrated x c r t b).committed = x.committed := by
  simp only [calibrated]
  split_ifs <;> exact ⟨rfl, rfl⟩

theorem readLane_same (x : LaneRecord) (e : LaneReading) (c t b : Nat) :
    (readLane x e c t b).claim = x.claim ∧ (readLane x e c t b).committed = x.committed := by
  unfold readLane
  dsimp only
  split
  · exact ⟨rfl, rfl⟩
  · split
    · exact calibrated_same { x with emptyFlag := e.empty } _ _ _ _
    · exact ⟨rfl, rfl⟩

theorem takeReading_gentle (n : Nat) (l : Lane) (e : LaneReading) (s : State) : Gentle s (takeReading n l e s) := by
  unfold takeReading
  split
  · exact .refl s
  · next x hx =>
    refine Gentle.trans ?_ (recompute_gentle n l _)
    exact (setLane_some_calm hx (readLane_same x e _ _ _).1 (readLane_same x e _ _ _).2).toGentle

/-- R119, step 2: the allocation is used up, or a free cartridge, or none is counted. -/
theorem settleInstalled_gentle (n : Nat) (l : Lane) (s : State) : Gentle s (settleInstalled n l s) := by
  unfold settleInstalled
  split
  · exact .refl s
  · next x hx =>
    dsimp only
    split
    · next ha =>
      refine moveClaim_gentle (y := { x with allocation := false }) hx rfl fun hc hs => ?_
      have pos := hs.allocated_pos hc hx ha
      have le := (hs.1 x.type).1
      have hw : x.waiting = false := by simpa [ha] using hs.2.1 _ _ x hx
      have off := hs.not_listed hx hw x.type
      refine hs.moveClaim hc hx rfl ⟨?_, ?_⟩ ?_ (by simp) (hs.2.2.1 _) fun w => ?_
      · exact Nat.sub_le_sub_right le 1
      · exact Nat.sub_le _ _
      · simp only [ha, Bool.toNat_true, Bool.toNat_false]
        omega
      · simp only [hw, Bool.false_eq_true, and_false, or_false]
        exact ⟨fun hin => ⟨by rintro rfl; exact off hin, hin⟩, fun hin => hin.2⟩
    · next ha =>
      split
      · next free =>
        refine moveClaim_gentle (y := { x with waiting := false }) hx rfl fun hc hs => ?_
        refine hs.moveClaim hc hx rfl ⟨?_, ?_⟩ rfl (by simp) ((hs.2.2.1 _).filter _) fun w => ?_
        · exact Nat.le_sub_one_of_lt free
        · exact Nat.sub_le _ _
        · simp [and_comm]
      · refine Gentle.trans ?_ (raise_calm _ _ _).toGentle
        exact (setLane_some_calm hx (by rfl) (by rfl)).toGentle

theorem install_gentle (n : Nat) (l : Lane) (s : State) : Gentle s (install n l s) := by
  unfold install
  split
  · exact .refl s
  · next x hx =>
    refine Gentle.trans ?_ (trigger_calm _ _).toGentle
    refine Gentle.trans ?_ (recompute_gentle n l _)
    refine Gentle.trans ?_ (settleInstalled_gentle n l _)
    exact (setLane_some_calm hx (by rfl) (by rfl)).toGentle

/-! ### A lane moved to another type (R137) -/

theorem capEstimate_calm (n : Nat) (l : Lane) (s : State) : Calm s (capEstimate n l s) := by
  unfold capEstimate
  split
  · exact .refl s
  · next x hx => exact setLane_some_calm hx (by rfl) (by rfl)

theorem claimIfShort_gentle (n : Nat) (l : Lane) (s : State) : Gentle s (claimIfShort n l s) := by
  unfold claimIfShort
  split
  · exact .refl s
  · next x hx =>
    split
    · next short => exact requestCartridge_gentle ((hasClaim_eq_false hx).2 (by simpa using short.2))
    · exact .refl s

theorem SamePrinters.setLane {t : State} {z : Option LaneRecord} (h : SamePrinters s t) : SamePrinters s (t.setLane n l z) :=
  ⟨h.enrolled, h.admin, h.queue⟩

theorem retypeLane_still (n : Nat) (l : Lane) (u : Nat) (s : State) : Still s (retypeLane n l u s) := by
  unfold retypeLane
  dsimp only
  refine .of_stock rfl rfl (SamePrinters.setLane (SamePrinters.of_setPrinter ?_ ?_ ?_)) fun m l' => ?_
  iterate 3 rfl
  rw [State.lane_setLane]
  split
  · next e => rw [e.1, e.2, Option.isSome_map]
  · rfl

/-- A lane without a claim is replaced by one without a claim, or removed, or made. -/
theorem StockLaw.setLane {z : Option LaneRecord} (h : StockLaw s) (hc : Canonical s) (free : hasClaim s n l = false)
    (unclaimed : ∀ y, z = some y → y.allocation = false ∧ y.waiting = false)
    (enrolled : z ≠ none → (s.printer n).enrolled = true) : StockLaw (s.setLane n l z) := by
  have own : (s.setLane n l z).lane n l = z := by simp
  have off : ∀ m l', ¬(m = n ∧ l' = l) → (s.setLane n l z).lane m l' = s.lane m l' := fun m l' e => by
    rw [State.lane_setLane, if_neg e]
  have idle : ∀ x, s.lane n l = some x → x.allocation = false ∧ x.waiting = false := fun x hx => (hasClaim_eq_false hx).1 free
  have uncounted : ∀ (o : Option LaneRecord) (v : Nat), (∀ x, o = some x → x.allocation = false ∧ x.waiting = false) →
      allocatedOf v 0 o = 0 := by
    rintro (_ | x) v hv
    · rfl
    · simp [allocatedOf, (hv x rfl).1]
  obtain ⟨h1, h2, h3, h4, h5⟩ := id h
  refine h.of_lane hc (canonical_setLane hc _ _ _) off (fun v => ⟨(h1 v).1, (h1 v).2.1⟩) (fun v => ?_) (fun y hy => ?_)
    h3 (fun v w => ?_) (fun m l' hm => ?_)
  · rw [own, uncounted z v unclaimed, uncounted _ v idle]
    rfl
  · rw [own] at hy
    simp [unclaimed y hy]
  · have none : ¬∃ y, (s.setLane n l z).lane n l = some y ∧ y.type = v ∧ y.waiting = true := by
      rintro ⟨y, hy, -, hw⟩
      rw [own] at hy
      simp [unclaimed y hy] at hw
    simp only [none, and_false, or_false]
    refine ⟨fun hin => ⟨?_, hin⟩, fun hin => hin.2⟩
    rintro rfl
    obtain ⟨x, hx, -, hw⟩ := (h4 v _).1 hin
    simp [idle x hx] at hw
  · by_cases e : m = n ∧ l' = l
    · obtain ⟨rfl, rfl⟩ := e
      rw [own]
      by_contra some
      have := enrolled some
      rw [show (s.printer m).enrolled = false from hm] at this
      cases this
    · rw [off m l' e]
      exact h5 m l' hm

/-- The lane's committed need is the sum of its printer's queue (R114). -/
def Committed (n : Nat) (l : Lane) (x : LaneRecord) (s : State) : Prop :=
  x.committed = ((s.printer n).queue.map (fun h => recordedNeed (s.job h.index) l)).sum

theorem Laws.setLane {g : Finset Nat} {z : Option LaneRecord} (h : Laws g s) (free : hasClaim s n l = false)
    (unclaimed : ∀ y, z = some y → y.allocation = false ∧ y.waiting = false)
    (enrolled : z ≠ none → (s.printer n).enrolled = true) (committed : ∀ y, z = some y → Committed n l y s) :
    Laws g (s.setLane n l z) where
  canonical := canonical_setLane h.canonical _ _ _
  stock := h.stock.setLane h.canonical free unclaimed enrolled
  dispatch := h.dispatch
  session := h.session
  committed := fun m l' y hy => by
    rw [State.lane_setLane] at hy
    split at hy
    · next e => obtain ⟨rfl, rfl⟩ := e; exact committed y hy
    · exact h.committed m l' y hy
  window := h.window
  reserved := h.reserved
  tenantSum := h.tenantSum
  live := h.live
  share := h.share

/-- R137, step 2: a lane without a claim takes another type. -/
theorem Laws.retypeLane {g : Finset Nat} (h : Laws g s) (free : hasClaim s n l = false) (u : Nat) :
    Laws g (retypeLane n l u s) := by
  unfold Machine.retypeLane
  dsimp only
  have listed : Laws g (s.setPrinter n { s.printer n with laneTypes := (s.printer n).laneTypes.set l (some u) }) :=
    h.setPrinter_same (.of_setPrinter rfl rfl rfl)
  refine listed.setLane free (fun y hy => ?_) (fun some => ?_) (fun y hy => ?_)
  · obtain ⟨x, hx, rfl⟩ := Option.map_eq_some_iff.1 hy
    exact (hasClaim_eq_false hx).1 free
  · rw [State.printer_setPrinter, if_pos rfl]
    by_contra gone
    exact some (by rw [h.stock.2.2.2.2 n l (by simpa using gone)]; rfl)
  · obtain ⟨x, hx, rfl⟩ := Option.map_eq_some_iff.1 hy
    have sum := h.committed n l x hx
    simpa [Committed] using sum

/-- R137: a lane's claim goes back before its type changes. -/
theorem changeLaneType_gentle (n : Nat) (l : Lane) (u : Nat) (s : State) : Gentle s (changeLaneType n l u s) := by
  unfold changeLaneType
  split
  · exact .refl s
  · next x hx =>
    split
    · exact .refl s
    · have retyped : Gentle s (retypeLane n l u (returnClaim n l s)) := by
        have back := returnClaim_gentle n l s
        refine ⟨back.toStill.trans (retypeLane_still n l u _), fun g hg h => (back.laws g hg h).retypeLane ?_ u⟩
        exact (hasClaim_eq_false (lane_returnClaim hg h hx)).2 ⟨rfl, rfl⟩
      exact (((retyped.trans (capEstimate_calm n l _).toGentle).trans (recompute_gentle n l _)).trans
        (claimIfShort_gentle n l _)).trans (trigger_calm u _).toGentle

end

end Sys2Proof.Machine

/-! A job's end at its printer (R96 to R101), flushes and cancellations keep the laws. -/

namespace Sys2Proof.Machine

/-- The laws of O11 with no job left out. -/
abbrev Lawful (s : State) : Prop := Laws ∅ s

section
variable {s t : State} {n : Nat} {k : Handle}

theorem Gentle.lawful (h : Gentle s t) (hs : Lawful s) : Lawful t := h.laws ∅ (by simp) hs

theorem Calm.lawful (h : Calm s t) (hs : Lawful s) : Lawful t := h.toGentle.lawful hs

/-! ### The printing head -/

/-- A job that prints at the head of a queue. -/
structure Printing (n : Nat) (k : Handle) (s : State) : Prop extends InQueue n k s where
  printing : (s.job k.index).state.printing = true

theorem printing_ne_queued {x : JobState} (h : x.printing = true) : x ≠ .queued := by rintro rfl; simp [JobState.printing] at h

theorem printingHead_eq_some : printingHead s n = some k ↔
    (∃ rest, (s.printer n).queue = k :: rest) ∧ (s.job k.index).state.printing = true := by
  unfold printingHead
  cases hq : (s.printer n).queue with
  | nil => simp
  | cons a l =>
    by_cases hp : (s.job a.index).state.printing = true
    · simp only [hp, if_true, Option.some.injEq, List.cons.injEq]
      constructor
      · rintro rfl; exact ⟨⟨l, rfl, rfl⟩, hp⟩
      · rintro ⟨⟨rest, rfl, -⟩, -⟩; rfl
    · simp only [hp, Bool.false_eq_true, if_false, reduceCtorEq, List.cons.injEq, false_iff, not_and]
      rintro ⟨rest, rfl, -⟩
      exact hp

theorem Printing.of_head (h : DispatchLaw s) (hk : printingHead s n = some k) : Printing n k s := by
  obtain ⟨⟨rest, hq⟩, hp⟩ := printingHead_eq_some.1 hk
  exact ⟨.of_mem h (by rw [hq]; simp), hp⟩

/-- The head's entry stands where its job entry stands. -/
theorem InQueue.congr (q : InQueue n k s) (e : t.job k.index = s.job k.index) : InQueue n k t := by
  obtain ⟨h1, h2, h3⟩ := q
  constructor <;> rw [e] <;> assumption

theorem Printing.congr (q : Printing n k s) (e : t.job k.index = s.job k.index) : Printing n k t :=
  ⟨q.toInQueue.congr e, by rw [e]; exact q.printing⟩

theorem Printing.job_still (q : Printing n k s) (h : Still s t) : t.job k.index = s.job k.index :=
  h.jobs _ (printing_ne_queued q.printing)

/-! ### The end of R98 -/

/-- R98, steps 1 to 4: the account is charged and the pages deducted before the job leaves its queue; between the two the laws
hold with the job left out. -/
theorem Laws.settled (h : Lawful s) (q : Printing n k s) : ∃ u, settleEnd n k s = outOfQueue n k (s.job k.index) u ∧
    Laws (insert k.index ∅) u ∧ InQueue n k u ∧ u.job k.index = s.job k.index := by
  have stopped := stopStall_calm n s
  have own := q.job_still stopped.toStill
  have paid := chargeJob_adjusted (s.job k.index) (s.job k.index).printed (stopStall n s)
  have out : Laws (insert k.index ∅) (chargeBoth (s.job k.index).owner (s.job k.index).printed
      ((s.job k.index).reservation.getD (.both 0)) (stopStall n s)) :=
    (stopped.lawful h).of_returned (i := k.index) (by rw [own]; exact q.released) (by simp) (by rw [own]; exact paid)
  have own' := (job_congr paid.jt k.index).trans own
  have deducted := deductPages_gentle n (s.job k.index).printed (s.job k.index).kClass (s.job k.index).colourClass
    (chargeBoth (s.job k.index).owner (s.job k.index).printed ((s.job k.index).reservation.getD (.both 0)) (stopStall n s))
  have own'' := ((q.congr own').job_still deducted.toStill).trans own'
  refine ⟨_, rfl, deducted.laws _ (fun i hi => ?_) out, q.toInQueue.congr own'', own''⟩
  obtain rfl : i = k.index := by simpa using hi
  rw [own']
  exact printing_ne_queued q.printing

theorem Laws.settleFinal (h : Lawful s) (q : Printing n k s) {f : JobState} (hf : f.final = true) (r : EndReason) :
    Lawful (enterFinal k.index f r (settleEnd n k s)) := by
  obtain ⟨u, e, hu, qu, job⟩ := h.settled q
  rw [e]
  exact hu.enterFinal_outOfQueue qu (by rw [job]) hf r

theorem Laws.endFinal (h : Lawful s) (q : Printing n k s) {f : JobState} (hf : f.final = true) (r : EndReason) :
    Lawful (endFinal n k f r s) := (afterEnd_calm n _).lawful (h.settleFinal q hf r)

theorem Laws.endInterrupted (h : Lawful s) (q : Printing n k s) : Lawful (endInterrupted n k s) := by
  obtain ⟨u, e, hu, qu, job⟩ := h.settled q
  unfold Machine.endInterrupted
  rw [e]
  exact (afterEnd_calm n _).lawful (hu.interruptEntry_outOfQueue qu (by rw [job]))

theorem Laws.endUnfinished (h : Lawful s) (q : Printing n k s) : Lawful (endUnfinished n k s) := by
  unfold Machine.endUnfinished
  split
  · exact h.endFinal q rfl _
  · exact h.endInterrupted q

/-! ### PROGRESS, JOB_END, late ends, stalls, lost heads (R92, R96 to R101) -/

/-- The entry of a job with its done count replaced shows the laws what it showed. -/
theorem sameJobs_setDone (s : State) (i : Nat) (d : PerClass Nat) : SameJobs s (s.setJob i { s.job i with done := d }) :=
  .of_setJob rfl rfl rfl rfl rfl rfl rfl

theorem takeCounts_lawful (h : Lawful s) (q : Printing n k s) (p : PerClass Nat) :
    Lawful (takeCounts n k p s) ∧ Printing n k (takeCounts n k p s) := by
  unfold takeCounts
  dsimp only
  have counted := Laws.setJob_same h (sameJobs_setDone s k.index
    (PerClass.zip (fun d u => min Config.doneMax (d + u)) (s.job k.index).done (PerClass.zip increase p (s.job k.index).printed)))
  refine ⟨counted.setPrinter_same ?_, ?_⟩
  · refine SamePrinters.of_setPrinter ?_ ?_ ?_
    all_goals rfl
  · obtain ⟨⟨h1, h2, h3⟩, h4⟩ := q
    exact ⟨⟨by simpa using h1, by simpa using h2, by simpa using h3⟩, by simpa using h4⟩

theorem Printing.of_headWithGrant (h : DispatchLaw s) {grant : Nat} (hk : headWithGrant s n grant = some k) :
    Printing n k s := .of_head h (Option.filter_eq_some_iff.1 hk).1

theorem takeProgress_lawful (n grant : Nat) (p : PerClass Nat) (h : Lawful s) : Lawful (takeProgress n grant p s) := by
  unfold takeProgress
  split
  · next k hk =>
    dsimp only
    have counted := (takeCounts_lawful h (.of_headWithGrant h.dispatch hk) p).1
    split
    · refine counted.setPrinter_same (SamePrinters.of_setPrinter ?_ ?_ ?_)
      all_goals rfl
    · exact counted
  · split
    · exact h
    · exact (protocolError_calm n _ _ s).lawful h

/-- R97: the head is ended by its state and the outcome reported. -/
theorem endByOutcome_lawful (outcome : JobOutcome) (h : Lawful s) (q : Printing n k s) :
    Lawful (if (s.job k.index).state = .cancelling then endFinal n k .cancelled .cancelledByTenant s
      else if completes (s.job k.index) outcome then endFinal n k .done .complete s else endInterrupted n k s) := by
  split
  · exact h.endFinal q rfl _
  · split
    · exact h.endFinal q rfl _
    · exact h.endInterrupted q

theorem endReported_lawful (grant : Nat) (outcome : JobOutcome) (h : Lawful s) (q : Printing n k s) :
    Lawful (endReported n k grant outcome s) := by
  have cleared : Calm s (if (s.printer n).stalled.any (fun g => g.grant == grant) then
      s.setPrinter n { s.printer n with stalled := none } else s) := by
    split
    · exact setPrinter_calm (.of_setPrinter rfl rfl rfl)
    · exact .refl s
  unfold endReported
  exact endByOutcome_lawful outcome (cleared.lawful h) (q.congr (q.job_still cleared.toStill))

theorem lateEnd_lawful (n : Nat) (g : StalledGrant) (p : PerClass Nat) (h : Lawful s) : Lawful (lateEnd n g p s) := by
  unfold lateEnd
  dsimp only
  have charged : Lawful (if (s.account g.account).state = .free then s else
      chargeBoth g.account (PerClass.zip increase p g.pages) (.both 0) s) := by
    split
    · exact h
    · next owner =>
      have paid := chargeBoth_adjusted g.account (PerClass.zip increase p g.pages) (.both 0) s
      have zero : ∀ c, (PerClass.both 0 : PerClass Nat).get c = 0 := fun c => by cases c <;> rfl
      simp only [zero] at paid
      exact h.of_charged owner paid
  refine ((deductPages_gentle n _ _ _ _).lawful charged).setPrinter_same (SamePrinters.of_setPrinter ?_ ?_ ?_)
  all_goals rfl

theorem takeJobEnd_lawful (n grant : Nat) (p : PerClass Nat) (outcome : JobOutcome) (h : Lawful s) :
    Lawful (takeJobEnd n grant p outcome s) := by
  unfold takeJobEnd
  split
  · next k hk =>
    obtain ⟨counted, q⟩ := takeCounts_lawful h (.of_headWithGrant h.dispatch hk) p
    exact endReported_lawful grant outcome counted q
  · split
    · split
      · exact lateEnd_lawful n _ p h
      · exact (protocolError_calm n _ _ s).lawful h
    · exact (protocolError_calm n _ _ s).lawful h

/-- R100, R90: ABORT issued and the stalled grant recorded, the head prints on. -/
theorem aborted (n : Nat) (k : Handle) (s : State) :
    Calm s (recordStalled n k (issue n (.abort ((s.job k.index).grant.getD 0)) s)) :=
  (issue_calm n _ s).trans (recordStalled_calm n k _)

theorem expireStall_lawful (n : Nat) (h : Lawful s) : Lawful (expireStall n s) := by
  unfold expireStall
  split
  · exact (stopStall_calm n s).lawful h
  · next k hk =>
    have q := Printing.of_head h.dispatch hk
    have told := aborted n k s
    exact (told.lawful h).endUnfinished (q.congr (q.job_still told.toStill))

theorem loseHead_lawful (n : Nat) (h : Lawful s) : Lawful (loseHead n s) := by
  unfold loseHead
  split
  · next k hk => exact h.endUnfinished (.of_head h.dispatch hk)
  · exact h

/-! ### QUEUED jobs ended: CANCEL and FLUSH_PRINTER (R53, R54, R90) -/

theorem withOwner_setPrinter (i : Nat) (f : Tenant → Tenant) (n : Nat) (p : Printer) (s : State) :
    withOwner i f (s.setPrinter n p) = (withOwner i f s).setPrinter n p := by
  have same : owningTenant (s.setPrinter n p) i = owningTenant s i := rfl
  unfold withOwner
  rw [same]
  cases owningTenant s i <;> rfl

theorem returnPages_setPrinter (o : Nat) (c : PageClass) (x n : Nat) (p : Printer) (s : State) :
    returnPages o c x (s.setPrinter n p) = (returnPages o c x s).setPrinter n p := by
  unfold returnPages
  exact withOwner_setPrinter o _ n p (s.setAccount o _)

theorem returnReservation_leaveQueue (j : Job) (n : Nat) (k : Handle) (s : State) :
    returnReservation j (leaveQueue n k s) = leaveQueue n k (returnReservation j s) := by
  have printer : (returnReservation j s).printer n = s.printer n := printer_congr (returnReservation_adjusted j s).ft n
  unfold leaveQueue
  rw [printer]
  unfold returnReservation returnBoth
  split
  · rw [returnPages_setPrinter, returnPages_setPrinter]
  · rfl

theorem returnNeeds_leaveQueue (j : Job) (n : Nat) (k : Handle) (s : State) :
    returnNeeds n j (leaveQueue n k s) = outOfQueue n k j s := by
  unfold outOfQueue returnNeeds
  cases j.needs <;> rfl

/-- R53, R90: a QUEUED job leaves its queue, its claims are returned, and it ends. -/
theorem Laws.endQueued (h : Lawful s) (hs : (s.job k.index).state = .queued) (hg : (s.job k.index).generation = k.generation)
    (hp : (s.job k.index).printer = some n) {f : JobState} (hf : f.final = true) (r : EndReason) :
    Lawful (enterFinal k.index f r (returnNeeds n (s.job k.index) (returnReservation (s.job k.index) (leaveQueue n k s)))) := by
  have released : (s.job k.index).state.released = true := by rw [hs]; rfl
  have paid := returnReservation_adjusted (s.job k.index) s
  have out := h.of_returned released (by simp) paid
  have q : InQueue n k (returnReservation (s.job k.index) s) := by
    constructor <;> rw [job_congr paid.jt] <;> assumption
  rw [returnReservation_leaveQueue, returnNeeds_leaveQueue]
  exact out.enterFinal_outOfQueue q (by rw [job_congr paid.jt]) hf r

theorem cancelQueued_lawful (h : Lawful s) (hs : (s.job k.index).state = .queued)
    (hg : (s.job k.index).generation = k.generation) (hp : (s.job k.index).printer = some n) : Lawful (cancelQueued n k s) :=
  (afterEnd_calm n _).lawful (h.endQueued hs hg hp rfl _)

theorem cancelActive_lawful (n : Nat) (h : Lawful s) (hs : (s.job k.index).state = .active) : Lawful (cancelActive n k s) := by
  refine (issue_calm n _ _).lawful (h.restated (by rw [hs]; rfl) rfl fun m k' hk' e => ?_)
  have queued := h.dispatch.2.2.2.1 m k' hk'
  rw [e, hs] at queued
  cases queued

/-- R90: the head of the queue is flushed, printing or QUEUED. -/
theorem flushOne_lawful {rest : List Handle} (h : Lawful s) (hq : (s.printer n).queue = k :: rest) :
    Lawful (flushOne n k s) := by
  have mem : k ∈ (s.printer n).queue := by rw [hq]; simp
  have q := InQueue.of_mem h.dispatch mem
  unfold flushOne
  split
  · next hp =>
    have told := aborted n k s
    have q' : Printing n k s := ⟨q, hp⟩
    exact (drainingTest_calm n _).lawful ((told.lawful h).settleFinal (q'.congr (q'.job_still told.toStill)) rfl _)
  · next hp =>
    have queued : (s.job k.index).state = .queued := by
      have := q.released
      cases hs : (s.job k.index).state <;> simp_all [JobState.released, JobState.printing]
    exact (drainingTest_calm n _).lawful (h.endQueued queued q.generation q.printer rfl _)

theorem flushQueue_lawful (n fuel : Nat) (h : Lawful s) : Lawful (flushQueue n fuel s).1 := by
  induction fuel generalizing s with
  | zero => exact h
  | succ fuel ih =>
    unfold flushQueue
    split
    · exact h
    · next k rest hq => exact ih (flushOne_lawful h hq)

end

end Sys2Proof.Machine

/-! Jobs that are in no queue, sessions, and the panel: submissions, ends of HELD jobs, collections, expiries, badges. -/

namespace Sys2Proof.Machine

section
variable {s t : State} {i n : Nat}

/-! ### A change of an entry that is in no queue -/

/-- A change of one entry that is released neither before nor after. -/
theorem Laws.of_idleJob (h : Lawful s) (hc : Canonical t) (only : OnlyJob i s t) (was : (s.job i).state.released = false)
    (is : (t.job i).state.released = false) (hft : t.ft = s.ft) (hse : t.se = s.se) (hsu : t.su = s.su)
    (htenants : t.au.tenants = s.au.tenants) (reserved : ∀ o, (t.account o).reserved = (s.account o).reserved)
    (session : SessionLaw t) (window : WindowLaw t) (live : LiveLaw t) (share : ShareLaw t) : Lawful t := by
  have accountsSound := (Table.wf_iff_sound _ _).1 hc.1
  have jobsSound := (Table.wf_iff_sound _ _).1 hc.2.2.1
  have lanesSound := (Table.wf_iff_sound _ _).1 hc.2.2.2.2.2.2.1
  have printers : SamePrinters s t := .of_printers (by rw [hft])
  have tenants : SameTenants s t := .of_tenants htenants
  exact {
    canonical := hc
    stock := h.stock.congr h.lanesSound lanesSound printers.enrolled (.of_lanes (by rw [hse])) (.of_types (by rw [hsu]))
    dispatch := h.dispatch.of_idleJob printers only was is
    session := session
    committed := h.committed.of_idleJob h.dispatch (.of_lanes (by rw [hse])) printers.queue only was
    window := window
    reserved := h.reserved.of_job h.jobsSound jobsSound reserved only (fun _ _ => Iff.rfl)
      (fun c o => by simp [reservationOf, reservedPages, was, is])
    tenantSum := h.tenantSum.congr h.accountsSound accountsSound reserved tenants
    live := live
    share := share }

theorem canonical_removeFromLists (k : Handle) (h : Canonical s) : Canonical (removeFromLists k s) := by
  obtain ⟨h1, h2, h3, h4, h5, h6⟩ := h
  refine ⟨h1, h2, h3, h4, ?_, h6⟩
  unfold removeFromLists
  dsimp only
  exact Table.wf_mapAll _ _ _ h5

theorem session_removeFromLists (k : Handle) (h : Canonical s) (m : Nat) :
    (removeFromLists k s).session m = (s.session m).map (Session.without k) := by
  unfold removeFromLists State.session
  exact Table.get_mapAll none (fun _ x => x.map (Session.without k)) m rfl _ ((Table.wf_iff_sound _ _).1 h.2.2.2.2.1)

theorem SameHolders.of_lowerLive (o : Nat) (hf : (s.account o).state ≠ .free) : SameHolders s (lowerLive o s) :=
  .of_setAccount Iff.rfl hf rfl

theorem SameHolders.of_raiseLive (o : Nat) (hf : (s.account o).state ≠ .free) : SameHolders s (raiseLive o s) :=
  .of_setAccount Iff.rfl hf rfl

/-- R50: a HELD job ends: it leaves its session's lists and its owner's live jobs are lowered. -/
theorem Laws.endHeld (h : Lawful s) (hs : (s.job i).state = .held) {f : JobState} (hf : f.final = true) (r : EndReason) :
    Lawful (enterFinal i f r s) := by
  obtain ⟨hlive, hrel, hfree⟩ := final_not_live hf
  obtain ⟨-, -, -, -, hjobs⟩ := id h.window
  have owner := (hjobs i (by rw [hs]; decide)).2.2
  set e : Job := { s.job i with
    state := f, endReason := some r, finished := s.now, reservation := none, needs := none } with he
  set u := removeFromLists ⟨i, (s.job i).generation⟩ (lowerLive (s.job i).owner (s.setJob i e)) with hu
  have hue : enterFinal i f r s = Machine.raiseTenant (s.job i).tenant .finished
      (u.setFinishedList (s.job i).tenant (u.finishedList (s.job i).tenant ++ [⟨i, (s.job i).generation⟩])) := by
    simp only [enterFinal, hs, if_true, hu, he]
  have lowered : Canonical (lowerLive (s.job i).owner (s.setJob i e)) :=
    canonical_setAccount (canonical_setJob h.canonical _ _) _ _
  have hc : Canonical u := canonical_removeFromLists _ lowered
  have job : ∀ x, u.job x = if x = i then e else s.job x := fun x => by
    rw [hu, job_congr (removeFromLists_frame _ _).2.2.1, job_congr (lowerLive_frame _ _).2.1, State.job_setJob]
  have account : ∀ o, u.account o = if o = (s.job i).owner then
      { s.account o with liveJobs := (s.account o).liveJobs - 1 } else s.account o := fun o => by
    simp only [hu, account_congr (removeFromLists_frame _ _).2.1, lowerLive, State.account_setAccount]
    split
    · next e => subst e; rfl
    · rfl
  have only : OnlyJob i s u := fun x hx => by rw [job, if_neg hx]
  have own : u.job i = e := by rw [job, if_pos rfl]
  have tenants : SameTenants s u := .of_tenants (by simp [hu, lowerLive, State.setAccount])
  have holders : SameHolders s u := by
    have lowered : SameHolders (s.setJob i e) (lowerLive (s.job i).owner (s.setJob i e)) := .of_lowerLive _ owner
    exact ⟨lowered.free, lowered.freeValues, lowered.badge⟩
  rw [hue]
  refine Laws.raiseTenant (Laws.setFinishedList (h.of_idleJob hc only (by rw [hs]; rfl) (by rw [own]; exact hrel)
    (by simp [hu]) (by simp [hu]) (by simp [hu]) (by simp [hu, lowerLive, State.setAccount]) (fun o => ?_) ?_ ?_ ?_ ?_) _ _) _ _
  · rw [account]; split <;> rfl
  · refine h.session.of_removedJob (k := ⟨i, (s.job i).generation⟩) (fun m => ?_) only rfl
    rw [hu, session_removeFromLists _ lowered]
    rfl
  · refine h.window.of_jobs holders tenants fun x hx => ?_
    rw [job] at hx ⊢
    split
    · next e' => subst e'; rw [hs]; exact ⟨by decide, rfl, rfl⟩
    · next e' => rw [if_neg e'] at hx; exact ⟨hx, rfl, rfl⟩
  · refine h.live.of_endedJob h.jobsSound ((Table.wf_iff_sound _ _).1 hc.2.2.1) (fun o => ?_) only (by rw [hs]; rfl)
      (by rw [own]; exact hlive)
    rw [account]; split <;> rfl
  · refine h.share.of_job h.jobsSound ((Table.wf_iff_sound _ _).1 hc.2.2.1) tenants.share only fun m => ?_
    simp [inUseOf, own, he, hfree, hs]

/-- R58: an entry in a final state is freed. -/
theorem Laws.freeEntry (h : Lawful s) (hs : (s.job i).state.final = true) : Lawful (freeEntry i s) := by
  obtain ⟨hlive, hrel, hfree⟩ := final_not_live hs
  have held : (s.job i).state ≠ .held := fun e => by simp [e, JobState.final] at hs
  unfold Machine.freeEntry
  dsimp only
  set u := s.setFinishedList (s.job i).tenant
    ((s.finishedList (s.job i).tenant).filter (· ≠ ⟨i, (s.job i).generation⟩)) with hu
  have hl : Lawful u := Laws.setFinishedList h _ _
  have hc := canonical_setJob hl.canonical i (Job.freeAt (s.job i).generation)
  have jobsSound := (Table.wf_iff_sound _ _).1 hc.2.2.1
  have only := onlyJob_setJob u i (Job.freeAt (s.job i).generation)
  have own : (u.setJob i (Job.freeAt (s.job i).generation)).job i = Job.freeAt (s.job i).generation := by simp
  have accounts : SameAccounts u (u.setJob i (Job.freeAt (s.job i).generation)) := .of_accounts rfl
  have tenants : SameTenants u (u.setJob i (Job.freeAt (s.job i).generation)) := .of_tenants rfl
  refine hl.of_idleJob hc only hrel (by rw [own]; rfl) rfl rfl rfl rfl (fun _ => rfl) ?_ ?_ ?_ ?_
  · exact hl.session.of_unheldJob (.of_sessions rfl) only held
  · refine hl.window.of_jobs accounts.toSameHolders tenants fun x hx => ?_
    rw [State.job_setJob] at hx ⊢
    split
    · next e => rw [if_pos e] at hx; exact absurd rfl hx
    · next e => rw [if_neg e] at hx; exact ⟨hx, rfl, rfl⟩
  · refine hl.live.of_job hl.jobsSound jobsSound accounts.liveJobs only fun o => ?_
    rw [own, liveOf_free]
    have e : u.job i = s.job i := rfl
    simp [liveOf, e, hlive]
  · refine hl.share.of_job hl.jobsSound jobsSound tenants.share only fun m => ?_
    rw [own, inUseOf_free]
    exact Nat.zero_le _

/-- R46: a FREE entry becomes a HELD job, of an account in use and a tenant that has room. -/
theorem Laws.heldJob {e : Job} (h : Lawful s) (free : (s.job i).state = .free) (held : e.state = .held) (tenant : e.tenant < 4)
    (owns : (s.tenant e.tenant).owns e.owner = true) (owner : (s.account e.owner).state ≠ .free)
    (few : (s.account e.owner).liveJobs < 8)
    (room : Table.total (inUseOf e.tenant) s.jt.jobs < (s.tenant e.tenant).share) : Lawful (raiseLive e.owner (s.setJob i e)) := by
  set u := raiseLive e.owner (s.setJob i e) with hu
  have hc : Canonical u := canonical_setAccount (canonical_setJob h.canonical _ _) _ _
  have jobsSound := (Table.wf_iff_sound _ _).1 hc.2.2.1
  have job : ∀ x, u.job x = if x = i then e else s.job x := fun x => by simp [hu, raiseLive, State.job_setJob]
  have account : ∀ o, u.account o = if o = e.owner then
      { s.account o with liveJobs := (s.account o).liveJobs + 1 } else s.account o := fun o => by
    simp only [hu, raiseLive, State.account_setAccount]
    split
    · next e' => subst e'; rfl
    · rfl
  have only : OnlyJob i s u := fun x hx => by rw [job, if_neg hx]
  have own : u.job i = e := by rw [job, if_pos rfl]
  have tenants : SameTenants s u := .of_tenants rfl
  have holders : SameHolders s u := by
    have raised : SameHolders (s.setJob i e) u := .of_raiseLive _ owner
    exact ⟨raised.free, raised.freeValues, raised.badge⟩
  refine h.of_idleJob hc only (by rw [free]; rfl) (by rw [own, held]; rfl) rfl rfl rfl rfl (fun o => ?_) ?_ ?_ (fun o => ?_)
    ⟨fun m hm => ?_, h.share.2⟩
  · rw [account]; split <;> rfl
  · exact h.session.of_unheldJob (.of_sessions rfl) only (by rw [free]; decide)
  · obtain ⟨w1, w2, w3, w4, w5⟩ := h.window
    refine ⟨holders.freeValues w1, ?_, w3, fun x hx => w4 x (fun hf => hx ((holders.free x).2 hf)), fun x hx => ?_⟩
    · simpa only [holders.badge] using w2
    · rw [job] at hx ⊢
      rw [ne_eq, holders.free]
      split
      · exact ⟨tenant, owns, owner⟩
      · next e' => rw [if_neg e'] at hx; exact w5 x hx
  · have differ := jobTotal_differ h.jobsSound jobsSound only (liveOf o) (liveOf o) (by simp) (by simp) (fun _ _ _ => rfl)
    obtain ⟨hsum, hmax⟩ := h.live o
    have live : JobState.held.live = true := rfl
    have dead : JobState.free.live = false := rfl
    simp only [liveOf, own, held, free, live, dead, Bool.true_and, Bool.false_and, beq_iff_eq, Bool.false_eq_true, if_false] at differ
    rw [account]
    by_cases e' : o = e.owner
    · subst e'
      simp only [if_true] at differ ⊢
      omega
    · have e'' : ¬e.owner = o := fun h => e' h.symm
      simp only [e', e'', if_false] at differ ⊢
      omega
  · have differ := jobTotal_differ h.jobsSound jobsSound only (inUseOf m) (inUseOf m) (by simp) (by simp) (fun _ _ _ => rfl)
    have before := h.share.1 m hm
    rw [tenants.share]
    by_cases e' : m = e.tenant
    · subst e'
      have le : inUseOf e.tenant i (u.job i) ≤ 1 := by unfold inUseOf; split <;> omega
      omega
    · have none : inUseOf m i (u.job i) = 0 := by
        have e'' : ¬e.tenant = m := fun h => e' h.symm
        simp [inUseOf, own, e'']
      omega

/-! ### Sessions -/

/-- A change of the sessions alone. -/
theorem Laws.of_sessions (h : Lawful s) (hc : Canonical t) (hau : t.au = s.au) (hjt : t.jt = s.jt) (hft : t.ft = s.ft)
    (hse : t.se = s.se) (hsu : t.su = s.su) (session : SessionLaw t) : Lawful t := by
  have lanesSound := (Table.wf_iff_sound _ _).1 hc.2.2.2.2.2.2.1
  have jobs : SameJobs s t := .of_jobs (by rw [hjt])
  have printers : SamePrinters s t := .of_printers (by rw [hft])
  exact h.of_parts hc jobs printers (.of_accounts (by rw [hau])) (.of_tenants (by rw [hau]))
    (h.stock.congr h.lanesSound lanesSound printers.enrolled (.of_lanes (by rw [hse])) (.of_types (by rw [hsu]))) session
    (h.committed.congr (.of_lanes (by rw [hse])) printers.queue jobs.needs)

theorem Laws.endSession (h : Lawful s) (n : Nat) : Lawful (endSession n s) := by
  have stood : ∀ m x, (Machine.endSession n s).session m = some x → s.session m = some x := fun m x hx => by
    rw [Machine.endSession, State.session_setSession] at hx
    split at hx
    · cases hx
    · exact hx
  obtain ⟨h1, h2, h3⟩ := h.session
  exact h.of_sessions (canonical_setSession h.canonical _ _) rfl rfl rfl rfl rfl
    ⟨fun m m' x y hx hy => h1 m m' x y (stood m x hx) (stood m' y hy), fun m x k hx => h2 m x k (stood m x hx),
      fun m x hx => h3 m x (stood m x hx)⟩

theorem session_endSession (n : Nat) (s : State) (m : Nat) :
    (Machine.endSession n s).session m = if m = n then none else s.session m := by
  rw [Machine.endSession, State.session_setSession]

theorem Laws.closeSession (h : Lawful s) (n : Nat) (r : CloseReason) : Lawful (closeSession n r s) :=
  (issue_calm n _ _).lawful (h.endSession n)

theorem session_closeSession (n : Nat) (r : CloseReason) (s : State) (m : Nat) :
    (Machine.closeSession n r s).session m = if m = n then none else s.session m := by
  rw [← session_endSession]
  unfold State.session Machine.closeSession
  rw [(issue_calm n _ _).sessions]

end

end Sys2Proof.Machine

/-! The panel (chapter 4): sessions opened and closed, offers withdrawn, jobs released. -/

namespace Sys2Proof.Machine

section
variable {s t : State} {i n : Nat}

/-! ### Sessions closed (R64, R72) -/

/-- Sessions closed one by one leave the others open. -/
theorem closeSessions_lawful (r : CloseReason) (l : List Nat) (h : Lawful s) :
    Lawful (l.foldl (fun s m => closeSession m r s) s) ∧
      ∀ m, (l.foldl (fun s m => closeSession m r s) s).session m = if m ∈ l then none else s.session m := by
  induction l generalizing s with
  | nil => exact ⟨h, fun m => by simp⟩
  | cons a l ih =>
    obtain ⟨h1, h2⟩ := ih (h.closeSession a r)
    refine ⟨h1, fun m => ?_⟩
    rw [List.foldl_cons, h2, session_closeSession]
    by_cases e : m = a
    · simp [e]
    · simp [e]

/-- R72: no session of the account is left open. -/
theorem closeAccountSession_lawful (o : Nat) (h : Lawful s) : Lawful (closeAccountSession o s) ∧
    ∀ m x, (closeAccountSession o s).session m = some x → s.session m = some x ∧ x.account ≠ o := by
  obtain ⟨h1, h2⟩ := closeSessions_lawful .account (sessionsOf s o) h
  refine ⟨h1, fun m x hx => ?_⟩
  rw [closeAccountSession, h2] at hx
  split at hx
  · cases hx
  · next off => exact ⟨hx, fun e => off ((mem_sessionsOf s o m h.canonical.2.2.2.2.1).2 ⟨x, hx, e⟩)⟩

theorem clearTheWay_eq (n o : Nat) (s : State) : clearTheWay n o s =
    endSession n (((sessionsOf s o).filter (fun m => m ≠ n)).foldl (fun s m => closeSession m .replaced s) s) := by
  unfold clearTheWay
  rw [List.foldl_filter]
  simp only [ne_eq, decide_not, Bool.not_eq_true', decide_eq_false_iff_not, ite_not]

/-- R64: neither this printer nor the account has a session left. -/
theorem clearTheWay_lawful (n o : Nat) (h : Lawful s) : Lawful (clearTheWay n o s) ∧
    (∀ m x, (clearTheWay n o s).session m = some x → m ≠ n ∧ x.account ≠ o) := by
  rw [clearTheWay_eq]
  obtain ⟨h1, h2⟩ := closeSessions_lawful .replaced ((sessionsOf s o).filter (fun m => m ≠ n)) h
  refine ⟨h1.endSession n, fun m x hx => ?_⟩
  rw [session_endSession] at hx
  split at hx
  · cases hx
  · next hm =>
    rw [h2] at hx
    split at hx
    · cases hx
    · next off =>
      refine ⟨hm, fun e => off (List.mem_filter.2 ⟨?_, by simpa using hm⟩)⟩
      exact (mem_sessionsOf s o m h.canonical.2.2.2.2.1).2 ⟨x, hx, e⟩

/-! ### The offer list (R65) -/

theorem insertBySubmit_perm (e : Nat × Job) (l : List (Nat × Job)) : (insertBySubmit e l).Perm (e :: l) := by
  induction l with
  | nil => exact .refl _
  | cons x l ih =>
    unfold insertBySubmit
    split
    · exact .refl _
    · exact (ih.cons x).trans (.swap e x l)

theorem bySubmit_perm (l : List (Nat × Job)) : (bySubmit l).Perm l := by
  have step : ∀ acc : List (Nat × Job), (l.foldl (fun acc e => insertBySubmit e acc) acc).Perm (l ++ acc) := by
    induction l with
    | nil => exact fun acc => .refl _
    | cons e l ih =>
      intro acc
      exact ((ih _).trans ((insertBySubmit_perm e acc).append_left l)).trans List.perm_middle
  simpa [bySubmit] using step []

/-- R65: every job offered is HELD and the account's own. -/
theorem mem_offerList (h : Canonical s) {o : Nat} {k : Handle} (hk : k ∈ offerList s n o) :
    (s.job k.index).state = .held ∧ (s.job k.index).generation = k.generation ∧ (s.job k.index).owner = o := by
  obtain ⟨e, he, rfl⟩ := List.mem_map.1 hk
  obtain ⟨hin, hoff⟩ := List.mem_filter.1 ((bySubmit_perm _).mem_iff.1 he)
  have read : s.job e.1 = e.2 := Table.get_of_mem (Job.freeAt 0) e.1 e.2 s.jt.jobs ((Table.wf_iff_sound _ _).1 h.2.2.1) hin
  simp only [offered, Bool.and_eq_true, beq_iff_eq] at hoff
  obtain ⟨⟨⟨⟨hs, ho⟩, -⟩, -⟩, -⟩ := hoff
  dsimp only
  rw [read]
  exact ⟨hs, rfl, ho⟩

theorem offerList_nodup (h : Canonical s) (n o : Nat) : (offerList s n o).Nodup := by
  unfold offerList
  have numbers := Table.numbers_nodup (Job.freeAt 0) s.jt.jobs ((Table.wf_iff_sound _ _).1 h.2.2.1)
  have listed : ((s.jt.jobs.filter (fun e => offered s n o e.2)).map Prod.fst).Nodup :=
    numbers.sublist (List.filter_sublist.map _)
  have sorted : ((bySubmit (s.jt.jobs.filter (fun e => offered s n o e.2))).map Prod.fst).Nodup :=
    ((bySubmit_perm _).map _).nodup_iff.2 listed
  refine List.Nodup.of_map Handle.index ?_
  rwa [List.map_map]

/-- R67: a session opened where neither the printer nor the account has one, its offers HELD jobs of the account. -/
theorem SessionLaw.opened {x₀ : Session} (h : SessionLaw s) (clear : ∀ m x, s.session m = some x → m ≠ n ∧ x.account ≠ x₀.account)
    (offers : ∀ k ∈ x₀.offers ++ x₀.withdrawn, (s.job k.index).state = .held ∧ (s.job k.index).generation = k.generation ∧
      (s.job k.index).owner = x₀.account) (nodup : (x₀.offers ++ x₀.withdrawn).Nodup) :
    SessionLaw (s.setSession n (some x₀)) := by
  obtain ⟨h1, h2, h3⟩ := h
  have read : ∀ m x, (s.setSession n (some x₀)).session m = some x → (m = n ∧ x = x₀) ∨ (m ≠ n ∧ s.session m = some x) := by
    intro m x hx
    rw [State.session_setSession] at hx
    split at hx
    · next e => cases hx; exact .inl ⟨e, rfl⟩
    · next e => exact .inr ⟨e, hx⟩
  refine ⟨fun m m' x y hx hy e => ?_, fun m x k hx hk => ?_, fun m x hx => ?_⟩
  · rcases read m x hx with ⟨rfl, rfl⟩ | ⟨-, hx'⟩ <;> rcases read m' y hy with ⟨rfl, rfl⟩ | ⟨-, hy'⟩
    · rfl
    · exact absurd e.symm (clear m' y hy').2
    · exact absurd e (clear m x hx').2
    · exact h1 m m' x y hx' hy' e
  · rcases read m x hx with ⟨rfl, rfl⟩ | ⟨-, hx'⟩
    · exact offers k hk
    · exact h2 m x k hx' hk
  · rcases read m x hx with ⟨rfl, rfl⟩ | ⟨-, hx'⟩
    · exact nodup
    · exact h3 m x hx'

/-- R65, R66: a session is opened where neither the printer nor the account has one. -/
theorem openSession_lawful (n o : Nat) (h : Lawful s) (clear : ∀ m x, s.session m = some x → m ≠ n ∧ x.account ≠ o) :
    Lawful (openSession n o s) := by
  unfold openSession
  dsimp only
  refine (issue_calm n _ _).lawful (h.of_sessions (canonical_setSession h.canonical _ _) rfl rfl rfl rfl rfl
    (h.session.opened clear (fun k hk => ?_) ?_))
  · rw [List.append_nil] at hk
    exact mem_offerList h.canonical hk
  · rw [List.append_nil]
    exact offerList_nodup h.canonical _ o

theorem takeBadge_lawful (n b : Nat) (h : Lawful s) : Lawful (takeBadge n b s) := by
  unfold takeBadge
  split
  · exact (issue_calm n _ s).lawful h
  · obtain ⟨h1, h2⟩ := clearTheWay_lawful n _ h
    exact openSession_lawful n _ h1 h2

/-- R69: offers withdrawn stay listed. -/
theorem withdrawOffers_lawful (m : Nat) (h : Lawful s) : Lawful (withdrawOffers m s) := by
  have sound := (Table.wf_iff_sound _ _).1 h.canonical.2.2.2.2.1
  have hc : Canonical (withdrawOffers m s) := by
    obtain ⟨h1, h2, h3, h4, h5, h6⟩ := h.canonical
    refine ⟨h1, h2, h3, h4, ?_, h6⟩
    unfold withdrawOffers
    dsimp only
    exact Table.wf_mapAll _ _ _ h5
  have read : ∀ p x, (withdrawOffers m s).session p = some x → ∃ y, s.session p = some y ∧ x.account = y.account ∧
      (x.offers ++ x.withdrawn).Perm (y.offers ++ y.withdrawn) := by
    intro p x hx
    unfold withdrawOffers State.session at hx
    dsimp only at hx
    rw [Table.get_mapAll none _ p rfl _ sound] at hx
    obtain ⟨y, hy, rfl⟩ := Option.map_eq_some_iff.1 hx
    refine ⟨y, hy, ?_, ?_⟩
    · split <;> rfl
    · split
      · simpa using List.perm_append_comm
      · exact .refl _
  obtain ⟨h1, h2, h3⟩ := h.session
  refine h.of_sessions hc rfl rfl rfl rfl rfl ⟨fun p q x y hx hy e => ?_, fun p x k hx hk => ?_, fun p x hx => ?_⟩
  · obtain ⟨x', hx', ex, -⟩ := read p x hx
    obtain ⟨y', hy', ey, -⟩ := read q y hy
    exact h1 p q x' y' hx' hy' (by rw [← ex, ← ey, e])
  · obtain ⟨x', hx', ex, perm⟩ := read p x hx
    rw [ex]
    exact h2 p x' k hx' (perm.mem_iff.1 hk)
  · obtain ⟨x', hx', -, perm⟩ := read p x hx
    exact perm.nodup_iff.2 (h3 p x' hx')

/-! ### Release (R79) -/

/-- R79, steps 1 to 5: the job reserved for, its needs added, its entry QUEUED, at the tail of the queue, in no list. -/
def queuedUp (n : Nat) (k : Handle) (s : State) : State :=
  let j := s.job k.index
  let needs := jobNeeds s n j
  let u := addNeeds n needs (reserveBoth j.owner j.pages s)
  let u := { u with ru := { u.ru with grantCounter := nextNumber s.ru.grantCounter } }
  joinQueue n k (removeFromLists k (u.setJob k.index (releasedJob j n s.ru.grantCounter needs)))

theorem release_eq (n : Nat) (k : Handle) (s : State) : release n k s = promotionCheck n (queuedUp n k s) := rfl

/-- What a release changes, table by table. -/
theorem queuedUp_frame (n : Nat) (k : Handle) (h : Canonical s) :
    (queuedUp n k s).au = (reserveBoth (s.job k.index).owner (s.job k.index).pages s).au ∧
    (queuedUp n k s).su = s.su ∧
    (∀ x, (queuedUp n k s).job x = if x = k.index then
      releasedJob (s.job k.index) n s.ru.grantCounter (jobNeeds s n (s.job k.index)) else s.job x) ∧
    (∀ m, (queuedUp n k s).session m = (s.session m).map (Session.without k)) ∧
    (∀ m, (queuedUp n k s).printer m =
      if m = n then { s.printer n with queue := (s.printer n).queue ++ [k] } else s.printer m) ∧
    (∀ m l, (queuedUp n k s).lane m l = (s.lane m l).map (fun x => if m = n then
      { x with committed := x.committed + (jobNeeds s n (s.job k.index)).get l } else x)) ∧
    Canonical (queuedUp n k s) := by
  have paid := reserveBoth_adjusted (s.job k.index).owner (s.job k.index).pages s
  set u := reserveBoth (s.job k.index).owner (s.job k.index).pages s with hu
  set needs := jobNeeds s n (s.job k.index) with hneeds
  set e := releasedJob (s.job k.index) n s.ru.grantCounter needs with he
  have hc : Canonical (addNeeds n needs u) := canonical_changeAll n needs _ (paid.canonical h)
  have shape : queuedUp n k s = joinQueue n k (removeFromLists k
      ({ addNeeds n needs u with ru := { (addNeeds n needs u).ru with grantCounter := nextNumber s.ru.grantCounter } }.setJob
        k.index e)) := rfl
  set v := { addNeeds n needs u with ru := { (addNeeds n needs u).ru with grantCounter := nextNumber s.ru.grantCounter } }
    with hv
  have hcv : Canonical v := hc
  have hcw := canonical_setJob hcv k.index e
  have added := addNeeds_frame n needs u
  rw [shape]
  refine ⟨?_, ?_, fun x => ?_, fun m => ?_, fun m => ?_, fun m l => ?_, ?_⟩
  · simp [joinQueue, hv]
  · simp [joinQueue, hv, paid.su]
  · have jt : v.jt = s.jt := by simp [hv, paid.jt]
    simp [joinQueue, job_congr (removeFromLists_frame _ _).2.2.1, State.job_setJob, job_congr jt]
  · have sessions : v.ru.sessions = s.ru.sessions := by simp [hv, paid.ru]
    have listed := session_removeFromLists k hcw m
    simpa [joinQueue, State.session, sessions] using listed
  · have ft : (removeFromLists k (v.setJob k.index e)).ft = s.ft := by simp [hv, paid.ft]
    rw [joinQueue, State.printer_setPrinter, printer_congr ft, printer_congr ft]
  · have lanes : (joinQueue n k (removeFromLists k (v.setJob k.index e))).lane m l = (addNeeds n needs u).lane m l := by
      simp [joinQueue, State.lane, hv]
    rw [lanes, lane_addNeeds, lane_congr paid.se]
  · exact canonical_setPrinter (canonical_removeFromLists k hcw) _ _

/-- What the nine checks leave: the printer takes jobs and has room. -/
structure Takes (n : Nat) (s : State) : Prop where
  admin : (s.printer n).admin ≠ .outOfService
  room : (s.printer n).queue.length < 4

/-- R79, step 1: what the account's reserved pages gain is what the job's entry now records. -/
theorem ReservedLaw.of_released {k : Handle} {u : State} {grant : Nat} {needs : PerLane Nat} (h : Lawful s)
    (jobsSound : Table.Sound (Job.freeAt 0) t.jt.jobs) (only : OnlyJob k.index s t)
    (idle : (s.job k.index).state.released = false) (own : t.job k.index = releasedJob (s.job k.index) n grant needs)
    (paid : Adjusted (s.job k.index).owner (fun c x => x + (s.job k.index).pages.get c) s u)
    (account : ∀ o, t.account o = u.account o) : ReservedLaw ∅ t := by
  intro o c
  have differ := jobTotal_differ h.jobsSound jobsSound only (reservationOf ∅ c o) (reservationOf ∅ c o) (by simp) (by simp)
    (fun _ _ _ => rfl)
  have before := h.reserved o c
  have was : reservationOf ∅ c o k.index (s.job k.index) = 0 := by simp [reservationOf, reservedPages, idle]
  have is : reservationOf ∅ c o k.index (t.job k.index) =
      if (s.job k.index).owner = o then (s.job k.index).pages.get c else 0 := by
    simp [own, reservationOf, reservedPages, releasedJob, recordedPages, JobState.released]
  rw [account]
  by_cases e : o = (s.job k.index).owner
  · subst e
    rw [if_pos rfl] at is
    rw [paid.reserved]
    omega
  · rw [if_neg (fun h => e h.symm)] at is
    rw [paid.others o e]
    omega

/-- R79: a HELD job released at a printer that takes it. -/
theorem queuedUp_lawful {n : Nat} {k : Handle} (h : Lawful s) (hs : (s.job k.index).state = .held)
    (hg : (s.job k.index).generation = k.generation) (takes : Takes n s) : Lawful (queuedUp n k s) := by
  obtain ⟨fau, fsu, fjob, fsession, fprinter, flane, hc⟩ := queuedUp_frame n k h.canonical
  have paid := reserveBoth_adjusted (s.job k.index).owner (s.job k.index).pages s
  set u := reserveBoth (s.job k.index).owner (s.job k.index).pages s
  set t := queuedUp n k s
  have accountsSound := (Table.wf_iff_sound _ _).1 hc.1
  have jobsSound := (Table.wf_iff_sound _ _).1 hc.2.2.1
  have lanesSound := (Table.wf_iff_sound _ _).1 hc.2.2.2.2.2.2.1
  have paidSound := (Table.wf_iff_sound _ _).1 (paid.canonical h.canonical).1
  have only : OnlyJob k.index s t := fun x hx => by rw [fjob, if_neg hx]
  have own : t.job k.index = releasedJob (s.job k.index) n s.ru.grantCounter (jobNeeds s n (s.job k.index)) := by
    rw [fjob, if_pos rfl]
  have idle : (s.job k.index).state.released = false := by rw [hs]; rfl
  have enrolled : ∀ m, (t.printer m).enrolled = (s.printer m).enrolled := fun m => by
    rw [fprinter]; split <;> simp [*]
  have admin : ∀ m, (t.printer m).admin = (s.printer m).admin := fun m => by
    rw [fprinter]; split <;> simp [*]
  have queue : ∀ m, (t.printer m).queue = if m = n then (s.printer n).queue ++ [k] else (s.printer m).queue := fun m => by
    rw [fprinter]; split <;> rfl
  have account : ∀ o, t.account o = u.account o := account_congr fau
  have tenant : ∀ m, t.tenant m = u.tenant m := tenant_congr fau
  have accounts : SameAccounts u t := .of_accounts (by rw [fau])
  have tenants : SameTenants u t := .of_tenants (by rw [fau])
  obtain ⟨-, -, -, -, hjobs⟩ := id h.window
  have owner := (hjobs k.index (by rw [hs]; decide)).2.2
  have linear : ∀ (c : PageClass) (x : Nat), (s.account (s.job k.index).owner).reserved.get c ≤ x →
      x + (s.job k.index).pages.get c + (s.account (s.job k.index).owner).reserved.get c =
        x + ((s.account (s.job k.index).owner).reserved.get c + (s.job k.index).pages.get c) := fun c x _ => by omega
  exact {
    canonical := hc
    stock := h.stock.congr h.lanesSound lanesSound enrolled
      (fun m l => by
        rw [flane, Option.map_map]
        congr 1
        funext x
        simp only [Function.comp]
        split <;> rfl) (.of_types (by rw [fsu]))
    dispatch := h.dispatch.of_joinedQueue rfl enrolled admin queue only idle (by rw [own]; rfl) (by rw [own]; exact hg)
      (by rw [own]; rfl) takes.room takes.admin
    session := h.session.of_removedJob fsession only hg
    committed := h.committed.of_joinedQueue h.dispatch rfl queue
      (fun m l => by
        rw [flane, Option.map_map]
        congr 1
        funext x
        simp only [Function.comp, recordedNeed, own, releasedJob, Option.map_some, Option.getD_some]
        split <;> rfl) only idle
    window := (paid.windowLaw h.window owner).of_jobs accounts.toSameHolders tenants (fun x hx => by
      rw [job_congr paid.jt]
      by_cases e : x = k.index
      · subst e; rw [own, hs]; exact ⟨by decide, rfl, rfl⟩
      · rw [only x e] at hx ⊢; exact ⟨hx, rfl, rfl⟩)
    reserved := ReservedLaw.of_released h jobsSound only idle own paid account
    tenantSum := (paid.tenantSum h.window h.tenantSum h.accountsSound paidSound linear).congr paidSound accountsSound
      accounts.reserved tenants
    live := h.live.of_job h.jobsSound jobsSound (fun o => by rw [account, paid.sameLive]) only
      (fun o => by simp [liveOf, own, hs, releasedJob, JobState.live])
    share := h.share.of_job h.jobsSound jobsSound (fun m => by rw [tenant, paid.share]) only
      (fun m => by simp [inUseOf, own, hs, releasedJob]) }

theorem release_lawful {n : Nat} {k : Handle} (h : Lawful s) (hs : (s.job k.index).state = .held)
    (hg : (s.job k.index).generation = k.generation) (takes : Takes n s) : Lawful (release n k s) := by
  rw [release_eq]
  exact (promotionCheck_calm n _).lawful (queuedUp_lawful h hs hg takes)

/-- R74 to R78: what a job that passes the nine checks has been found to be. -/
theorem selectCheck_eq_none {x : Session} {k : Handle} (h : selectCheck s n x k = none) :
    k ∈ x.offers ++ x.withdrawn ∧ Takes n s := by
  unfold selectCheck at h
  cases ho : offerCheck s x k with
  | some r => simp [ho] at h
  | none =>
    rw [ho] at h
    simp only [offerCheck] at ho
    split at ho
    · simp at ho
    · next listed =>
      refine ⟨List.mem_append.2 (not_not.1 listed), ?_⟩
      simp only [releaseCheck] at h
      split at h
      · simp at h
      · next admin =>
        simp only [ne_eq, not_or, not_not] at admin
        split at h
        · simp at h
        · split at h
          · simp at h
          · split at h
            · simp at h
            · next room =>
              exact ⟨by rw [admin.1]; decide, by simpa [Config.dispatchDepth] using room⟩

theorem takeChoice_lawful (n : Nat) (k : Handle) (h : Lawful s) : Lawful (takeChoice n k s).1 := by
  unfold takeChoice
  split
  · exact h
  · next x hx =>
    split
    · exact h
    · next passed =>
      obtain ⟨listed, takes⟩ := selectCheck_eq_none passed
      obtain ⟨hs, hg, -⟩ := h.session.2.1 n x k hx listed
      exact release_lawful h hs hg takes

theorem takeChoices_lawful (n : Nat) (l : List Handle) (h : Lawful s) : Lawful (takeChoices n l s).1 := by
  induction l generalizing s with
  | nil => exact h
  | cons k l ih => exact ih (takeChoice_lawful n k h)

theorem takeSelect_lawful (n : Nat) (c : Choice) (h : Lawful s) : Lawful (takeSelect n c s) := by
  unfold takeSelect
  split
  · exact (issue_calm n _ s).lawful h
  · exact Laws.endSession ((issue_calm n _ _).lawful (takeChoices_lawful n _ h)) n

end

end Sys2Proof.Machine

/-! Account, tenant and job requests (chapters 1 to 3) keep the laws. -/

namespace Sys2Proof.Machine

section
variable {s t : State} {i n : Nat}

theorem Lawful.foldl {α : Type} {f : State → α → State} (step : ∀ a x, Lawful a → Lawful (f a x)) (l : List α)
    (h : Lawful s) : Lawful (l.foldl f s) :=
  foldl_keeps f (fun a b => Lawful a → Lawful b) (fun _ => id) (fun _ _ _ h1 h2 h0 => h2 (h1 h0)) step l s h

/-- A change of what no law reads. -/
theorem Lawful.of_tables (h : Lawful s) (hc : Canonical s → Canonical t) (hau : t.au = s.au) (hj : t.jt = s.jt)
    (hs : t.ru.sessions = s.ru.sessions) (hp : t.ft.printers = s.ft.printers) (hl : t.se.lanes = s.se.lanes)
    (ht : t.su.types = s.su.types) : Lawful t :=
  (Calm.of_tables hc hau hj hs hp hl ht).lawful h

/-! ### Who may ask (R4, R45, R52) -/

section
variable {p : PortName} {ok : Bool}

theorem tenant_lt {m : Nat} (h : p.tenant = some m) : m < 4 := by cases p <;> simp [PortName.tenant] at h <;> omega

theorem asTenant_lawful {act : Nat → State × Answer} (h : Lawful s) (hact : ∀ m, p.tenant = some m → Lawful (act m).1) :
    Lawful (asTenant p act s).1 := by
  unfold asTenant
  split
  · next m hm => exact hact m hm
  · exact h

theorem onJob_lawful {k : Handle} {act : Job → State × Answer} (h : Lawful s)
    (hact : (s.job k.index).generation = k.generation → Lawful (act (s.job k.index)).1) : Lawful (onJob p k act s).1 := by
  refine asTenant_lawful h fun m _ => ?_
  split
  · exact h
  · next j hj =>
    simp only [resolve, Option.ite_none_right_eq_some, Option.some.injEq] at hj
    obtain ⟨⟨-, -, hg, -⟩, rfl⟩ := hj
    exact hact hg

theorem onAccount_lawful {suits : AccountState → Bool} {act : Account → State × Answer} (h : Lawful s)
    (hact : (s.account i).state ≠ .free → Lawful (act (s.account i)).1) : Lawful (onAccount p i ok suits act s).1 := by
  unfold onAccount
  split
  · exact h
  · split
    · exact h
    · next stands =>
      refine hact fun hf => ?_
      simp [accountStands, hf] at stands

theorem onTenant_lawful {m : Nat} {act : Nat → State × Answer} (h : Lawful s) (hact : ∀ m, Lawful (act m).1) :
    Lawful (onTenant p m act s).1 := by
  unfold onTenant
  split
  · exact hact _
  · split
    · exact hact _
    · exact h

theorem onPrinter_lawful {act : Printer → State × Answer} (h : Lawful s)
    (hact : (s.printer n).enrolled = true → Lawful (act (s.printer n)).1) : Lawful (onPrinter n ok act s).1 := by
  unfold onPrinter
  split
  · exact h
  · split
    · exact h
    · next he => exact hact (by simpa using he)

theorem onLane_lawful {l : Lane} {act : LaneRecord → State × Answer} (h : Lawful s)
    (hact : ∀ x, s.lane n l = some x → Lawful (act x).1) : Lawful (onLane n l ok act s).1 := by
  refine onPrinter_lawful h fun _ => ?_
  split
  · exact h
  · next x hx => exact hact x hx

theorem onOrder_lawful {number : Nat} {act : Order → State × Answer} (h : Lawful s) (hact : ∀ o, Lawful (act o).1) :
    Lawful (onOrder number ok act s).1 := by
  unfold onOrder
  split
  · exact h
  · split
    · exact h
    · exact hact _

end

/-! ### Accounts (R5 to R11) -/

theorem PerClass.eq_of_get {α : Type} {p q : PerClass α} (h : ∀ c, p.get c = q.get c) : p = q := by
  obtain ⟨pm, pc⟩ := p
  obtain ⟨qm, qc⟩ := q
  have m := h .mono
  have c := h .colour
  simp only [PerClass.get] at m c
  rw [m, c]

/-- An account's record replaced: its reserved pages and live jobs stand, and the windows and badges allow it. -/
theorem Laws.setAccount {a : Account} (h : Lawful s) (reserved : ∀ c, a.reserved.get c = (s.account i).reserved.get c)
    (live : a.liveJobs = (s.account i).liveJobs) (freed : a.state = .free → a = Account.free)
    (badge : ∀ b j, a.badge = some b → (s.account j).badge = some b → j = i)
    (owned : a.state ≠ .free → ∃ n, n < 4 ∧ (s.tenant n).owns i = true)
    (named : a.state = .free → ∀ x, (s.job x).state ≠ .free → (s.job x).owner ≠ i) : Lawful (s.setAccount i a) := by
  have hc := canonical_setAccount h.canonical i a
  have accountsSound := (Table.wf_iff_sound _ _).1 hc.1
  have jobs : SameJobs s (s.setAccount i a) := .of_jobs rfl
  have tenants : SameTenants s (s.setAccount i a) := .of_tenants rfl
  have printers : SamePrinters s (s.setAccount i a) := .of_printers rfl
  have account : ∀ x, (s.setAccount i a).account x = if x = i then a else s.account x := fun x => State.account_setAccount ..
  have sameReserved : ∀ x, ((s.setAccount i a).account x).reserved = (s.account x).reserved := fun x => by
    rw [account]
    split
    · next e => subst e; exact PerClass.eq_of_get reserved
    · rfl
  have sameLive : ∀ x, ((s.setAccount i a).account x).liveJobs = (s.account x).liveJobs := fun x => by
    rw [account]
    split
    · next e => subst e; exact live
    · rfl
  obtain ⟨w1, w2, w3, w4, w5⟩ := h.window
  exact {
    canonical := hc
    stock := h.stock
    dispatch := h.dispatch
    session := h.session
    committed := h.committed
    window := by
      refine ⟨fun x hx => ?_, fun x y b hx hy => ?_, w3, fun x hx => ?_, fun x hx => ?_⟩
      · rw [account] at hx ⊢
        split
        · next e => rw [if_pos e] at hx; exact freed hx
        · next e => rw [if_neg e] at hx; exact w1 x hx
      · rw [account] at hx hy
        split at hx <;> split at hy
        · next ex ey => rw [ex, ey]
        · next ex _ => rw [ex]; exact (badge b y hx hy).symm
        · next _ ey => rw [ey]; exact badge b x hy hx
        · exact w2 x y b hx hy
      · rw [account] at hx
        split at hx
        · next e => subst e; exact owned hx
        · exact w4 x hx
      · obtain ⟨h1, h2, h3⟩ := w5 x hx
        refine ⟨h1, h2, ?_⟩
        rw [account]
        split
        · next e => exact fun hf => named hf x hx e
        · exact h3
    reserved := h.reserved.congr h.jobsSound h.jobsSound sameReserved jobs
    tenantSum := h.tenantSum.congr h.accountsSound accountsSound sameReserved tenants
    live := h.live.congr h.jobsSound h.jobsSound sameLive jobs
    share := h.share }

/-- A non-FREE account's record replaced, its badge kept. -/
theorem Laws.setAccount_inUse {a : Account} (h : Lawful s) (inUse : (s.account i).state ≠ .free) (state : a.state ≠ .free)
    (reserved : a.reserved = (s.account i).reserved) (live : a.liveJobs = (s.account i).liveJobs)
    (badge : a.badge = (s.account i).badge ∨ a.badge = none) : Lawful (s.setAccount i a) := by
  obtain ⟨-, w2, -, w4, -⟩ := id h.window
  refine h.setAccount (fun c => by rw [reserved]) live (fun hf => absurd hf state) (fun b j hb hj => ?_) (fun _ => w4 i inUse)
    (fun hf => absurd hf state)
  rcases badge with e | e
  · exact w2 j i b hj (e ▸ hb)
  · rw [e] at hb; cases hb

theorem badge_unused {b j : Nat} (h : Lawful s) (unheld : badgeHeldByOther s i b = false) (hj : (s.account j).badge = some b) :
    j = i := by
  by_contra ne
  have inUse : (s.account j).state ≠ .free := by
    intro hf
    rw [h.window.1 j hf] at hj
    cases hj
  have held := (badgeHeldByOther_iff s i b h.canonical).2 ⟨j, ne, inUse, hj⟩
  rw [unheld] at held
  cases held

theorem openAccount_lawful {p : PortName} {m : Nat} (hp : p.tenant = some m) (badge : Option Nat)
    (limits : PerClass Limits) (h : Lawful s) : Lawful (openAccount p i badge limits s).1 := by
  unfold openAccount
  split
  · exact h
  · next reach =>
    split
    · exact h
    · next free =>
      split
      · exact h
      · next unheld =>
        have free : s.account i = Account.free := h.window.1 i (not_not.1 free)
        have owns : (s.tenant m).owns i = true := by
          simp only [accountReach, hp] at reach
          split at reach
          · cases reach
          · by_contra no
            simp [no] at reach
        refine h.setAccount (fun c => ?_) ?_ (fun hf => ?_) (fun b j hb hj => ?_) (fun _ => ⟨m, tenant_lt hp, owns⟩) (fun hf => ?_)
        · rw [free]; rfl
        · rw [free]; rfl
        · cases hf
        · obtain rfl : badge = some b := hb
          exact badge_unused h (by simpa using unheld) hj
        · cases hf

theorem closeSessions_noNewJobs (r : CloseReason) (l : List Nat) (s : State) (x : Nat)
    (hx : ((l.foldl (fun s m => closeSession m r s) s).job x).state ≠ .free) :
    (s.job x).state ≠ .free ∧ (s.job x).owner = ((l.foldl (fun s m => closeSession m r s) s).job x).owner := by
  induction l generalizing s with
  | nil => exact ⟨hx, rfl⟩
  | cons a l ih =>
    obtain ⟨h1, h2⟩ := ih (closeSession a r s) hx
    have still := (issue_calm a (.sessionClose r) (endSession a s)).toStill
    obtain ⟨-, ho, -, -⟩ := still.names x
    refine ⟨fun hf => h1 ?_, ?_⟩
    · have e : (issue a (.sessionClose r) (endSession a s)).job x = s.job x :=
        still.jobs x (by rw [show (endSession a s).job x = s.job x from rfl, hf]; decide)
      exact (congrArg Job.state e).trans hf
    · exact ho.symm.trans h2

/-- R10: an account that no entry names is closed, its session first. -/
theorem closeAccount_lawful (h : Lawful s) (unnamed : namedByJob s i = false) :
    Lawful ((closeAccountSession i s).setAccount i Account.free) := by
  have closed := (closeAccountSession_lawful i h).1
  set u := closeAccountSession i s with hu
  have none : ∀ x, (u.job x).state ≠ .free → (u.job x).owner ≠ i := fun x hx e => by
    obtain ⟨h1, h2⟩ := closeSessions_noNewJobs .account (sessionsOf s i) s x hx
    have named := (namedByJob_iff s i h.canonical).2 ⟨x, h1, h2.trans e⟩
    rw [unnamed] at named
    cases named
  have zero : ∀ f : Nat → Job → Nat, (∀ x, f x (u.job x) = 0) → Table.total f u.jt.jobs = 0 := fun f hf =>
    Table.total_eq_zero (Job.freeAt 0) f u.jt.jobs closed.jobsSound hf
  refine closed.setAccount (fun c => ?_) ?_ (fun _ => rfl) (fun b j hb => by cases hb) (fun hf => absurd rfl hf) (fun _ => none)
  · rw [closed.reserved i c, zero]
    · cases c <;> rfl
    · intro x
      by_cases hf : (u.job x).state = .free
      · simp [reservationOf, reservedPages, hf, JobState.released]
      · simp [reservationOf, none x hf]
  · rw [(closed.live i).1, zero]
    · rfl
    · intro x
      by_cases hf : (u.job x).state = .free
      · simp [liveOf, hf, JobState.live]
      · simp [liveOf, none x hf]

/-! ### Tenants and periods (R15, R16, R25 to R36) -/

/-- A tenant's record replaced: its window, reserved pages and share stand. -/
theorem Laws.setTenant_same {x : Tenant} (h : Lawful s) (window : x.window = (s.tenant n).window)
    (reserved : x.reserved = (s.tenant n).reserved) (share : x.share = (s.tenant n).share) : Lawful (s.setTenant n x) :=
  h.congr (canonical_setTenant h.canonical n x)
    ⟨.of_jobs rfl, .of_printers rfl, .of_lanes rfl, .of_lanes rfl, .of_types rfl, .of_sessions rfl, .of_accounts rfl,
      by constructor <;> intro m <;> rw [State.tenant_setTenant] <;> split <;> simp [*]⟩

theorem windowsMeet_of_both {a b : Window} {x : Nat} (ha : windowHolds a x = true) (hb : windowHolds b x = true) :
    windowsMeet a b = true := by
  simp only [windowHolds, windowsMeet, Bool.and_eq_true, decide_eq_true_eq] at ha hb ⊢
  omega

/-- R45, step 8: the entries in use are the ones that are counted. -/
theorem entriesInUse_eq_total (s : State) (n : Nat) : entriesInUse s n = Table.total (inUseOf n) s.jt.jobs := by
  rw [entriesInUse, Table.length_filter_eq_total]
  congr 1
  funext i j
  simp [inUseOf]

/-- What ASSIGN_TENANT may give tenant n: no entry of the tenant is in use, the window meets no other and keeps the accounts. -/
structure Assignable (n : Nat) (w : Option Window) (share : Nat) (s : State) : Prop where
  lt : n < 4
  idle : ∀ x, (s.job x).state ≠ .free → (s.job x).tenant ≠ n
  apart : ∀ m x, m < 4 → m ≠ n → w.any (fun w => windowHolds w x) = true → (s.tenant m).owns x = false
  keeps : ∀ x, (s.account x).state ≠ .free → (s.tenant n).owns x = true → w.any (fun w => windowHolds w x) = true
  shares : share + otherShares s n ≤ 256

theorem idle_of_entriesInUse (h : Canonical s) (none : entriesInUse s n = 0) (x : Nat) (hx : (s.job x).state ≠ .free) :
    (s.job x).tenant ≠ n := by
  intro e
  rw [entriesInUse_eq_total] at none
  have le := Table.le_total (Job.freeAt 0) (inUseOf n) s.jt.jobs ((Table.wf_iff_sound _ _).1 h.2.2.1) (by simp) x
  rw [← State.job, none] at le
  simp [inUseOf, hx, e] at le

theorem apart_of_overlapsOther {w : Option Window} (none : overlapsOther s n w = false) {m x : Nat} (hm : m < 4) (hmn : m ≠ n)
    (hw : w.any (fun w => windowHolds w x) = true) : (s.tenant m).owns x = false := by
  rw [overlapsOther, List.any_eq_false] at none
  have meet := none m ((mem_otherTenants n m).2 ⟨hm, hmn⟩)
  obtain ⟨a, rfl, ha⟩ := (Option.any_eq_true _ _).1 hw
  by_contra owns
  obtain ⟨b, hb, hbx⟩ := (Option.any_eq_true _ _).1 (by simpa [Tenant.owns] using owns)
  rw [hb] at meet
  exact meet (windowsMeet_of_both ha hbx)

theorem keeps_of_keepsAccounts {w : Option Window} (keeps : keepsAccounts s n w = true) {x : Nat}
    (hx : (s.account x).state ≠ .free) (owns : (s.tenant n).owns x = true) : w.any (fun w => windowHolds w x) = true := by
  have listed : (x, s.account x) ∈ s.au.accounts := Table.mem_of_get_ne Account.free x s.au.accounts fun e => by
    rw [← State.account] at e
    rw [e] at hx
    exact hx rfl
  have kept := List.all_eq_true.1 keeps _ listed
  simpa [hx, owns] using kept

/-- R15: what the six checks leave. -/
theorem assignCheck_eq_none {w : Option Window} {share : Nat} (h : Lawful s) (ok : assignCheck s n w share = none) :
    Assignable n w share s := by
  unfold assignCheck at ok
  split at ok
  · cases ok
  next range =>
  split at ok
  · cases ok
  split at ok
  · cases ok
  next idle =>
  split at ok
  · cases ok
  next apart =>
  split at ok
  · cases ok
  next keeps =>
  split at ok
  · cases ok
  next shares =>
  exact {
    lt := (not_not.1 range).1
    idle := idle_of_entriesInUse h.canonical (not_not.1 idle)
    apart := fun m x hm hmn hw => apart_of_overlapsOther (by simpa using apart) hm hmn hw
    keeps := fun x hx owns => keeps_of_keepsAccounts (not_not.1 keeps) hx owns
    shares := not_lt.1 shares }

/-- An account that no entry in use names holds no reserved pages. -/
theorem reserved_eq_zero (h : Lawful s) {o : Nat} (unnamed : ∀ x, (s.job x).state ≠ .free → (s.job x).owner ≠ o) (c : PageClass) :
    (s.account o).reserved.get c = 0 := by
  rw [h.reserved o c]
  refine Table.total_eq_zero (Job.freeAt 0) _ s.jt.jobs h.jobsSound fun x => ?_
  rw [← State.job]
  by_cases hf : (s.job x).state = .free
  · simp [reservationOf, reservedPages, hf, JobState.released]
  · simp [reservationOf, unnamed x hf]

/-- R15: the record ASSIGN_TENANT gives tenant n. -/
def assigned (n : Nat) (w : Option Window) (share : Nat) (groups : GroupSet) (s : State) : State :=
  s.setTenant n { s.tenant n with window := w, share := share, groups := groups }

section
variable {w : Option Window} {share : Nat} {groups : GroupSet}

theorem tenant_assigned (m : Nat) : (assigned n w share groups s).tenant m =
    if m = n then { s.tenant n with window := w, share := share, groups := groups } else s.tenant m :=
  State.tenant_setTenant ..

theorem owns_assigned (m x : Nat) : ((assigned n w share groups s).tenant m).owns x =
    if m = n then w.any (fun w => windowHolds w x) else (s.tenant m).owns x := by
  rw [tenant_assigned]
  split <;> rfl

theorem Assignable.windowLaw (a : Assignable n w share s) (h : Lawful s) : WindowLaw (assigned n w share groups s) := by
  obtain ⟨w1, w2, w3, w4, w5⟩ := id h.window
  refine ⟨w1, w2, fun m m' x hm hm' hx hx' => ?_, fun x hx => ?_, fun x hx => ?_⟩
  · rw [owns_assigned] at hx hx'
    split at hx <;> split at hx'
    · next e e' => rw [e, e']
    · next e e' => rw [a.apart m' x hm' e' hx] at hx'; cases hx'
    · next e e' => rw [a.apart m x hm e hx'] at hx; cases hx
    · exact w3 m m' x hm hm' hx hx'
  · obtain ⟨m, hm, own⟩ := w4 x hx
    refine ⟨m, hm, ?_⟩
    rw [owns_assigned]
    split
    · next e => exact a.keeps x hx (e ▸ own)
    · exact own
  · obtain ⟨h1, h2, h3⟩ := w5 x hx
    refine ⟨h1, ?_, h3⟩
    rw [owns_assigned, if_neg (show ¬((assigned n w share groups s).job x).tenant = n from a.idle x hx)]
    exact h2

/-- No account of the tenant holds pages, for no entry of the tenant is in use. -/
theorem Assignable.unreserved (a : Assignable n w share s) (h : Lawful s) {x : Nat} (own : (s.tenant n).owns x = true)
    (c : PageClass) : (s.account x).reserved.get c = 0 := by
  obtain ⟨-, -, w3, -, w5⟩ := id h.window
  refine reserved_eq_zero h (fun y hy e => ?_) c
  obtain ⟨lt, owner, -⟩ := w5 y hy
  rw [e] at owner
  exact a.idle y hy (w3 _ _ x lt a.lt owner own)

/-- An account inside the new window is FREE or was the tenant's before: it holds no pages. -/
theorem Assignable.unreserved_inside (a : Assignable n w share s) (h : Lawful s) {x : Nat}
    (inside : w.any (fun w => windowHolds w x) = true) (c : PageClass) : (s.account x).reserved.get c = 0 := by
  obtain ⟨w1, -, -, w4, -⟩ := id h.window
  by_cases hf : (s.account x).state = .free
  · rw [w1 x hf]
    cases c <;> rfl
  · obtain ⟨m, hm, own⟩ := w4 x hf
    by_cases e : m = n
    · exact a.unreserved h (e ▸ own) c
    · rw [a.apart m x hm e inside] at own
      cases own

theorem Assignable.tenantSumLaw (a : Assignable n w share s) (h : Lawful s) : TenantSumLaw (assigned n w share groups s) := by
  intro m c hm
  have sum := h.tenantSum m c hm
  rw [tenant_assigned]
  split
  · next e =>
    subst e
    have before : Table.total (heldFor (s.tenant m) c) s.au.accounts = 0 :=
      Table.total_eq_zero Account.free _ _ h.accountsSound fun x => by
        rw [← State.account, heldFor]
        split
        · next own => exact a.unreserved h own c
        · rfl
    have after : Table.total (heldFor { s.tenant m with window := w, share := share, groups := groups } c) s.au.accounts = 0 :=
      Table.total_eq_zero Account.free _ _ h.accountsSound fun x => by
        rw [← State.account, heldFor]
        split
        · next own => exact a.unreserved_inside h own c
        · rfl
    rw [before] at sum
    exact sum.trans after.symm
  · exact sum

theorem Assignable.shareLaw (a : Assignable n w share s) (h : Lawful s) : ShareLaw (assigned n w share groups s) := by
  obtain ⟨few, -⟩ := h.share
  refine ⟨fun m hm => ?_, ?_⟩
  · rw [tenant_assigned]
    split
    · next e =>
      have none : Table.total (inUseOf m) s.jt.jobs = 0 :=
        Table.total_eq_zero (Job.freeAt 0) _ _ h.jobsSound fun x => by
          rw [← State.job]
          by_cases hf : (s.job x).state = .free
          · simp [inUseOf, hf]
          · simp [inUseOf, e, a.idle x hf]
      exact none ▸ Nat.zero_le _
    · exact few m hm
  · have sum := a.shares
    have lt := a.lt
    simp only [tenant_assigned]
    have cases : n = 0 ∨ n = 1 ∨ n = 2 ∨ n = 3 := by omega
    rcases cases with rfl | rfl | rfl | rfl
    all_goals
      simp [otherShares, otherTenants, Config.tenants, List.range_succ] at sum ⊢
      omega

/-- R15: a tenant with no entry in use takes another window and share. -/
theorem assigned_lawful (h : Lawful s) (a : Assignable n w share s) : Lawful (assigned n w share groups s) where
  canonical := canonical_setTenant h.canonical n _
  stock := h.stock
  dispatch := h.dispatch
  session := h.session
  committed := h.committed
  window := a.windowLaw h
  reserved := h.reserved
  tenantSum := a.tenantSumLaw h
  live := h.live
  share := a.shareLaw h

end

theorem rollAccounts_lawful (n : Nat) (h : Lawful s) : Lawful (rollAccounts n s) := by
  have account : ∀ x, (rollAccounts n s).account x =
      if (s.tenant n).owns x ∧ (s.account x).state ≠ .free then rolledAccount (s.account x) else s.account x := fun x => by
    unfold rollAccounts State.account
    exact Table.get_mapAll Account.free
      (fun i a => if (s.tenant n).owns i ∧ a.state ≠ .free then rolledAccount a else a) x (by simp [Account.free]) _ h.accountsSound
  have hc : Canonical (rollAccounts n s) := by
    obtain ⟨h1, h2⟩ := h.canonical
    refine ⟨?_, h2⟩
    unfold rollAccounts
    dsimp only
    exact Table.wf_mapAll _ _ _ h1
  have state : ∀ x, ((rollAccounts n s).account x).state = (s.account x).state := fun x => by rw [account]; split <;> rfl
  refine h.congr hc ⟨.of_jobs rfl, .of_printers rfl, .of_lanes rfl, .of_lanes rfl, .of_types rfl, .of_sessions rfl, ?_,
    .of_tenants rfl⟩
  refine ⟨⟨fun x => by rw [state], fun hv x hx => ?_, fun x => ?_⟩, fun x => ?_, fun x => ?_⟩
  · rw [state] at hx
    rw [account, if_neg fun c => c.2 hx]
    exact hv x hx
  all_goals rw [account]; split <;> rfl

theorem rollover_lawful (n : Nat) (h : Lawful s) : Lawful (rollover n s) := by
  unfold rollover
  refine Laws.raiseTenant (Laws.setTenant_same (rollAccounts_lawful n h) ?_ ?_ ?_) _ _
  all_goals rfl

theorem reloadTimer_lawful (n : Nat) (h : Lawful s) : Lawful (reloadTimer n s) := by
  unfold reloadTimer
  refine h.setTenant_same ?_ ?_ ?_
  all_goals rfl

/-! ### Jobs (R45 to R58) -/

/-- R45: what the checks of a SUBMIT leave. -/
structure Submittable (n : Nat) (j : Submission) (s : State) : Prop where
  owns : (s.tenant n).owns j.owner = true
  owner : (s.account j.owner).state ≠ .free
  few : (s.account j.owner).liveJobs < 8
  room : entriesInUse s n < (s.tenant n).share

theorem submitCheck_eq_none {j : Submission} (ok : submitCheck s n j = none) : Submittable n j s := by
  unfold submitCheck at ok
  split at ok
  · cases ok
  split at ok
  · cases ok
  split at ok
  · cases ok
  next owns =>
  split at ok
  · cases ok
  next owner =>
  split at ok
  · cases ok
  split at ok
  · cases ok
  split at ok
  · cases ok
  next few =>
  split at ok
  · cases ok
  next room =>
  exact ⟨not_not.1 owns, owner, not_le.1 few, not_le.1 room⟩

theorem takeSubmission_lawful (j : Submission) (h : Lawful s) (hn : n < 4) (ok : Submittable n j s) :
    Lawful (takeSubmission n j s).1 := by
  unfold takeSubmission
  split
  · next i t hi ht =>
    have free : (s.job i).state = .free := by simpa using List.find?_some hi
    exact Laws.heldJob (e := submittedJob s n j (s.job i) t) h free rfl hn ok.owns ok.owner ok.few
      (by rw [← entriesInUse_eq_total]; exact ok.room)
  · exact h

theorem cancelJob_lawful {k : Handle} (h : Lawful s) (hg : (s.job k.index).generation = k.generation) :
    Lawful (cancelJob k (s.job k.index) s).1 := by
  unfold cancelJob
  split
  · next hs => exact h.endHeld hs rfl _
  · next hs =>
    obtain ⟨m, hm, -⟩ := h.dispatch.2.2.1 k.index (by rw [hs]; rfl)
    exact cancelQueued_lawful h hs hg (by rw [hm]; rfl)
  · next hs => exact cancelActive_lawful _ h hs
  all_goals exact h

theorem takeJobExpiry_lawful (h : Lawful s) : Lawful (takeJobExpiry s) := by
  unfold takeJobExpiry
  split
  · refine Lawful.foldl (fun a i ha => ?_) _ (h.of_tables id rfl rfl rfl rfl rfl rfl)
    split
    · next due =>
      simp only [jobDue, Bool.and_eq_true, beq_iff_eq] at due
      exact ha.endHeld due.1 rfl _
    · exact ha
  · exact h

end

end Sys2Proof.Machine

/-! Fleet, lane and stock requests and reports (chapters 5 to 7) keep the laws. -/

namespace Sys2Proof.Machine

section
variable {s t : State} {n : Nat} {l : Lane}

/-! ### A printer's record (R84, R87, R88) -/

/-- A printer's record replaced, its queue kept: the admin state suits the queue, and one not enrolled has no lane. -/
theorem Laws.setPrinter {p : Printer} (h : Lawful s) (queue : p.queue = (s.printer n).queue)
    (idle : p.admin = .outOfService → p.queue = []) (unenrolled : p.enrolled = false → p.admin = .outOfService)
    (bare : p.enrolled = false → ∀ l, s.lane n l = none) : Lawful (s.setPrinter n p) := by
  have printer : ∀ m, (s.setPrinter n p).printer m = if m = n then p else s.printer m := fun m => State.printer_setPrinter ..
  have sameQueue : ∀ m, ((s.setPrinter n p).printer m).queue = (s.printer m).queue := fun m => by
    rw [printer]
    split
    · next e => subst e; exact queue
    · rfl
  obtain ⟨d1, d2, d3, d4, d5, d6⟩ := h.dispatch
  obtain ⟨k1, k2, k3, k4, k5⟩ := h.stock
  exact {
    canonical := canonical_setPrinter h.canonical n p
    stock := ⟨k1, k2, k3, k4, fun m l hm => by
      rw [printer] at hm
      split at hm
      · next e => subst e; exact bare hm l
      · exact k5 m l hm⟩
    dispatch := by
      refine ⟨fun m => by rw [sameQueue]; exact d1 m, fun m k hk => d2 m k (by rw [← sameQueue]; exact hk), fun i hi => ?_,
        fun m k hk => d4 m k (by rw [← sameQueue]; exact hk), fun m hm => ?_, fun m hm => ?_⟩
      · obtain ⟨m, hm, hin⟩ := d3 i hi
        exact ⟨m, hm, by rw [sameQueue]; exact hin⟩
      · rw [printer] at hm ⊢
        split
        · next e => rw [if_pos e] at hm; exact idle hm
        · next e => rw [if_neg e] at hm; exact d5 m hm
      · rw [printer] at hm ⊢
        split
        · next e => rw [if_pos e] at hm; exact unenrolled hm
        · next e => rw [if_neg e] at hm; exact d6 m hm
    session := h.session
    committed := fun m l x hx => by rw [sameQueue]; exact h.committed m l x hx
    window := h.window
    reserved := h.reserved
    tenantSum := h.tenantSum
    live := h.live
    share := h.share }

/-- A printer out of service, in a lawful state: its queue is empty. -/
structure Idle (n : Nat) (s : State) : Prop where
  lawful : Lawful s
  admin : (s.printer n).admin = .outOfService

theorem Idle.queue (h : Idle n s) : (s.printer n).queue = [] := h.lawful.dispatch.2.2.2.2.1 n h.admin

theorem Idle.gentle (h : Idle n s) (v : Gentle s t) : Idle n t := ⟨v.lawful h.lawful, v.outOfService n h.admin⟩

/-- An update of no printer's admin state. -/
theorem Idle.of_ft (h : Idle n s) (ht : Lawful t) (ft : t.ft = s.ft) : Idle n t :=
  ⟨ht, by rw [printer_congr ft]; exact h.admin⟩

/-! ### Lanes made and removed (R85, R87, R107) -/

theorem hasClaim_of_none (h : s.lane n l = none) : hasClaim s n l = false := by simp [hasClaim, h]

/-- R107: a lane made at an enrolled printer whose queue is empty needs and claims nothing. -/
theorem makeLane_idle (u : Nat) (h : Idle n s) (gone : s.lane n l = none) (enrolled : (s.printer n).enrolled = true) :
    Idle n (makeLane n l u s) := by
  refine h.of_ft (h.lawful.setLane (hasClaim_of_none gone) (fun y hy => ?_) (fun _ => enrolled) (fun y hy => ?_)) rfl
  · cases hy; exact ⟨rfl, rfl⟩
  · cases hy; simp [Committed, h.queue, newLane]

theorem lane_makeLane (n : Nat) (l : Lane) (u : Nat) (s : State) (m : Nat) (l' : Lane) (off : ¬(m = n ∧ l' = l)) :
    (makeLane n l u s).lane m l' = s.lane m l' := by
  rw [makeLane, State.lane_setLane, if_neg off]

theorem removeUnclaimed_idle (h : Idle n s) (free : hasClaim s n l = false) : Idle n (s.setLane n l none) := by
  refine h.of_ft (h.lawful.setLane free (fun y hy => ?_) (fun some => absurd rfl some) (fun y hy => ?_)) rfl
  · cases hy
  · cases hy

/-- R127: no claim is left where one was given back. -/
theorem hasClaim_returnClaim (h : Lawful s) (n : Nat) (l : Lane) : hasClaim (returnClaim n l s) n l = false := by
  cases hx : s.lane n l with
  | none =>
    refine hasClaim_of_none ?_
    have stands := (returnClaim_gentle n l s).lanes n l
    rw [hx] at stands
    simpa using stands
  | some x =>
    have back := lane_returnClaim (g := ∅) (by simp) h hx
    exact (hasClaim_eq_false back).2 ⟨rfl, rfl⟩

theorem removeLane_idle (h : Idle n s) (l : Lane) : Idle n (removeLane n l s) :=
  removeUnclaimed_idle (h.gentle (returnClaim_gentle n l s)) (hasClaim_returnClaim h.lawful n l)

theorem removeLane_lanes (n : Nat) (l l' : Lane) (s : State) :
    (removeLane n l s).lane n l' = none ↔ l' = l ∨ s.lane n l' = none := by
  have stands := (returnClaim_gentle n l s).lanes n l'
  have same : (returnClaim n l s).lane n l' = none ↔ s.lane n l' = none := by
    rw [← Option.not_isSome_iff_eq_none, stands, Option.not_isSome_iff_eq_none]
  rw [removeLane, State.lane_setLane]
  by_cases e : l' = l
  · simp [e]
  · simp [e, same]

theorem removeLanes_idle (h : Idle n s) : Idle n (removeLanes n s) ∧ ∀ l, (removeLanes n s).lane n l = none := by
  unfold removeLanes
  simp only [Lane.all, List.foldl_cons, List.foldl_nil, removeLane_lanes]
  refine ⟨removeLane_idle (removeLane_idle (removeLane_idle (removeLane_idle h _) _) _) _, fun l => ?_⟩
  cases l <;> simp

theorem hasClaim_calm (v : Calm s t) (n : Nat) (l : Lane) : hasClaim t n l = hasClaim s n l := by
  have claims := v.claims n l
  unfold hasClaim
  cases hs : s.lane n l <;> cases ht : t.lane n l <;> simp_all [LaneRecord.claim]

theorem retireLane_idle (h : Idle n s) (l : Lane) : Idle n (retireLane n l s) := by
  unfold retireLane
  split
  · exact h
  · have back := h.gentle (returnClaim_gentle n l s)
    have free := hasClaim_returnClaim h.lawful n l
    dsimp only
    refine removeUnclaimed_idle ?_ ?_
    · have dropped := back.gentle (dropItem_calm n .supply (.lane l) _).toGentle
      split
      · exact dropped.gentle (setSupplyOut_calm n l _ _).toGentle
      · exact dropped
    · have dropped := hasClaim_calm (dropItem_calm n .supply (.lane l) (returnClaim n l s)) n l
      split
      · rw [hasClaim_calm (setSupplyOut_calm n l _ _), dropped]; exact free
      · rw [dropped]; exact free

theorem enrolled_retireLane (n : Nat) (l : Lane) (s : State) (m : Nat) :
    ((retireLane n l s).printer m).enrolled = (s.printer m).enrolled := by
  unfold retireLane
  split
  · rfl
  · dsimp only
    have back := (returnClaim_gentle n l s).trans (dropItem_calm n .supply (.lane l) _).toGentle
    split
    · exact (back.trans (setSupplyOut_calm n l _ _).toGentle).enrolled m
    · exact back.enrolled m

/-! ### ENROL and UNENROLL (R84 to R87) -/

/-- An enrolled printer out of service. -/
structure Parked (n : Nat) (s : State) : Prop extends Idle n s where
  enrolled : (s.printer n).enrolled = true

theorem Parked.gentle (h : Parked n s) (v : Gentle s t) : Parked n t :=
  ⟨h.toIdle.gentle v, by rw [v.enrolled]; exact h.enrolled⟩

theorem makeLanes_idle (e : Enrolment) (h : Parked n s) (bare : ∀ l, s.lane n l = none) : Idle n (makeLanes n e s) := by
  have step : ∀ (ls : List Lane) (s : State), ls.Nodup → Parked n s → (∀ l ∈ ls, s.lane n l = none) →
      Idle n (ls.foldl (fun s l => match e.types.get l with | some t => makeLane n l t s | none => s) s) := by
    intro ls
    induction ls with
    | nil => exact fun s _ h _ => h.toIdle
    | cons l ls ih =>
      intro s nodup h gone
      obtain ⟨off, nodup⟩ := List.nodup_cons.1 nodup
      rw [List.foldl_cons]
      split
      · next u _ =>
        refine ih _ nodup ⟨makeLane_idle u h.toIdle (gone l (by simp)) h.enrolled, h.enrolled⟩ fun l' hl' => ?_
        rw [lane_makeLane n l u s n l' (by rintro ⟨-, rfl⟩; exact off hl')]
        exact gone l' (by simp [hl'])
      · exact ih _ nodup h fun l' hl' => gone l' (by simp [hl'])
  exact step Lane.all s (by decide) h fun l _ => bare l

theorem enrolNew_lawful (e : Enrolment) (h : Lawful s) (new : (s.printer n).enrolled = false) : Lawful (enrolNew n e s) := by
  have bare : ∀ l, s.lane n l = none := fun l => h.stock.2.2.2.2 n l new
  have idle : Idle n s := ⟨h, h.dispatch.2.2.2.2.2 n new⟩
  have recorded : Lawful (s.setPrinter n (enrolledPrinter e)) :=
    h.setPrinter (by rw [idle.queue]; rfl) (fun _ => rfl) (fun hf => by cases hf) (fun hf => by cases hf)
  have parked : Parked n (s.setPrinter n (enrolledPrinter e)) :=
    ⟨⟨recorded, by simp [enrolledPrinter, Printer.cold]⟩, by simp [enrolledPrinter]⟩
  exact (makeLanes_idle e (parked.gentle (setStray_calm n none _).toGentle) bare).lawful

theorem reshapeLane_parked (e : Enrolment) (l : Lane) (h : Parked n s) : Parked n (reshapeLane n e l s) := by
  unfold reshapeLane
  split
  · exact ⟨retireLane_idle h.toIdle l, by rw [enrolled_retireLane]; exact h.enrolled⟩
  · next gone _ => exact ⟨makeLane_idle _ h.toIdle gone h.enrolled, h.enrolled⟩
  · exact h

theorem retypeKept_gentle (n : Nat) (e : Enrolment) (l : Lane) (s : State) : Gentle s (retypeKept n e l s) := by
  unfold retypeKept
  split
  · exact changeLaneType_gentle n l _ s
  · exact .refl s

theorem reenrol_lawful (e : Enrolment) (h : Parked n s) : Lawful (reenrol n e s) := by
  unfold reenrol
  dsimp only
  refine (compareCapabilities_calm n _).lawful ?_
  have described : Calm s (s.setPrinter n { s.printer n with floor := e.floor, group := e.group, colour := e.colour }) :=
    setPrinter_calm (.of_setPrinter rfl rfl rfl)
  have reshaped := foldl_keeps (fun s l => reshapeLane n e l s) (fun a b => Parked n a → Parked n b) (fun _ => id)
    (fun _ _ _ h1 h2 h0 => h2 (h1 h0)) (fun _ l => reshapeLane_parked e l) Lane.all _ (h.gentle described.toGentle)
  have retyped := reshaped.gentle (Gentle.foldl (fun a l => retypeKept_gentle n e l a) Lane.all _)
  refine retyped.lawful.setPrinter_same (SamePrinters.of_setPrinter ?_ ?_ ?_)
  all_goals rfl

theorem dropCallouts_calm (n : Nat) (s : State) : Calm s (dropCallouts n s) := by
  unfold dropCallouts
  dsimp only
  refine Calm.trans ?_ (serveDeferrals_calm _)
  exact ((setCallouts_calm _ s).trans (setDeferrals_calm _ _)).trans (setHistory_calm n 0 _)

theorem closePrinterSession_idle (h : Idle n s) : Idle n (closePrinterSession n s) := by
  unfold closePrinterSession
  split
  · exact (h.of_ft (h.lawful.endSession n) rfl).gentle (issue_calm n _ _).toGentle
  · exact h

theorem clearPrinter_lawful (h : Idle n s) (bare : ∀ l, s.lane n l = none) : Lawful (clearPrinter n s) := by
  refine (Calm.foldl (fun a k => setGrace_calm n k _ a) _ _).lawful ?_
  exact h.lawful.setPrinter (by rw [h.queue]; rfl) (fun _ => rfl) (fun _ => rfl) (fun _ => bare)

theorem unenroll_lawful (h : Idle n s) :
    Lawful (clearPrinter n (removeLanes n (dropCallouts n (closePrinterSession n s)))) := by
  have dropped := (closePrinterSession_idle h).gentle (dropCallouts_calm n _).toGentle
  obtain ⟨idle, bare⟩ := removeLanes_idle dropped
  exact clearPrinter_lawful idle bare

/-! ### Admin states, HELLO, STATUS (R88, R92, R104) -/

theorem changeAdmin_lawful (a : AdminState) (h : Lawful s) (enrolled : (s.printer n).enrolled = true)
    (idle : a = .outOfService → (s.printer n).queue = []) : Lawful (changeAdmin n a s) := by
  unfold changeAdmin
  dsimp only
  refine (drainingTest_calm n _).lawful ((promotionCheck_calm n _).lawful ?_)
  have moved : Lawful (s.setPrinter n { s.printer n with admin := a }) :=
    h.setAdmin idle (fun hf => by rw [enrolled] at hf; cases hf)
  split
  · exact (serviceRaise_calm n _ _).lawful moved
  · exact moved

theorem takeHello_lawful (n : Nat) (c : Capabilities) (h : Lawful s) : Lawful (takeHello n c s) := by
  have greeted : Calm s (greet n c s) := by
    unfold greet
    exact setPrinter_calm (.of_setPrinter rfl rfl rfl)
  have cleared : ∀ a, Calm a (clearMeter n a) := fun a => by
    unfold clearMeter
    exact setPrinter_calm (.of_setPrinter rfl rfl rfl)
  have told := (greeted.trans (compareCapabilities_calm n _)).trans (cleared _)
  exact (promotionCheck_calm n _).lawful (loseHead_lawful n (told.lawful h))

theorem takeWalkup_lawful (n : Nat) (h : Lawful s) : Lawful (takeWalkup n s) := by
  unfold takeWalkup
  dsimp only
  split
  · refine Laws.setPrinter_same ((deduct_gentle n _ _ _ s).lawful h) (SamePrinters.of_setPrinter ?_ ?_ ?_)
    all_goals rfl
  · exact h

theorem takeStatus_lawful (n meter : Nat) (h : Lawful s) : Lawful (takeStatus n meter s) := by
  unfold takeStatus
  dsimp only
  split
  · refine h.setPrinter_same (SamePrinters.of_setPrinter ?_ ?_ ?_)
    all_goals rfl
  · split
    · refine Laws.setPrinter_same ((addCondition_calm n _ s).lawful h) (SamePrinters.of_setPrinter ?_ ?_ ?_)
      all_goals rfl
    · refine takeWalkup_lawful n (h.setPrinter_same (SamePrinters.of_setPrinter ?_ ?_ ?_))
      all_goals rfl

/-! ### Types and orders (R125, R134 to R136) -/

theorem recomputeType_gentle (u : Nat) (s : State) : Gentle s (recomputeType u s) :=
  Gentle.foldl (fun a (w : LaneName) => (capEstimate_calm w.printer w.lane a).toGentle.trans (recompute_gentle w.printer w.lane _)) _ s

theorem applyType_gentle (u : Nat) (c : TypeChanges) (s : State) : Gentle s (applyType u c s) := by
  unfold applyType
  dsimp only
  refine Gentle.trans ?_ (trigger_calm u _).toGentle
  have changed : Gentle s (s.setType u (changedType (s.ctype u) c)) := (setType_calm (by rfl) (by rfl) (by rfl)).toGentle
  split
  · exact changed.trans (recomputeType_gentle u _)
  · exact changed

theorem adjustStock_lawful (u x : Nat) (h : Lawful s) (ok : (s.ctype u).allocated ≤ x ∧ x ≤ 999) :
    Lawful (trigger u (serveWaiters u (s.setType u { s.ctype u with onHand := x }))) := by
  have counted : Gentle s (s.setType u { s.ctype u with onHand := x }) := setOnHand_gentle u x ok rfl rfl rfl
  exact ((counted.trans (serveWaiters_gentle u _)).trans (trigger_calm u _).toGentle).lawful h

theorem receive_lawful (o : Order) (received : Nat) (h : Lawful s) : Lawful (receive o received s) := by
  unfold receive
  dsimp only
  obtain ⟨h1, h2, -⟩ := h.stock.1 o.type
  have counted : Gentle s (s.setType o.type
      { s.ctype o.type with onHand := min Config.stockMax ((s.ctype o.type).onHand + received) }) := by
    refine setOnHand_gentle o.type _ ⟨?_, ?_⟩ rfl rfl rfl
    · simp only [Config.stockMax]; omega
    · simp only [Config.stockMax]; omega
  exact (((counted.trans (dropOrder_calm o _).toGentle).trans (serveWaiters_gentle _ _)).trans
    (serveDeferredTypes_calm _).toGentle).lawful h

theorem cancelOrder_calm (o : Order) (s : State) : Calm s (cancelOrder o s) := by
  unfold cancelOrder
  dsimp only
  refine Calm.trans ?_ (trigger_calm _ _)
  refine Calm.trans ?_ (serveDeferredTypes_calm _)
  exact (dropOrder_calm o s).trans (setType_calm (by rfl) (by rfl) (by rfl))

end

end Sys2Proof.Machine

/-! The time base's events, the expiries of the timers and the resets (chapter 11) keep the laws. -/

namespace Sys2Proof.Machine

section
variable {s t : State} {n : Nat}

/-- The work owed is read by no law. -/
theorem Lawful.owed (h : Lawful s) (o : Owed) : Lawful { s with owed := o } := h.of_tables id rfl rfl rfl rfl rfl rfl

/-- The time base is read by no law. -/
theorem Lawful.timeUnit (h : Lawful s) (u : TimeUnit) : Lawful { s with tb := u } := h.of_tables id rfl rfl rfl rfl rfl rfl

/-! ### Expiries (R26, R70, R91, R100, R145, R149) -/

theorem stepTimer_lawful (n : Nat) (h : Lawful s) : Lawful (stepTimer n s) := by
  unfold stepTimer
  dsimp only
  split
  · split
    · exact rollover_lawful n (reloadTimer_lawful n h)
    · refine h.setTenant_same ?_ ?_ ?_
      all_goals rfl
  · exact h

theorem takeUnderflow_lawful (n : Nat) (h : Lawful s) : Lawful (takeUnderflow n s) := by
  unfold takeUnderflow
  split
  · exact stepTimer_lawful n (h.owed _)
  · exact h

theorem takeGraceExpiry_lawful (h : Lawful s) : Lawful (takeGraceExpiry s) := by
  unfold takeGraceExpiry
  split
  · exact h
  · exact ((setGrace_calm _ _ _ s).trans (serviceRaise_calm _ _ _)).lawful h

theorem takeEscalation_lawful (h : Lawful s) : Lawful (takeEscalation s) := by
  unfold takeEscalation
  split
  · exact h
  · next number rest _ =>
    have owed : Lawful { s with owed := { s.owed with escalations := rest } } := h.owed _
    dsimp only
    split
    · exact owed
    · split
      · exact ((setCallouts_calm _ _).trans (raise_calm _ _ _)).lawful owed
      · exact owed

theorem takeSessionTimeout_lawful (n : Nat) (h : Lawful s) : Lawful (takeSessionTimeout n s) := by
  unfold takeSessionTimeout
  split
  · exact h.closeSession n _
  · exact h

theorem takeStallExpiry_lawful (n : Nat) (h : Lawful s) : Lawful (takeStallExpiry n s) := by
  unfold takeStallExpiry
  split
  · exact expireStall_lawful n h
  · exact h

theorem takeSilenceExpiry_lawful (n : Nat) (h : Lawful s) : Lawful (takeSilenceExpiry n s) := by
  unfold takeSilenceExpiry
  split
  · refine Calm.lawful ?_ h
    exact Calm.trans (silenceRunOut_calm n s) (setCommands_calm n [] _)
  · exact h

theorem takeTimes_lawful {f : State → State} (step : ∀ a, Lawful a → Lawful (f a)) (k : Nat) (h : Lawful s) :
    Lawful (takeTimes f k s) := by
  induction k generalizing s with
  | zero => exact h
  | succ k ih => exact ih (step s h)

theorem settleMinuteWork_lawful (h : Lawful s) : Lawful (settleMinuteWork s) := by
  unfold settleMinuteWork
  dsimp only
  refine Lawful.foldl (fun a n ha => takeStallExpiry_lawful n ha) _ ?_
  refine Lawful.foldl (fun a n ha => takeSessionTimeout_lawful n ha) _ ?_
  refine takeTimes_lawful (fun _ => takeEscalation_lawful) _ ?_
  refine takeTimes_lawful (fun _ => takeGraceExpiry_lawful) _ ?_
  exact takeJobExpiry_lawful (Lawful.foldl (fun a n ha => takeUnderflow_lawful n ha) _ h)

theorem settleSilence_lawful (h : Lawful s) : Lawful (settleSilence s) :=
  Lawful.foldl (fun _ n ha => takeSilenceExpiry_lawful n ha) _ h

/-! ### The work of a minute event and a second event (R171, R172) -/

theorem evaluatePolicy_lawful (h : Lawful s) : Lawful (evaluatePolicy s) := h.timeUnit _

theorem advanceClock_lawful (h : Lawful s) : Lawful (advanceClock s) := h.timeUnit _

theorem stepTimers_lawful (h : Lawful s) : Lawful (stepTimers s) := by
  refine Lawful.foldl (fun a n ha => ?_) _ h
  dsimp only
  split
  · split
    · exact ha.owed _
    · exact stepTimer_lawful n ha
  · exact ha

theorem lowerGrace_lawful (h : Lawful s) : Lawful (lowerGrace s) := by
  refine h.of_tables (fun hc => ?_) rfl rfl rfl rfl rfl rfl
  obtain ⟨h1, h2, h3, h4, h5, h6, h7, h8, h9, h10⟩ := hc
  refine ⟨h1, h2, h3, h4, h5, h6, h7, h8, ?_, h10⟩
  unfold lowerGrace
  dsimp only
  exact Table.wf_mapAll _ _ _ h9

theorem lowerSessions_lawful (h : Lawful s) : Lawful (lowerSessions s) := by
  have sound := (Table.wf_iff_sound _ _).1 h.canonical.2.2.2.2.1
  have session : ∀ m, (lowerSessions s).session m = (s.session m).map (fun x => { x with minutes := x.minutes - 1 }) := fun m => by
    unfold lowerSessions State.session
    exact Table.get_mapAll none (fun _ x => x.map (fun x : Session => { x with minutes := x.minutes - 1 })) m rfl _ sound
  have hc : Canonical (lowerSessions s) := by
    obtain ⟨h1, h2, h3, h4, h5, h6⟩ := h.canonical
    refine ⟨h1, h2, h3, h4, ?_, h6⟩
    unfold lowerSessions
    dsimp only
    exact Table.wf_mapAll _ _ _ h5
  refine h.of_sessions hc rfl rfl rfl rfl rfl (h.session.congr (fun m => ?_) (.of_jobs rfl))
  rw [session, Option.map_map]
  rfl

/-- Every printer's record changed in nothing that the laws read. -/
theorem Laws.mapPrinters {f : Nat → Printer → Printer} (h : Lawful s) (cold : ∀ m, f m Printer.cold = Printer.cold)
    (same : ∀ m p, (f m p).enrolled = p.enrolled ∧ (f m p).admin = p.admin ∧ (f m p).queue = p.queue) :
    Lawful { s with ft := { s.ft with printers := Table.mapAll Printer.cold f s.ft.printers } } := by
  have sound := (Table.wf_iff_sound _ _).1 h.canonical.2.2.2.2.2.1
  have hc : Canonical { s with ft := { s.ft with printers := Table.mapAll Printer.cold f s.ft.printers } } := by
    obtain ⟨h1, h2, h3, h4, h5, h6, h7⟩ := h.canonical
    exact ⟨h1, h2, h3, h4, h5, Table.wf_mapAll _ _ _ h6, h7⟩
  have printer : ∀ m, ({ s with ft := { s.ft with printers := Table.mapAll Printer.cold f s.ft.printers } } : State).printer m =
      f m (s.printer m) := fun m => Table.get_mapAll Printer.cold f m (cold m) _ sound
  refine h.congr hc ⟨.of_jobs rfl, ⟨fun m => ?_, fun m => ?_, fun m => ?_⟩, .of_lanes rfl, .of_lanes rfl, .of_types rfl,
    .of_sessions rfl, .of_accounts rfl, .of_tenants rfl⟩
  · rw [printer]; exact (same m _).1
  · rw [printer]; exact (same m _).2.1
  · rw [printer]; exact (same m _).2.2

theorem lowerStalls_lawful (h : Lawful s) : Lawful (lowerStalls s) :=
  h.mapPrinters (fun _ => rfl) (fun _ _ => ⟨rfl, rfl, rfl⟩)

theorem lowerSilence_lawful (h : Lawful s) : Lawful (lowerSilence s) := by
  refine h.mapPrinters (fun _ => rfl) (fun m p => ?_)
  split <;> exact ⟨rfl, rfl, rfl⟩

theorem oweEscalations_lawful (h : Lawful s) : Lawful (oweEscalations (fillDeadlines s)) :=
  Lawful.owed ((setCallouts_calm _ s).lawful h) _

/-- R172: the blocks' counts after the clock has moved on. -/
def stepCounts (s : State) : State :=
  let s := lowerGrace (stepTimers s)
  let s := if s.tb.clock.isSome then oweEscalations (fillDeadlines s) else s
  let s := { s with owed := { s.owed with jobExpiry := s.tb.clock.isSome } }
  lowerStalls (lowerSessions s)

theorem stepCounts_lawful (h : Lawful s) : Lawful (stepCounts s) := by
  unfold stepCounts
  dsimp only
  refine lowerStalls_lawful (lowerSessions_lawful (Lawful.owed ?_ _))
  have graces := lowerGrace_lawful (stepTimers_lawful h)
  split
  · exact oweEscalations_lawful graces
  · exact graces

theorem minuteTick_lawful (h : Lawful s) : Lawful (minuteTick s) := by
  have settled := settleMinuteWork_lawful h
  unfold minuteTick
  generalize settleMinuteWork s = u at settled ⊢
  exact stepCounts_lawful (evaluatePolicy_lawful (advanceClock_lawful (settled.owed { u.owed with minute := false })))

theorem settleMinuteEvent_lawful (h : Lawful s) : Lawful (settleMinuteEvent s) := by
  unfold settleMinuteEvent
  split
  · exact minuteTick_lawful h
  · exact h

theorem secondTick_lawful (h : Lawful s) : Lawful (secondTick s) := by
  have settled := settleMinuteEvent_lawful (settleSilence_lawful h)
  unfold secondTick
  generalize settleMinuteEvent (settleSilence s) = u at settled ⊢
  have lowered := lowerSilence_lawful settled
  dsimp only
  generalize lowerSilence u = v at lowered ⊢
  split
  · exact lowered.of_tables id rfl rfl rfl rfl rfl rfl
  · exact lowered.timeUnit _

theorem setClockTo_lawful (c : Clock) (h : Lawful s) : Lawful (setClockTo c s) :=
  evaluatePolicy_lawful (Lawful.timeUnit (settleMinuteWork_lawful (settleMinuteEvent_lawful h)) _)

/-! ### Resets (R176, R177) -/

/-- R176: no table lists a record after a cold reset. -/
theorem coldReset_lawful (c : ResetCause) (s : State) : Lawful (coldReset c s) where
  canonical := ⟨rfl, rfl, rfl, rfl, rfl, rfl, rfl, rfl, rfl, rfl, rfl, rfl⟩
  stock := ⟨fun _ => ⟨Nat.le_refl 0, Nat.zero_le _, rfl⟩, fun _ _ _ hx => (by cases hx), fun _ => List.nodup_nil,
    fun _ _ => ⟨fun hw => (by cases hw), fun ⟨_, hx, _⟩ => (by cases hx)⟩, fun _ _ _ => rfl⟩
  dispatch := ⟨fun _ => ⟨Nat.zero_le _, List.nodup_nil⟩, fun _ _ hk => (by cases hk), fun _ hi => (by cases hi),
    fun _ _ hk => (by cases hk), fun _ _ => rfl, fun _ _ => rfl⟩
  session := ⟨fun _ _ _ _ hx => (by cases hx), fun _ _ _ hx => (by cases hx), fun _ _ hx => (by cases hx)⟩
  committed := fun _ _ _ hx => by cases hx
  window := ⟨fun _ _ => rfl, fun _ _ _ hb => (by cases hb), fun _ _ _ _ _ ho => (by cases ho), fun _ hf => absurd rfl hf,
    fun _ hf => absurd rfl hf⟩
  reserved := fun _ c => by cases c <;> rfl
  tenantSum := fun _ c _ => by cases c <;> rfl
  live := fun _ => ⟨rfl, Nat.zero_le _⟩
  share := ⟨fun _ _ => Nat.zero_le _, Nat.zero_le _⟩

/-! #### A warm reset -/

theorem warmCleared_account (c : ResetCause) (h : Lawful s) (i : Nat) :
    (warmCleared c s).account i = warmAccount (s.account i) :=
  Table.get_mapAll Account.free (fun _ a => warmAccount a) i rfl _ h.accountsSound

theorem warmCleared_tenant (c : ResetCause) (h : Lawful s) (m : Nat) :
    (warmCleared c s).tenant m = warmTenant (s.tenant m) :=
  Table.get_mapAll Tenant.cold (fun _ t => warmTenant t) m rfl _ ((Table.wf_iff_sound _ _).1 h.canonical.2.1)

theorem warmCleared_printer (c : ResetCause) (h : Lawful s) (m : Nat) :
    (warmCleared c s).printer m = warmPrinter (s.printer m) :=
  Table.get_mapAll Printer.cold (fun _ p => warmPrinter p) m rfl _ ((Table.wf_iff_sound _ _).1 h.canonical.2.2.2.2.2.1)

theorem warmCleared_lane (c : ResetCause) (h : Lawful s) (m : Nat) (l : Lane) :
    (warmCleared c s).lane m l = (s.lane m l).map warmLane :=
  Table.get_mapAll none (fun _ x => x.map warmLane) _ rfl _ h.lanesSound

theorem warmCleared_canonical (c : ResetCause) (h : Canonical s) : Canonical (warmCleared c s) := by
  obtain ⟨h1, h2, -, -, -, h6, h7, h8, -⟩ := h
  have accounts := Table.wf_mapAll Account.free (fun _ a => warmAccount a) _ h1
  have tenants := Table.wf_mapAll Tenant.cold (fun _ t => warmTenant t) _ h2
  have printers := Table.wf_mapAll Printer.cold (fun _ p => warmPrinter p) _ h6
  have lanes := Table.wf_mapAll none (fun _ x => x.map warmLane) _ h7
  exact ⟨accounts, tenants, rfl, rfl, rfl, printers, lanes, h8, rfl, rfl, rfl, rfl⟩

/-- R177: claims, windows and enrolments are retained; no job, queue or session is left, and no figure counts one. -/
theorem warmCleared_lawful (c : ResetCause) (h : Lawful s) : Lawful (warmCleared c s) := by
  have account := warmCleared_account c h
  have tenant := warmCleared_tenant c h
  have printer := warmCleared_printer c h
  have lane := warmCleared_lane c h
  have hc := warmCleared_canonical c h.canonical
  have accountsSound := (Table.wf_iff_sound _ _).1 hc.1
  have lanesSound := (Table.wf_iff_sound _ _).1 hc.2.2.2.2.2.2.1
  have owns : ∀ m i, ((warmCleared c s).tenant m).owns i = (s.tenant m).owns i := fun m i => by rw [tenant]; rfl
  obtain ⟨w1, w2, w3, w4, -⟩ := h.window
  have queue : ∀ m, ((warmCleared c s).printer m).queue = [] := fun m => by rw [printer]; rfl
  exact {
    canonical := hc
    stock := h.stock.congr h.lanesSound lanesSound (fun m => by rw [printer]; rfl)
      (fun m l => by rw [lane, Option.map_map]; rfl) (.of_types rfl)
    dispatch := by
      refine ⟨fun m => ?_, fun m k hk => ?_, fun i hi => (by cases hi), fun m k hk => ?_, fun m _ => queue m, fun m hm => ?_⟩
      · rw [queue]; exact ⟨Nat.zero_le _, List.nodup_nil⟩
      · rw [queue] at hk; cases hk
      · rw [queue] at hk; cases hk
      · rw [printer] at hm ⊢
        exact h.dispatch.2.2.2.2.2 m hm
    session := ⟨fun _ _ _ _ hx => (by cases hx), fun _ _ _ hx => (by cases hx), fun _ _ hx => (by cases hx)⟩
    committed := fun m l x hx => by
      rw [lane] at hx
      obtain ⟨y, -, rfl⟩ := Option.map_eq_some_iff.1 hx
      rw [queue]
      rfl
    window := by
      refine ⟨fun i hi => ?_, fun i j b hi hj => ?_, fun m m' i hm hm' ho ho' => ?_, fun i hi => ?_, fun i hi => absurd rfl hi⟩
      · rw [account] at hi ⊢
        rw [w1 i hi]
        rfl
      · rw [account] at hi hj
        exact w2 i j b hi hj
      · rw [owns] at ho ho'
        exact w3 m m' i hm hm' ho ho'
      · rw [account] at hi
        obtain ⟨m, hm, ho⟩ := w4 i hi
        exact ⟨m, hm, by rw [owns]; exact ho⟩
    reserved := fun o d => by rw [account]; cases d <;> rfl
    tenantSum := fun m d _ => by
      have zero : Table.total (heldFor ((warmCleared c s).tenant m) d) (warmCleared c s).au.accounts = 0 :=
        Table.total_eq_zero Account.free _ _ accountsSound fun i => by
          rw [← State.account, account]
          cases d <;> simp [heldFor, warmAccount, PerClass.both, PerClass.get]
      rw [zero, tenant]
      cases d <;> rfl
    live := fun o => by rw [account]; exact ⟨rfl, Nat.zero_le _⟩
    share := by
      refine ⟨fun m _ => Nat.zero_le _, ?_⟩
      simp only [tenant]
      exact h.share.2 }

theorem warmReset_lawful (c : ResetCause) (h : Lawful s) : Lawful (warmReset c s) := by
  refine (reconcileLanes_gentle _).lawful ?_
  exact (Calm.foldl (fun a n => drainingTest_calm n a) _ _).lawful (warmCleared_lawful c h)

theorem resetLine_lawful (inside : Bool) (h : Lawful s) : Lawful (resetLine inside s) := by
  unfold resetLine
  split
  · exact coldReset_lawful _ s
  · exact warmReset_lawful _ h

theorem powerUp_lawful (supply : Bool) (h : Lawful s) : Lawful (powerUp supply s) := by
  unfold powerUp
  dsimp only
  split
  · exact warmReset_lawful _ (h.of_tables id rfl rfl rfl rfl rfl rfl)
  · exact coldReset_lawful _ _

end

end Sys2Proof.Machine

/-! Every command keeps the laws: requests, reports and events, chapter by chapter, and the step (settles O11). -/

namespace Sys2Proof.Machine

section
variable {s : State}

/-- The outcome of a command leaves a lawful state, where it leaves one. -/
def Leads (o : Host.Outcome State Fault Refusal) : Prop := ∀ t, o = .next t → Lawful t

theorem Leads.next (h : Lawful s) : Leads (.next s) := by
  rintro t e
  cases e
  exact h

/-! ### How requests, reports and events are taken -/

/-- A port's record and what is sent are read by no law. -/
theorem Lawful.setPort (h : Lawful s) (p : PortName) (r : Port) : Lawful (s.setPort p r) :=
  h.of_tables id rfl rfl rfl rfl rfl rfl

theorem Lawful.begin (h : Lawful s) : Lawful s.begin := h.of_tables id rfl rfl rfl rfl rfl rfl

theorem Lawful.sent (h : Lawful s) (l : List (PortName × PortFrame)) : Lawful { s with out := l } :=
  h.of_tables id rfl rfl rfl rfl rfl rfl

theorem Lawful.sendNotice (h : Lawful s) (p : PortName) (k : NoticeSet) : Lawful (sendNotice p k s) := by
  unfold Machine.sendNotice
  split
  · exact h
  · exact h.sent _

theorem issueAnswer_lawful (hd : Head) (r : Request) (a : Answer) (h : Lawful s) : Lawful (issueAnswer hd r a s) :=
  (h.setPort _ _).sent _

/-- R167: the owner is asked for what its port may ask. -/
theorem serve_lawful {hd : Head} {r : Request} {owner : State → State × Answer} (h : Lawful s)
    (ho : allowedOn hd.port r = true → Lawful (owner s).1) : Lawful (serve hd r owner s).1 := by
  unfold serve
  split
  · exact h
  · next ok =>
    refine ho ?_
    by_contra no
    simp only [mpcCheck] at ok
    split at ok
    · cases ok
    · split at ok
      · cases ok
      · simp at ok

theorem request_leads {hd : Head} {r : Request} {owner : State → State × Answer} (h : Lawful s)
    (ho : ∀ u, Lawful u → allowedOn hd.port r = true → Lawful (owner u).1) : Leads (request hd r owner s) := by
  refine .next ?_
  unfold takeRequest
  split
  · exact h.sent []
  · dsimp only
    have begun := h.begin
    split
    · exact begun
    · split
      · have queued := begun.setPort hd.port { s.begin.port hd.port with queue := [queuedAs hd r] }
        exact issueAnswer_lawful hd r _ (serve_lawful queued (ho _ queued))
      · split
        · exact issueAnswer_lawful hd r _ (serve_lawful begun (ho _ begun))
        · exact begun

/-- A request whose owner only answers. -/
theorem answer_leads {hd : Head} {r : Request} {owner : State → State × Answer} (h : Lawful s) (ho : ∀ u, (owner u).1 = u) :
    Leads (request hd r owner s) :=
  request_leads h fun u hu _ => by rw [ho]; exact hu

theorem takeReport_leads {l : LinkFrame} {k : ReportKind} {ok : Bool} {owner : State → State} (h : Lawful s)
    (ho : ∀ u, Lawful u → Lawful (owner u)) : Leads (.next (takeReport l k ok owner s)) := by
  refine .next ?_
  unfold takeReport
  split
  · exact h.sent []
  · dsimp only
    have begun := h.begin
    split
    · exact begun
    · split
      · exact (strayReport_calm _ _ _).lawful begun
      · split
        · exact begun
        · refine ho _ ((heard_calm _ _).lawful ?_)
          split
          · exact (setCommands_calm _ _ _).lawful begun
          · exact begun

theorem takeEvent_leads {act : State → State} (h : Lawful s) (ha : ∀ u, Lawful u → Lawful (act u)) :
    Leads (.next (takeEvent act s)) := by
  refine .next ?_
  unfold takeEvent
  split
  · exact h.sent []
  · exact ha _ h.begin

/-! ### The ports (chapter 10) -/

theorem arrive_lawful (p : PortName) (f : RequestFrame) (h : Lawful s) : Lawful (arrive p f s) := by
  unfold arrive
  dsimp only
  split
  · exact h
  · split
    · exact h.sent _
    · exact h.setPort _ _

theorem linkUp_lawful (p : PortName) (h : Lawful s) : Lawful (linkUp p s) := by
  unfold linkUp
  dsimp only
  split
  · exact h.setPort _ _
  · exact h

theorem leaveAttached_lawful (p : PortName) (h : Lawful s) : Lawful (leaveAttached p s) := by
  unfold leaveAttached
  split
  · exact Laws.raise ((detachRequeue_calm _ _).lawful (withdrawOffers_lawful _ h)) _ _
  · exact h

theorem linkLoss_lawful (p : PortName) (h : Lawful s) : Lawful (linkLoss p s) := by
  unfold linkLoss
  dsimp only
  split
  · exact leaveAttached_lawful p (h.setPort _ _)
  · exact h.setPort _ _

theorem execPortLinkUp_leads (p : PortName) (h : Lawful s) : Leads (execPortLinkUp p s) := by
  refine .next ?_
  split
  · exact linkUp_lawful p (h.sent [])
  · exact linkUp_lawful p h.begin

theorem execPortLinkLoss_leads (p : PortName) (h : Lawful s) : Leads (execPortLinkLoss p s) := by
  refine .next ?_
  split
  · exact (h.sent []).setPort _ _
  · exact linkLoss_lawful p h.begin

theorem attachPort_lawful (p : PortName) (h : Lawful s) : Lawful (attachPort p s).1 := by
  unfold attachPort
  dsimp only
  split
  · exact h
  · split
    · exact h
    · have attached := (h.setPort p { s.port p with state := .attached }).sendNotice p ((s.port p).flags &&& (s.port p).mask)
      simp only [accept]
      split
      · exact Laws.raise attached _ _
      · exact attached

theorem detachPort_lawful (p : PortName) (h : Lawful s) : Lawful (detachPort p s).1 :=
  leaveAttached_lawful p (h.setPort _ _)

theorem setMask_lawful (p : PortName) (k : NoticeSet) (h : Lawful s) : Lawful (setMask p k s).1 := by
  unfold setMask
  split
  · exact h
  · exact (h.setPort _ _).sendNotice _ _

theorem ackFlags_lawful (p : PortName) (k : NoticeSet) (h : Lawful s) : Lawful (ackFlags p k s).1 := by
  unfold ackFlags
  split
  · exact h
  · exact h.setPort _ _

/-! ### Accounts, tenants and periods (chapters 1 and 2) -/

theorem tenant_of_isTenant {p : PortName} (h : p.isTenant = true) : ∃ m, p.tenant = some m := by
  cases p <;> simp_all [PortName.isTenant, PortName.tenant]

theorem execOpenAccount_leads (hd : Head) (i : Nat) (b : Option Nat) (l : PerClass Limits) (h : Lawful s) :
    Leads (execOpenAccount hd i b l s) :=
  request_leads h fun u hu may => by
    obtain ⟨m, hm⟩ := tenant_of_isTenant may
    exact openAccount_lawful hm b l hu

theorem execSetAccount_leads (hd : Head) (i : Nat) (c : PerClass LimitChanges) (h : Lawful s) :
    Leads (execSetAccount hd i c s) :=
  request_leads h fun _ hu _ => onAccount_lawful hu fun inUse => hu.setAccount_inUse inUse inUse rfl rfl (.inl rfl)

theorem execSetBadge_leads (hd : Head) (i b : Nat) (h : Lawful s) : Leads (execSetBadge hd i b s) :=
  request_leads h fun _ hu _ => onAccount_lawful hu fun inUse => by
    split
    · exact hu
    · next unheld =>
      refine hu.setAccount (fun _ => rfl) rfl (fun hf => absurd hf inUse) (fun b' j hb hj => ?_)
        (fun _ => hu.window.2.2.2.1 i inUse) (fun hf => absurd hf inUse)
      obtain rfl : b = b' := Option.some.inj hb
      exact badge_unused hu (by simpa using unheld) hj

theorem execClearBadge_leads (hd : Head) (i : Nat) (h : Lawful s) : Leads (execClearBadge hd i s) :=
  request_leads h fun _ hu _ => onAccount_lawful hu fun inUse => hu.setAccount_inUse inUse inUse rfl rfl (.inr rfl)

theorem execSuspendAccount_leads (hd : Head) (i : Nat) (h : Lawful s) : Leads (execSuspendAccount hd i s) :=
  request_leads h fun u hu _ => onAccount_lawful hu fun inUse =>
    (closeAccountSession_lawful i
      (hu.setAccount_inUse (a := { u.account i with state := .suspended }) inUse (by simp) rfl rfl (.inl rfl))).1

theorem execResumeAccount_leads (hd : Head) (i : Nat) (h : Lawful s) : Leads (execResumeAccount hd i s) :=
  request_leads h fun u hu _ => onAccount_lawful hu fun inUse =>
    hu.setAccount_inUse (a := { u.account i with state := .active }) inUse (by simp) rfl rfl (.inl rfl)

theorem execCloseAccount_leads (hd : Head) (i : Nat) (h : Lawful s) : Leads (execCloseAccount hd i s) :=
  request_leads h fun u hu _ => onAccount_lawful hu fun _ => by
    split
    · exact hu
    · next free => exact closeAccount_lawful hu (by simpa using fun named => free (.inr named))

theorem execAdjustBalance_leads (hd : Head) (i : Nat) (c : PageClass) (d : Int) (h : Lawful s) :
    Leads (execAdjustBalance hd i c d s) :=
  request_leads h fun _ hu _ => onAccount_lawful hu fun inUse => hu.setAccount_inUse inUse inUse rfl rfl (.inl rfl)

theorem execReadAccount_leads (hd : Head) (i : Nat) (h : Lawful s) : Leads (execReadAccount hd i s) :=
  answer_leads h fun u => by split <;> rfl

theorem execReadClosing_leads (hd : Head) (i : Nat) (h : Lawful s) : Leads (execReadClosing hd i s) :=
  answer_leads h fun u => by split <;> rfl

theorem execReadTenant_leads (hd : Head) (m : Nat) (h : Lawful s) : Leads (execReadTenant hd m s) :=
  request_leads h fun _ hu _ => onTenant_lawful hu fun _ => hu

theorem execAssignTenant_leads (hd : Head) (m : Nat) (w : Option Window) (share : Nat) (g : GroupSet) (h : Lawful s) :
    Leads (execAssignTenant hd m w share g s) :=
  request_leads h fun u hu _ => by
    split
    · exact hu
    · next ok => exact assigned_lawful hu (assignCheck_eq_none hu ok)

theorem execSetCeiling_leads (hd : Head) (m : Nat) (c : PageClass) (x : Option Nat) (h : Lawful s) :
    Leads (execSetCeiling hd m c x s) :=
  request_leads h fun u hu _ => by
    split
    · exact hu
    · refine hu.setTenant_same ?_ ?_ ?_
      all_goals rfl

theorem execClosePeriod_leads (hd : Head) (h : Lawful s) : Leads (execClosePeriod hd s) :=
  request_leads h fun _ hu _ => asTenant_lawful hu fun m _ => reloadTimer_lawful m (rollover_lawful m hu)

theorem execSetPolicy_leads (hd : Head) (p : PolicyName) (c : PolicyChanges) (h : Lawful s) :
    Leads (execSetPolicy hd p c s) :=
  request_leads h fun u hu _ => asTenant_lawful hu fun m _ => by
    split
    · exact hu
    · cases p with
      | day =>
        refine hu.setTenant_same ?_ ?_ ?_
        all_goals rfl
      | afterHours =>
        refine hu.setTenant_same ?_ ?_ ?_
        all_goals rfl

theorem execReadPeriod_leads (hd : Head) (m : Nat) (h : Lawful s) : Leads (execReadPeriod hd m s) :=
  request_leads h fun _ hu _ => onTenant_lawful hu fun _ => hu

theorem execReadPolicy_leads (hd : Head) (m : Nat) (h : Lawful s) : Leads (execReadPolicy hd m s) :=
  request_leads h fun _ hu _ => onTenant_lawful hu fun _ => hu

theorem execSetPeriodTimer_leads (hd : Head) (m : Nat) (unit : TimerUnit) (length : Nat) (h : Lawful s) :
    Leads (execSetPeriodTimer hd m unit length s) :=
  request_leads h fun u hu _ => by
    split
    · exact hu
    · refine hu.setTenant_same ?_ ?_ ?_
      all_goals rfl

theorem switchTimer_lawful (m : Nat) (run : Bool) (h : Lawful s) : Lawful (switchTimer m run s).1 := by
  unfold switchTimer
  dsimp only
  split
  · exact h
  · split
    · exact h
    · refine h.setTenant_same ?_ ?_ ?_
      all_goals rfl

/-! ### Jobs and the panel (chapters 3 and 4) -/

theorem execSubmit_leads (hd : Head) (j : Submission) (h : Lawful s) : Leads (execSubmit hd j s) :=
  request_leads h fun u hu _ => asTenant_lawful hu fun m hm => by
    split
    · exact hu
    · next ok => exact takeSubmission_lawful j hu (tenant_lt hm) (submitCheck_eq_none ok)

theorem execCancel_leads (hd : Head) (k : Handle) (h : Lawful s) : Leads (execCancel hd k s) :=
  request_leads h fun _ hu _ => onJob_lawful hu fun hg => cancelJob_lawful hu hg

theorem execListFinished_leads (hd : Head) (h : Lawful s) : Leads (execListFinished hd s) :=
  request_leads h fun _ hu _ => asTenant_lawful hu fun _ _ => hu

theorem execCollect_leads (hd : Head) (k : Handle) (h : Lawful s) : Leads (execCollect hd k s) :=
  request_leads h fun u hu _ => onJob_lawful hu fun _ => by
    split
    · next hf => exact hu.freeEntry hf
    · exact hu

theorem execReadJob_leads (hd : Head) (k : Handle) (h : Lawful s) : Leads (execReadJob hd k s) :=
  request_leads h fun _ hu _ => onJob_lawful hu fun _ => hu

theorem execListActive_leads (hd : Head) (h : Lawful s) : Leads (execListActive hd s) :=
  request_leads h fun _ hu _ => asTenant_lawful hu fun _ _ => hu

theorem execSetPanelTimeout_leads (hd : Head) (m : Nat) (h : Lawful s) : Leads (execSetPanelTimeout hd m s) :=
  request_leads h fun u hu _ => by
    split
    · exact hu
    · exact hu.of_tables id rfl rfl rfl rfl rfl rfl

/-! ### The fleet (chapter 5) -/

theorem execEnrol_leads (hd : Head) (n : Nat) (e : Enrolment) (h : Lawful s) : Leads (execEnrol hd n e s) :=
  request_leads h fun u hu _ => by
    split
    · exact hu
    · split
      · next new => exact enrolNew_lawful e hu (by simpa using new)
      · next old =>
        split
        · exact hu
        · next idle => exact reenrol_lawful e ⟨⟨hu, not_not.1 idle⟩, by simpa using old⟩

theorem execUnenroll_leads (hd : Head) (n : Nat) (h : Lawful s) : Leads (execUnenroll hd n s) :=
  request_leads h fun u hu _ => onPrinter_lawful hu fun _ => by
    split
    · exact hu
    · next idle => exact unenroll_lawful ⟨hu, not_not.1 idle⟩

theorem execSetAdmin_leads (hd : Head) (n : Nat) (a : AdminState) (h : Lawful s) : Leads (execSetAdmin hd n a s) :=
  request_leads h fun u hu _ => onPrinter_lawful hu fun enrolled => by
    split
    · exact hu
    · split
      · exact hu
      · next busy => exact changeAdmin_lawful a hu enrolled fun ha => by_contra fun hq => busy ⟨ha, hq⟩

theorem execFlushPrinter_leads (hd : Head) (n : Nat) (h : Lawful s) : Leads (execFlushPrinter hd n s) :=
  request_leads h fun u hu _ => onPrinter_lawful hu fun _ => by
    split
    · exact hu
    · exact (drainingTest_calm n _).lawful (flushQueue_lawful n _ hu)

theorem execSetPrinterTimers_leads (hd : Head) (n : Nat) (a b : Option Nat) (h : Lawful s) :
    Leads (execSetPrinterTimers hd n a b s) :=
  request_leads h fun u hu _ => onPrinter_lawful hu fun _ => by
    refine hu.setPrinter_same (SamePrinters.of_setPrinter ?_ ?_ ?_)
    all_goals rfl

theorem execSetWalkup_leads (hd : Head) (a b : Option Nat) (h : Lawful s) : Leads (execSetWalkup hd a b s) :=
  request_leads h fun u hu _ => by
    split
    · exact hu
    · exact hu.of_tables id rfl rfl rfl rfl rfl rfl

theorem execClearCondition_leads (hd : Head) (n : Nat) (k : ConditionKind) (h : Lawful s) :
    Leads (execClearCondition hd n k s) :=
  request_leads h fun u hu _ => onPrinter_lawful hu fun _ => by
    split
    · exact (removeCondition_calm n _ u).lawful hu
    · exact hu

theorem execReadPrinter_leads (hd : Head) (n : Nat) (h : Lawful s) : Leads (execReadPrinter hd n s) :=
  answer_leads h fun u => by split <;> rfl

theorem condition_lawful (n : Nat) (k : ConditionKind) (onset : Bool) (h : Lawful s) :
    Lawful ((if onset then addCondition n k else removeCondition n k) s) := by
  split
  · exact (addCondition_calm n k s).lawful h
  · exact (removeCondition_calm n k s).lawful h

/-! ### Lanes and stock (chapters 6 and 7) -/

theorem execSetWeights_leads (hd : Head) (k c : Option (List Nat)) (h : Lawful s) : Leads (execSetWeights hd k c s) :=
  request_leads h fun u hu _ => by
    split
    · exact hu
    · exact hu.of_tables id rfl rfl rfl rfl rfl rfl

theorem execSetEstimator_leads (hd : Head) (a b : Option Nat) (h : Lawful s) : Leads (execSetEstimator hd a b s) :=
  request_leads h fun u hu _ => by
    split
    · exact hu
    · exact hu.of_tables id rfl rfl rfl rfl rfl rfl

theorem execReadLanes_leads (hd : Head) (n : Nat) (h : Lawful s) : Leads (execReadLanes hd n s) :=
  request_leads h fun _ hu _ => onPrinter_lawful hu fun _ => hu

theorem execSetFactor_leads (hd : Head) (n : Nat) (l : Lane) (f : Nat) (h : Lawful s) : Leads (execSetFactor hd n l f s) :=
  request_leads h fun u hu _ => onLane_lawful hu fun x hx => (setLane_some_calm hx (by rfl) (by rfl)).lawful hu

theorem execAckUncounted_leads (hd : Head) (n : Nat) (l : Lane) (h : Lawful s) : Leads (execAckUncounted hd n l s) :=
  request_leads h fun u hu _ => onLane_lawful hu fun x hx => (setLane_some_calm hx (by rfl) (by rfl)).lawful hu

theorem takeLevel_gentle (n : Nat) (r : PerLane LaneReading) (s : State) : Gentle s (takeLevel n r s) :=
  Gentle.foldl (fun a l => takeReading_gentle n l (r.get l) a) _ s

theorem execSetType_leads (hd : Head) (u : Nat) (c : TypeChanges) (h : Lawful s) : Leads (execSetType hd u c s) :=
  request_leads h fun v hv _ => by
    dsimp only
    split
    · exact hv
    · exact (applyType_gentle u c v).lawful hv

theorem execAdjustStock_leads (hd : Head) (u x : Nat) (h : Lawful s) : Leads (execAdjustStock hd u x s) :=
  request_leads h fun v hv _ => by
    dsimp only
    split
    · exact hv
    · next ok =>
      obtain ⟨-, le, covers⟩ := not_not.1 ok
      exact adjustStock_lawful u x hv ⟨covers, le⟩

theorem execSetLaneType_leads (hd : Head) (n : Nat) (l : Lane) (u : Nat) (h : Lawful s) : Leads (execSetLaneType hd n l u s) :=
  request_leads h fun v hv _ => onLane_lawful hv fun _ _ => (changeLaneType_gentle n l u v).lawful hv

theorem execAckOrder_leads (hd : Head) (k : Nat) (h : Lawful s) : Leads (execAckOrder hd k s) :=
  request_leads h fun u hu _ => onOrder_lawful hu fun o => by
    split
    · exact hu
    · exact (setOrders_calm _ u).lawful hu

theorem execReceiveOrder_leads (hd : Head) (k r : Nat) (h : Lawful s) : Leads (execReceiveOrder hd k r s) :=
  request_leads h fun u hu _ => onOrder_lawful hu fun o => by
    have received := receive_lawful o r hu
    generalize receive o r u = v at received ⊢
    exact (trigger_calm o.type v).lawful received

theorem execCancelOrder_leads (hd : Head) (k : Nat) (h : Lawful s) : Leads (execCancelOrder hd k s) :=
  request_leads h fun u hu _ => onOrder_lawful hu fun o => (cancelOrder_calm o u).lawful hu

theorem execReadType_leads (hd : Head) (u : Nat) (h : Lawful s) : Leads (execReadType hd u s) :=
  answer_leads h fun u => by split <;> rfl

/-! ### Callouts, the link and time (chapters 8, 9 and 11) -/

theorem execSetGrace_leads (hd : Head) (k : ConditionKind) (m : Nat) (h : Lawful s) : Leads (execSetGrace hd k m s) :=
  request_leads h fun u hu _ => by
    split
    · exact hu
    · exact hu.of_tables id rfl rfl rfl rfl rfl rfl

theorem execSetEscalation_leads (hd : Head) (m : Nat) (h : Lawful s) : Leads (execSetEscalation hd m s) :=
  request_leads h fun u hu _ => by
    split
    · exact hu
    · exact hu.of_tables id rfl rfl rfl rfl rfl rfl

theorem execAckCallout_leads (hd : Head) (k : Nat) (h : Lawful s) : Leads (execAckCallout hd k s) :=
  request_leads h fun u hu _ => by
    split
    · exact hu
    · split
      · exact hu
      · split
        · exact hu
        · exact (setCallouts_calm _ u).lawful hu

theorem execClearHistory_leads (hd : Head) (n : Nat) (k : KindSet) (h : Lawful s) : Leads (execClearHistory hd n k s) :=
  request_leads h fun u hu _ => onPrinter_lawful hu fun _ => (setHistory_calm n _ u).lawful hu

theorem execClearStray_leads (hd : Head) (a : Option Nat) (h : Lawful s) : Leads (execClearStray hd a s) :=
  request_leads h fun u hu _ => by
    split
    · exact hu
    · cases a with
      | some a => exact (setStray_calm a none u).lawful hu
      | none =>
        refine hu.of_tables (fun hc => ?_) rfl rfl rfl rfl rfl rfl
        obtain ⟨h1, h2, h3, h4, h5, h6, h7, h8, h9, h10, h11, -⟩ := hc
        exact ⟨h1, h2, h3, h4, h5, h6, h7, h8, h9, h10, h11, rfl⟩

theorem execSetClock_leads (hd : Head) (day minute weekday : Nat) (h : Lawful s) : Leads (execSetClock hd day minute weekday s) :=
  request_leads h fun u hu _ => by
    split
    · exact hu
    · exact setClockTo_lawful _ hu

theorem execSetSchedule_leads (hd : Head) (e : List ScheduleEntry) (h : Lawful s) : Leads (execSetSchedule hd e s) :=
  request_leads h fun u hu _ => by
    split
    · exact hu
    · exact evaluatePolicy_lawful (hu.timeUnit _)

theorem execClearAll_leads (hd : Head) (h : Lawful s) : Leads (execClearAll hd s) :=
  request_leads h fun u _ _ => coldReset_lawful _ u

theorem execResetLineAsserted_leads (inside : Bool) (h : Lawful s) : Leads (execResetLineAsserted inside s) := by
  refine .next ?_
  split
  · exact h.sent []
  · exact resetLine_lawful inside h

theorem execPowerOn_leads (supply : Bool) (h : Lawful s) : Leads (execPowerOn supply s) := by
  refine .next ?_
  split
  · exact powerUp_lawful supply h
  · exact h.sent []

theorem execMainPowerLoss_leads (inside : Bool) (h : Lawful s) : Leads (execMainPowerLoss inside s) := by
  refine .next ?_
  split
  · exact h.sent []
  · exact h.of_tables id rfl rfl rfl rfl rfl rfl

theorem execRetainedSupplyLoss_leads (h : Lawful s) : Leads (execRetainedSupplyLoss s) := by
  refine .next ?_
  unfold supplyLoss
  split
  · exact h.of_tables id rfl rfl rfl rfl rfl rfl
  · exact h.of_tables id rfl rfl rfl rfl rfl rfl

end

/-! ### The step -/

/-- Every command leaves a lawful state lawful. -/
theorem exec_leads (i : Instr) {s : State} (h : Lawful s) : Leads (exec i s) := by
  cases i with
  | requestFrameArrival p f => exact takeEvent_leads h fun _ => arrive_lawful p f
  | portLinkUp p => exact execPortLinkUp_leads p h
  | portLinkLoss p => exact execPortLinkLoss_leads p h
  | attach hd => exact request_leads h fun _ hu _ => attachPort_lawful _ hu
  | detach hd => exact request_leads h fun _ hu _ => detachPort_lawful _ hu
  | setNoticeMask hd k => exact request_leads h fun _ hu _ => setMask_lawful _ k hu
  | ackNotice hd k => exact request_leads h fun _ hu _ => ackFlags_lawful _ k hu
  | readNotices hd => exact answer_leads h fun _ => rfl
  | readPorts hd => exact answer_leads h fun _ => rfl
  | openAccount hd i b l => exact execOpenAccount_leads hd i b l h
  | setAccount hd i c => exact execSetAccount_leads hd i c h
  | setBadge hd i b => exact execSetBadge_leads hd i b h
  | clearBadge hd i => exact execClearBadge_leads hd i h
  | suspendAccount hd i => exact execSuspendAccount_leads hd i h
  | resumeAccount hd i => exact execResumeAccount_leads hd i h
  | closeAccount hd i => exact execCloseAccount_leads hd i h
  | adjustBalance hd i c d => exact execAdjustBalance_leads hd i c d h
  | readAccount hd i => exact execReadAccount_leads hd i h
  | readClosing hd i => exact execReadClosing_leads hd i h
  | readTenant hd m => exact execReadTenant_leads hd m h
  | assignTenant hd m w share g => exact execAssignTenant_leads hd m w share g h
  | setCeiling hd m c x => exact execSetCeiling_leads hd m c x h
  | closePeriod hd => exact execClosePeriod_leads hd h
  | setPolicy hd p c => exact execSetPolicy_leads hd p c h
  | readPeriod hd m => exact execReadPeriod_leads hd m h
  | readPolicy hd m => exact execReadPolicy_leads hd m h
  | setPeriodTimer hd m unit length => exact execSetPeriodTimer_leads hd m unit length h
  | startTimer hd m => exact request_leads h fun _ hu _ => switchTimer_lawful m true hu
  | stopTimer hd m => exact request_leads h fun _ hu _ => switchTimer_lawful m false hu
  | submit hd j => exact execSubmit_leads hd j h
  | cancel hd k => exact execCancel_leads hd k h
  | listFinished hd => exact execListFinished_leads hd h
  | collect hd k => exact execCollect_leads hd k h
  | readJob hd k => exact execReadJob_leads hd k h
  | listActive hd => exact execListActive_leads hd h
  | setPanelTimeout hd m => exact execSetPanelTimeout_leads hd m h
  | enrol hd n e => exact execEnrol_leads hd n e h
  | unenroll hd n => exact execUnenroll_leads hd n h
  | setAdmin hd n a => exact execSetAdmin_leads hd n a h
  | flushPrinter hd n => exact execFlushPrinter_leads hd n h
  | setPrinterTimers hd n a b => exact execSetPrinterTimers_leads hd n a b h
  | setWalkup hd a b => exact execSetWalkup_leads hd a b h
  | clearCondition hd n k => exact execClearCondition_leads hd n k h
  | readPrinter hd n => exact execReadPrinter_leads hd n h
  | setWeights hd k c => exact execSetWeights_leads hd k c h
  | setEstimator hd a b => exact execSetEstimator_leads hd a b h
  | readWeights hd => exact answer_leads h fun _ => rfl
  | readLanes hd n => exact execReadLanes_leads hd n h
  | setFactor hd n l f => exact execSetFactor_leads hd n l f h
  | listUncounted hd => exact answer_leads h fun _ => rfl
  | ackUncounted hd n l => exact execAckUncounted_leads hd n l h
  | setType hd u c => exact execSetType_leads hd u c h
  | adjustStock hd u x => exact execAdjustStock_leads hd u x h
  | setLaneType hd n l u => exact execSetLaneType_leads hd n l u h
  | ackOrder hd k => exact execAckOrder_leads hd k h
  | receiveOrder hd k r => exact execReceiveOrder_leads hd k r h
  | cancelOrder hd k => exact execCancelOrder_leads hd k h
  | readType hd u => exact execReadType_leads hd u h
  | listOrders hd => exact answer_leads h fun _ => rfl
  | setGrace hd k m => exact execSetGrace_leads hd k m h
  | setEscalation hd m => exact execSetEscalation_leads hd m h
  | ackCallout hd k => exact execAckCallout_leads hd k h
  | clearHistory hd n k => exact execClearHistory_leads hd n k h
  | listCallouts hd => exact answer_leads h fun _ => rfl
  | readLink hd => exact answer_leads h fun _ => rfl
  | clearStray hd a => exact execClearStray_leads hd a h
  | setClock hd d m w => exact execSetClock_leads hd d m w h
  | setSchedule hd e => exact execSetSchedule_leads hd e h
  | clearAll hd => exact execClearAll_leads hd h
  | readClock hd => exact answer_leads h fun _ => rfl
  | hello l c n m => exact takeReport_leads h fun _ => takeHello_lawful _ _
  | status l m => exact takeReport_leads h fun _ => takeStatus_lawful _ m
  | condition l k onset => exact takeReport_leads h fun _ => condition_lawful _ k onset
  | level l r => exact takeReport_leads h fun _ hu => (takeLevel_gentle _ r _).lawful hu
  | badge l b => exact takeReport_leads h fun _ => takeBadge_lawful _ b
  | select l c => exact takeReport_leads h fun _ => takeSelect_lawful _ c
  | sessionEnd l => exact takeReport_leads h fun _ hu => hu.endSession _
  | progress l g p => exact takeReport_leads h fun _ => takeProgress_lawful _ g p
  | jobEnd l g p o => exact takeReport_leads h fun _ => takeJobEnd_lawful _ g p o
  | installed l lane => exact takeReport_leads h fun _ hu => (install_gentle _ lane _).lawful hu
  | commandConfirmation a => exact takeEvent_leads h fun _ hu => (setCommands_calm a _ _).lawful hu
  | secondEvent => exact takeEvent_leads h fun _ => secondTick_lawful
  | minuteEvent => exact takeEvent_leads h fun _ => minuteTick_lawful
  | silenceExpiry n => exact takeEvent_leads h fun _ => takeSilenceExpiry_lawful n
  | stallExpiry n => exact takeEvent_leads h fun _ => takeStallExpiry_lawful n
  | periodTimerUnderflow m => exact takeEvent_leads h fun _ => takeUnderflow_lawful m
  | jobExpiry => exact takeEvent_leads h fun _ => takeJobExpiry_lawful
  | graceExpiry => exact takeEvent_leads h fun _ => takeGraceExpiry_lawful
  | calloutEscalation => exact takeEvent_leads h fun _ => takeEscalation_lawful
  | sessionTimeout n => exact takeEvent_leads h fun _ => takeSessionTimeout_lawful n
  | resetLineAsserted b => exact execResetLineAsserted_leads b h
  | powerOn b => exact execPowerOn_leads b h
  | mainPowerLoss b => exact execMainPowerLoss_leads b h
  | malformedRequest hd k => exact answer_leads h fun _ => rfl
  | retainedSupplyLoss => exact execRetainedSupplyLoss_leads h

theorem step_leads {s : State} (h : Lawful s) : Leads (step s) := by
  unfold step
  split
  · exact .next h
  · exact exec_leads _ (h.of_tables id rfl rfl rfl rfl rfl rfl)

/-- Settles O11: the laws are `Laws` with no job left out (`accountLaws_iff`), and every command keeps them. -/
theorem stepKeepsAccountLaws : Obligations.StepKeepsAccountLaws := by
  intro s t h e
  exact (accountLaws_iff t).2 (step_leads ((accountLaws_iff s).1 h) t e)

end Sys2Proof.Machine

/-! The rollover of a tenant and its period timer (R25, R26, R29 to R31, R34), and the expiries a minute event leaves owed
(R49, R50, R145, R149). -/

namespace Sys2Proof.Machine

/-! ### READ_PERIOD (R34) -/

/-- Settles O22: the owner only answers, and on F with a tenant above 3 it refuses. -/
theorem readPeriodShowsTheTimer : Obligations.ReadPeriodShowsTheTimer := by
  refine ⟨fun h m n s hp rd => ?_, fun h m s hp hm rd => ?_⟩
  · exact request_answers h _ _ s _ rd (onTenant_eq _ m n _ _ hp)
  · have hm' : ¬m < Config.tenants := not_lt.2 hm
    exact request_answers h _ _ s _ rd (by simp [onTenant, hp, PortName.tenant, hm', refuse])

/-! ### Notice flags (R168) -/

section
variable (p q : PortName) (k : NoticeKind) (s : State)

@[simp] theorem hasNotice_only : hasNotice k.only k = true := by cases k <;> rfl

theorem hasNotice_or (a b : NoticeSet) : hasNotice (a ||| b) k = (hasNotice a k || hasNotice b k) := BitVec.getLsbD_or ..

/-- R168: raising a kind whose flag is clear sets that flag; every other field of the ports stands. -/
theorem port_raise : (raise p k s).port q =
    if q = p ∧ hasNotice (s.port p).flags k = false then { s.port p with flags := (s.port p).flags ||| k.only }
    else s.port q := by
  cases hk : hasNotice (s.port p).flags k with
  | true => simp [raise, hk]
  | false =>
    simp only [raise, hk, Bool.false_eq_true, if_false]
    split <;> simp

/-- R168: the flag of a kind that has been raised is set. -/
theorem hasNotice_raise : hasNotice ((raise p k s).port p).flags k = true := by
  rw [port_raise]
  cases hk : hasNotice (s.port p).flags k <;> simp [hk, hasNotice_or]

/-- Every flag that is set in the first state is set in the second. -/
def FlagsStay (s t : State) : Prop := ∀ p k, hasNotice (s.port p).flags k = true → hasNotice (t.port p).flags k = true

theorem flagsStay_raise : FlagsStay s (raise p k s) := by
  intro q j hj
  rw [port_raise]
  split
  · next c => rw [hasNotice_or, ← c.1, hj]; rfl
  · exact hj

@[simp] theorem issueAnswer_flags (h : Head) (r : Request) (a : Answer) :
    ((issueAnswer h r a s).port q).flags = (s.port q).flags := by
  have port : (issueAnswer h r a s).port q =
      (s.setPort h.port { s.port h.port with queue := (s.port h.port).queue.drop 1 }).port q := rfl
  rw [port, State.port_setPort]
  split
  · next e => rw [e]
  · rfl

end

/-- R163: the port of a port's tenant is that port. -/
theorem ofTenant_of_tenant {p : PortName} {n : Nat} (hp : p.tenant = some n) : PortName.ofTenant n = p := by
  cases p <;> simp [PortName.tenant] at hp <;> subst hp <;> rfl

/-! ### A rollover (R30, R31) and a full count (R26, R29) -/

section
variable (n m i : Nat) (s : State)

/-- R30: the non-FREE accounts of the tenant's window are rolled over, and no other. -/
theorem account_rollAccounts (hs : Table.wf Account.free s.au.accounts = true) : (rollAccounts n s).account i =
    if (s.tenant n).owns i = true ∧ (s.account i).state ≠ .free then rolledAccount (s.account i) else s.account i :=
  Table.get_mapAll Account.free
    (fun i a => if (s.tenant n).owns i ∧ a.state ≠ .free then rolledAccount a else a) i (by simp [Account.free]) _
    ((Table.wf_iff_sound _ _).1 hs)

theorem account_rollover (hs : Table.wf Account.free s.au.accounts = true) : (rollover n s).account i =
    if (s.tenant n).owns i = true ∧ (s.account i).state ≠ .free then rolledAccount (s.account i) else s.account i := by
  rw [← account_rollAccounts n i s hs]
  exact account_congr (raiseTenant_frame _ _ _).1 i

/-- R31: the tenant's used pages become 0 and its period number rises, wrapping after 65535. -/
theorem tenant_rollover : (rollover n s).tenant m =
    if m = n then { s.tenant n with
      used := ⟨0, 0⟩
      period := if (s.tenant n).period = 65535 then 0 else ((s.tenant n).period + 1) % 65536 }
    else s.tenant m := by
  have wrap : ((s.tenant n).period + 1) % (Config.wordMax + 1) =
      if (s.tenant n).period = 65535 then 0 else ((s.tenant n).period + 1) % 65536 := by
    split
    · next e => rw [e]; rfl
    · rfl
  rw [← wrap]
  exact (tenant_congr (raiseTenant_frame _ _ _).1 m).trans (State.tenant_setTenant ..)

theorem hasNotice_rollover : hasNotice ((rollover n s).port (PortName.ofTenant n)).flags .period = true :=
  hasNotice_raise _ _ _

@[simp] theorem account_reloadTimer : (reloadTimer n s).account i = s.account i := rfl

@[simp] theorem port_reloadTimer (p : PortName) : (reloadTimer n s).port p = s.port p := rfl

theorem tenant_reloadTimer : (reloadTimer n s).tenant m =
    if m = n then { s.tenant n with
      timer := { (s.tenant n).timer with count := (s.tenant n).timer.length, hourStep := 0 } }
    else s.tenant m := State.tenant_setTenant ..

theorem owns_reloadTimer : ((reloadTimer n s).tenant m).owns i = (s.tenant m).owns i := by
  rw [tenant_reloadTimer]
  split
  · next e => rw [e]; rfl
  · rfl

end

/-- R29: a CLOSE_PERIOD that is taken rolls its tenant over, makes the count full, and answers with the new period number. -/
theorem exec_closePeriod {h : Head} {n : Nat} {s : State} (hp : h.port.tenant = some n) (rd : Ready h .closePeriod s) :
    let t := reloadTimer n (rollover n (atOwner h .closePeriod s))
    exec (.closePeriod h) s = .next (issueAnswer h .closePeriod (.accepted (.period (t.tenant n).period)) t) := by
  refine (request_ready h _ _ s rd).trans ?_
  simp only [asTenant, hp]
  rfl

/-- Settles O24: the rollover's and the reload's lemmas, read through the answer. -/
theorem closePeriodRollsOver : Obligations.ClosePeriodRollsOver := by
  intro h n s hc hp rd
  obtain ⟨haccounts, -⟩ := hc
  refine ⟨_, exec_closePeriod hp rd, fun i => account_rollover n i (atOwner h .closePeriod s) haccounts, fun _ _ _ => rfl,
    ?_, fun m hm => ?_, ?_, rfl, ?_⟩
  · exact (tenant_reloadTimer n n _).trans (by simp [tenant_rollover])
  · exact (tenant_reloadTimer n m _).trans (by simp [tenant_rollover, hm])
  · rw [issueAnswer_flags, port_reloadTimer, ← ofTenant_of_tenant hp]
    exact hasNotice_rollover n _
  · simp [issueAnswer]

/-! ### The step owed to a period timer (R26) -/

section
variable {n : Nat} {s : State}

/-- R26: a RUNNING timer whose owed step is an underflow, with the clock set, is reloaded and its tenant rolled over. -/
theorem takeUnderflow_due (owed : n ∈ s.owed.timerSteps) (running : (s.tenant n).timer.running = true)
    (clock : s.tb.clock ≠ none) (count : (s.tenant n).timer.count ≤ 1)
    (last : (s.tenant n).timer.unit = .minutes ∨ 59 ≤ (s.tenant n).timer.hourStep) :
    takeUnderflow n s =
      rollover n (reloadTimer n { s with owed := { s.owed with timerSteps := s.owed.timerSteps.filter (· ≠ n) } }) := by
  have clockSet : s.tb.clock.isSome = true := Option.isSome_iff_ne_none.2 clock
  have under : (s.tenant n).timer.atUnderflow = true := by
    rcases last with h | h <;> simp [PeriodTimer.atUnderflow, count, h]
  rw [takeUnderflow, if_pos owed]
  exact (if_pos ⟨running, clockSet⟩).trans (if_pos under)

end

/-! ### The expiry sweep (R49, R50) -/

/-- R49: whether the job is HELD and its expiry time is at or before a time. -/
def Job.dueAt (j : Job) (u : Time) : Bool := j.state == .held && timeMinutes j.expiry ≤ timeMinutes u

/-- R50: the entry of a job that expires at a time. -/
def Job.expiredAt (j : Job) (u : Time) : Job :=
  { j with state := .expired, endReason := some .expired, finished := some u, reservation := none, needs := none }

/-- R49: one entry of the sweep. -/
def sweepJob (s : State) (i : Nat) : State := if jobDue s (s.job i) then enterFinal i .expired .expired s else s

/-- R49: the sweep goes over the entries listed. -/
theorem takeJobExpiry_owed {s : State} (owed : s.owed.jobExpiry = true) : takeJobExpiry s =
    (Table.numbers s.jt.jobs).foldl sweepJob { s with owed := { s.owed with jobExpiry := false } } := if_pos owed

section
variable {s : State} {u : Time}

theorem Job.dueAt_iff (j : Job) (u : Time) :
    j.dueAt u = true ↔ j.state = .held ∧ timeMinutes j.expiry ≤ timeMinutes u := by simp [Job.dueAt]

theorem jobDue_eq (hu : s.now = some u) (j : Job) : jobDue s j = j.dueAt u := by
  simp [jobDue, hu, timeAtOrBefore, Job.dueAt]

theorem dueAt_expiredAt (j : Job) (u : Time) : (j.expiredAt u).dueAt u = false := rfl

/-- R50: the final state's FINISHED flag is set on the port of the entry's tenant, and no flag is cleared. -/
theorem flags_enterFinal (i : Nat) (f : JobState) (r : EndReason) (s : State) :
    FlagsStay s (enterFinal i f r s) ∧
      hasNotice ((enterFinal i f r s).port (PortName.ofTenant (s.job i).tenant)).flags .finished = true := by
  refine ⟨fun p k hk => ?_, hasNotice_raise _ _ _⟩
  refine flagsStay_raise _ _ _ p k ?_
  split <;> exact hk

theorem sweepJob_frame (s : State) (i : Nat) : (sweepJob s i).tb = s.tb ∧ (sweepJob s i).owed = s.owed := by
  unfold sweepJob
  split <;> simp

theorem now_sweepJob (hu : s.now = some u) (i : Nat) : (sweepJob s i).now = some u := by
  rw [← hu, State.now, (sweepJob_frame s i).1, State.now]

theorem job_sweepJob (hu : s.now = some u) (i x : Nat) :
    (sweepJob s i).job x = if x = i ∧ (s.job x).dueAt u = true then (s.job x).expiredAt u else s.job x := by
  rw [sweepJob, jobDue_eq hu]
  split
  · next due =>
    rw [job_enterFinal, hu]
    by_cases e : x = i
    · rw [if_pos e, if_pos ⟨e, e ▸ due⟩, e]
      rfl
    · rw [if_neg e, if_neg fun c => e c.1]
  · next notDue =>
    rw [if_neg]
    rintro ⟨rfl, due⟩
    exact notDue due

theorem flagsStay_sweepJob (s : State) (i : Nat) : FlagsStay s (sweepJob s i) := by
  unfold sweepJob
  split
  · exact (flags_enterFinal i _ _ s).1
  · exact fun _ _ hk => hk

theorem flagsStay_sweep (l : List Nat) (s : State) : FlagsStay s (l.foldl sweepJob s) :=
  foldl_keeps sweepJob FlagsStay (fun _ _ _ hk => hk) (fun _ _ _ h h' p k hk => h' p k (h p k hk)) flagsStay_sweepJob l s

theorem owed_sweep (l : List Nat) (s : State) : (l.foldl sweepJob s).owed = s.owed :=
  foldl_keeps sweepJob (fun a b => b.owed = a.owed) (fun _ => rfl) (fun _ _ _ h h' => h'.trans h)
    (fun a i => (sweepJob_frame a i).2) l s

/-- R49: the sweep makes the due jobs of its entries EXPIRED, and no other. -/
theorem job_sweep (l : List Nat) (hu : s.now = some u) (x : Nat) :
    (l.foldl sweepJob s).job x = if x ∈ l ∧ (s.job x).dueAt u = true then (s.job x).expiredAt u else s.job x := by
  induction l generalizing s with
  | nil => simp
  | cons i l ih =>
    rw [List.foldl_cons, ih (now_sweepJob hu i), job_sweepJob hu]
    by_cases e : x = i ∧ (s.job x).dueAt u = true
    · rw [if_pos e, dueAt_expiredAt, if_neg (by simp), if_pos ⟨by simp [e.1], e.2⟩]
    · rw [if_neg e]
      refine if_congr ?_ rfl rfl
      rw [List.mem_cons]
      tauto

/-- R50: FINISHED is raised for every job the sweep makes EXPIRED. -/
theorem finished_sweep (l : List Nat) (hu : s.now = some u) {x : Nat} (hx : x ∈ l) (due : (s.job x).dueAt u = true) :
    hasNotice ((l.foldl sweepJob s).port (PortName.ofTenant (s.job x).tenant)).flags .finished = true := by
  induction l generalizing s with
  | nil => cases hx
  | cons i l ih =>
    by_cases e : x = i
    · subst e
      refine flagsStay_sweep l _ _ _ ?_
      rw [sweepJob, jobDue_eq hu, if_pos due]
      exact (flags_enterFinal x _ _ s).2
    · have same : (sweepJob s i).job x = s.job x := by rw [job_sweepJob hu, if_neg (fun c => e c.1)]
      have rest := ih (now_sweepJob hu i) ((List.mem_cons.1 hx).resolve_left e) (by rw [same]; exact due)
      rw [same] at rest
      exact rest

/-- A job that is due stands in the table's list. -/
theorem mem_numbers_of_dueAt {x : Nat} (due : (s.job x).dueAt u = true) : x ∈ Table.numbers s.jt.jobs := by
  refine Table.mem_numbers_of_get_ne (Job.freeAt 0) x _ fun unlisted => ?_
  have free : (s.job x).state = .free := congrArg Job.state unlisted
  obtain ⟨held, -⟩ := ((s.job x).dueAt_iff u).1 due
  rw [held] at free
  cases free

end

/-! ### The first grace record that is expiring (R145) -/

/-- The first listed record that passes a test, where the unlisted one fails it. -/
theorem Table.find?_first {α : Type} (d : α) (p : α → Bool) (hd : p d = false) (k : Nat) :
    ∀ t : Table α, Table.Sound d t → p (Table.get d t k) = true → (∀ j, j < k → p (Table.get d t j) = false) →
      t.find? (fun e => p e.2) = some (k, Table.get d t k)
  | [], _, hk, _ => by simp [Table.get, hd] at hk
  | (k', v) :: t, ht, hk, first => by
    obtain ⟨-, above, rest⟩ := ht
    have unlisted : ∀ j, j ≤ k' → Table.get d t j = d := fun j hj => Table.get_of_above d k' j t above hj
    rcases lt_trichotomy k k' with h | rfl | h
    · rw [Table.get_cons_other d k k' v t (by omega), unlisted k (by omega), hd] at hk
      cases hk
    · rw [Table.get_cons_same] at hk ⊢
      simp [hk]
    · have skip : p v = false := by simpa [Table.get_cons_same] using first k' h
      rw [Table.get_cons_other d k k' v t (by omega)] at hk ⊢
      rw [List.find?_cons_of_neg (by simp [skip])]
      refine Table.find?_first d p hd k t rest hk fun j hj => ?_
      by_cases e : j ≤ k'
      · rw [unlisted j e, hd]
      · rw [← Table.get_cons_other d j k' v t (by omega)]
        exact first j hj

/-- Every number is that of a grace record. -/
theorem graceNumber_surjective (j : Nat) : ∃ (m : Nat) (x : ConditionKind), j = 8 * m + x.code := by
  have codes : ∀ c, c < 8 → ∃ x : ConditionKind, c = x.code := by
    intro c hc
    interval_cases c
    exacts [⟨.jam, rfl⟩, ⟨.doorOpen, rfl⟩, ⟨.paperOut, rfl⟩, ⟨.hardware, rfl⟩, ⟨.unreachable, rfl⟩, ⟨.mismatch, rfl⟩,
      ⟨.meterFault, rfl⟩, ⟨.supplyOut, rfl⟩]
  obtain ⟨x, hx⟩ := codes (j % 8) (Nat.mod_lt _ (by decide))
  exact ⟨j / 8, x, by omega⟩

theorem graceKind_code {k : ConditionKind} (hk : k ≠ .supplyOut) : k.code < 8 ∧ graceKind k.code = k := by
  cases k with
  | supplyOut => exact absurd rfl hk
  | _ => exact ⟨by decide, rfl⟩

theorem firstExpiring_eq {n : Nat} {k : ConditionKind} {s : State} (hs : Table.wf Grace.idle s.cu.grace = true)
    (hk : k ≠ .supplyOut) (hg : s.grace n k = .expiring)
    (first : ∀ (m : Nat) (x : ConditionKind), 8 * m + x.code < 8 * n + k.code → s.grace m x ≠ .expiring) :
    firstExpiring s = some (n, k) := by
  obtain ⟨hcode, hkind⟩ := graceKind_code hk
  have found := Table.find?_first Grace.idle (fun g => decide (g = .expiring)) rfl (8 * n + k.code) s.cu.grace
    ((Table.wf_iff_sound _ _).1 hs) (decide_eq_true hg) (fun j hj => by
      obtain ⟨m, x, rfl⟩ := graceNumber_surjective j
      exact decide_eq_false (first m x hj))
  have printer : (8 * n + k.code) / 8 = n := by omega
  have kind : (8 * n + k.code) % 8 = k.code := by omega
  rw [firstExpiring, found, Option.map_some, printer, kind, hkind]

/-! ### A SERVICE raise (R145, R147, R148) -/

section
variable (n : Nat) (k : CalloutKind) (items : List CalloutItem) (s : State)

/-- A raise makes, extends or defers callouts, and leaves the grace records. -/
theorem grace_raiseItems : (raiseItems n k items s).cu.grace = s.cu.grace := by
  unfold raiseItems
  split
  · dsimp only
    split
    · rfl
    · simp [extendCallout, State.setCallouts]
  · split
    · rfl
    · split
      · simp [makeCallout]
      · unfold deferRaise
        split <;> rfl

theorem grace_serviceRaise (kinds : List ConditionKind) (m : Nat) (x : ConditionKind) :
    (serviceRaise n kinds s).grace m x = s.grace m x := by
  unfold serviceRaise
  split
  · rfl
  · rw [State.grace, grace_raiseItems, State.grace]

/-- R139: a new callout stands at the tail of the queue, with the items it was made for. -/
theorem callouts_makeCallout : ∃ c, (makeCallout n k items s).cu.callouts = s.cu.callouts ++ [c] ∧ c.key = (n, k) ∧
    c.items = items := by
  simp only [makeCallout, announceCallout_frame]
  exact ⟨_, rfl, rfl, rfl⟩

/-- The callout of a printer and kind holds what an extension brings. -/
theorem callouts_extendCallout : (extendCallout n k items s).cu.callouts = s.cu.callouts.map (fun c =>
    if c.isOf n k then { c with items := c.items ++ items, acknowledged := false, deadline := deadlineNow s } else c) := by
  simp [extendCallout]

theorem Callout.isOf_iff (c : Callout) : c.isOf n k = true ↔ c.key = (n, k) := by simp [Callout.isOf, Callout.key]

theorem Deferral.isOf_iff (d : Deferral) : d.isOf n k = true ↔ d.key = (n, k) := by simp [Deferral.isOf, Deferral.key]

/-- R148: a deferred item stands in the deferral of its printer and kind. -/
theorem mem_deferRaise {item : CalloutItem} (hi : item ∈ items) :
    ∃ d ∈ (deferRaise n k items s).cu.deferrals, d.key = (n, k) ∧ item ∈ d.items := by
  unfold deferRaise
  split
  · next h =>
    obtain ⟨d, hd, isOf⟩ := List.any_eq_true.1 h
    refine ⟨_, List.mem_map.2 ⟨d, hd, if_pos isOf⟩, (Deferral.isOf_iff n k d).1 isOf, ?_⟩
    by_cases held : item ∈ d.items <;> simp [held, hi]
  · exact ⟨_, List.mem_append_right _ (List.mem_singleton_self _), rfl, hi⟩

/-- R145, R147, R148: a raised item stands in the callout, or in the deferral, of its printer and kind. -/
theorem mem_raiseItems {item : CalloutItem} (hi : item ∈ items) :
    (∃ c ∈ (raiseItems n k items s).cu.callouts, c.key = (n, k) ∧ item ∈ c.items) ∨
      (∃ d ∈ (raiseItems n k items s).cu.deferrals, d.key = (n, k) ∧ item ∈ d.items) := by
  unfold raiseItems
  split
  · next c hc =>
    have mem : c ∈ s.cu.callouts := List.mem_of_find?_eq_some hc
    have isOf : c.isOf n k = true := List.find?_some (p := fun c : Callout => c.isOf n k) hc
    have key := (Callout.isOf_iff n k c).1 isOf
    refine .inl ?_
    dsimp only
    split
    · next none =>
      have held : item ∈ c.items := by simpa using List.filter_eq_nil_iff.1 none item hi
      exact ⟨c, mem, key, held⟩
    · rw [callouts_extendCallout]
      refine ⟨_, List.mem_map.2 ⟨c, mem, if_pos isOf⟩, key, ?_⟩
      by_cases held : item ∈ c.items <;> simp [held, hi]
  · rw [if_neg (List.ne_nil_of_mem hi)]
    split
    · obtain ⟨c, made, key, holds⟩ := callouts_makeCallout n k items s
      exact .inl ⟨c, by simp [made], key, by rw [holds]; exact hi⟩
    · exact .inr (mem_deferRaise n k items s hi)

end

/-! ### An escalation (R149) -/

theorem escalated_at {u : Time} {s : State} (now : s.now = some u) (c : Callout) :
    escalated s c = { c with level := c.level + 1, deadline := some (timePlus u s.cu.escalation) } := by
  simp [escalated, deadlineNow, now]

/-- R149: the first callout owed its escalation, RAISED, of level 1 or 2 and past its deadline, is the only one that changes. -/
theorem takeEscalation_due {c : Callout} {rest : List Nat} {d u : Time} {s : State}
    (distinct : (s.cu.callouts.map Callout.number).Nodup) (mem : c ∈ s.cu.callouts)
    (owed : s.owed.escalations = c.number :: rest) (raised : c.acknowledged = false) (level : c.level ≤ 2)
    (deadline : c.deadline = some d) (now : s.now = some u) (past : timeMinutes d ≤ timeMinutes u) :
    takeEscalation s = raise .f .callout { s with
      owed := { s.owed with escalations := rest }
      cu := { s.cu with callouts := s.cu.callouts.map (fun x => if x = c then
        { c with level := c.level + 1, deadline := some (timePlus u s.cu.escalation) } else x) } } := by
  have same : ∀ x ∈ s.cu.callouts, x.number = c.number → x = c := fun x hx e =>
    List.inj_on_of_nodup_map distinct hx mem e
  have found : s.cu.callouts.find? (fun x => x.number = c.number) = some c := by
    obtain ⟨x, hx⟩ := Option.isSome_iff_exists.1 (List.find?_isSome.2 ⟨c, mem, by simp⟩ :
      (s.cu.callouts.find? (fun x => x.number = c.number)).isSome = true)
    rw [hx, same x (List.mem_of_find?_eq_some hx) (by simpa using List.find?_some hx)]
  have due : escalates { s with owed := { s.owed with escalations := rest } } c = true := by
    have now' : ({ s with owed := { s.owed with escalations := rest } } : State).now = some u := now
    simp [escalates, raised, level, deadline, now', timeAtOrBefore, past]
  have changed : s.cu.callouts.map (fun x => if x.number = c.number then escalated s x else x) =
      s.cu.callouts.map (fun x => if x = c then escalated s c else x) := by
    refine List.map_congr_left fun x hx => ?_
    by_cases e : x = c
    · simp [e]
    · rw [if_neg (fun e' => e (same x hx e')), if_neg e]
  rw [escalated_at now c] at changed
  simp only [takeEscalation, owed, found, due, if_true]
  rw [← changed]
  rfl

/-! ### The expiries as commands -/

section
variable {s : State} (on : s.phase ≠ .off)
include on

/-- R26: PERIOD_TIMER_UNDERFLOW reloads the timer and rolls the tenant over. -/
theorem exec_periodTimerUnderflow {n : Nat} (owed : n ∈ s.owed.timerSteps) (running : (s.tenant n).timer.running = true)
    (clock : s.tb.clock ≠ none) (count : (s.tenant n).timer.count ≤ 1)
    (last : (s.tenant n).timer.unit = .minutes ∨ 59 ≤ (s.tenant n).timer.hourStep) :
    exec (.periodTimerUnderflow n) s = .next (rollover n (reloadTimer n { s with
      phase := .running
      out := []
      owed := { s.owed with timerSteps := s.owed.timerSteps.filter (· ≠ n) } })) :=
  congrArg Host.Outcome.next ((takeEvent_on _ s on).trans
    (takeUnderflow_due (s := { s with phase := .running, out := [] }) owed running clock count last))

/-- R49: JOB_EXPIRY makes the sweep. -/
theorem exec_jobExpiry (owed : s.owed.jobExpiry = true) :
    exec .jobExpiry s = .next ((Table.numbers s.jt.jobs).foldl sweepJob { s with
      phase := .running
      out := []
      owed := { s.owed with jobExpiry := false } }) :=
  congrArg Host.Outcome.next ((takeEvent_on _ s on).trans
    (takeJobExpiry_owed (s := { s with phase := .running, out := [] }) owed))

/-- R145: GRACE_EXPIRY makes the first expiring record SPENT, with a SERVICE raise. -/
theorem exec_graceExpiry {n : Nat} {k : ConditionKind} (first : firstExpiring s = some (n, k)) :
    exec .graceExpiry s =
      .next (serviceRaise n [k] (({ s with phase := .running, out := [] } : State).setGrace n k .spent)) := by
  have first' : firstExpiring { s with phase := .running, out := [] } = some (n, k) := first
  refine congrArg Host.Outcome.next ((takeEvent_on _ s on).trans ?_)
  rw [takeGraceExpiry, first']

end

/-- Settles O60: each expiry is the move its `exec_` lemma names, and the lemmas of that move give the records. -/
theorem minuteWorkIsTaken : Obligations.MinuteWorkIsTaken := by
  refine ⟨?_, ?_, ?_, ?_⟩
  · intro n s hc on owed running clock count last
    obtain ⟨haccounts, -⟩ := hc
    refine ⟨_, exec_periodTimerUnderflow on owed running clock count last, (tenant_rollover n n _).trans ?_,
      fun i => (account_rollover n i _ (by exact haccounts)).trans ?_, ?_, hasNotice_rollover n _⟩
    · simp only [tenant_reloadTimer, if_true]
      rfl
    · rw [owns_reloadTimer]
      rfl
    · simp
  · intro u s hc on owed now
    refine ⟨_, exec_jobExpiry on owed, by rw [owed_sweep], fun i => ⟨fun due => ?_, fun notDue => ?_⟩⟩
    · have due' := ((s.job i).dueAt_iff u).2 due
      have listed := mem_numbers_of_dueAt due'
      exact ⟨(job_sweep _ (by exact now) i).trans (if_pos ⟨listed, due'⟩), finished_sweep _ (by exact now) listed due'⟩
    · exact (job_sweep _ (by exact now) i).trans (if_neg fun c => notDue (((s.job i).dueAt_iff u).1 c.2))
  · intro n k s hc on hk expiring first
    obtain ⟨-, -, -, -, -, -, -, -, hgrace, -⟩ := hc
    refine ⟨_, exec_graceExpiry on (firstExpiring_eq hgrace hk expiring first), ?_, fun out => ?_, fun inUse => ?_⟩
    · rw [grace_serviceRaise]
      simp
    · rw [serviceRaise, if_pos (by exact out)]
      rfl
    · rw [serviceRaise, if_neg (by exact inUse)]
      exact mem_raiseItems n .service _ _ (List.mem_singleton_self _)
  · intro c rest d u s hl on mem owed raised level deadline now past
    obtain ⟨-, distinct, -⟩ := hl
    exact congrArg Host.Outcome.next ((takeEvent_on _ s on).trans
      (takeEscalation_due (s := { s with phase := .running, out := [] }) distinct mem owed raised level deadline now past))

end Sys2Proof.Machine

/-! Job requests (chapter 3): what SUBMIT, COLLECT and CANCEL leave. -/

namespace Sys2Proof.Machine

/-! ### SUBMIT (R45, R46, R48) -/

section
variable {s : State} {n : Nat} {j : Submission}

/-- R45, step 1: the fields of a SUBMIT in range. -/
def SubmissionInRange (j : Submission) : Prop :=
  j.owner < 1024 ∧ j.pages.mono ≤ 9999 ∧ j.pages.colour ≤ 9999 ∧ 0 < j.pages.mono + j.pages.colour ∧ j.kClass ≤ 7 ∧
    (0 < j.pages.colour → ∃ k, j.colourClass = some k ∧ k ≤ 7) ∧ (j.pages.colour = 0 → j.colourClass = none)

theorem submissionOk_iff (j : Submission) : submissionOk j = true ↔ SubmissionInRange j := by
  have pages : (0 < j.pages.mono ∨ 0 < j.pages.colour) ↔ 0 < j.pages.mono + j.pages.colour := by omega
  have colour : (if j.pages.colour > 0 then j.colourClass.any (· ≤ 7) else j.colourClass.isNone) = true ↔
      (0 < j.pages.colour → ∃ k, j.colourClass = some k ∧ k ≤ 7) ∧ (j.pages.colour = 0 → j.colourClass = none) := by
    split
    · next positive => simp [Option.any_eq_true, positive, Nat.ne_of_gt positive]
    · next zero => simp [Nat.eq_zero_of_not_pos zero]
  simp only [submissionOk, Bool.and_eq_true, Bool.or_eq_true, decide_eq_true_eq, and_assoc, gt_iff_lt, pages]
  rw [← gt_iff_lt, colour]
  rfl

/-- R46: the FREE entry that has none below it. -/
theorem lowestFree_eq_some {i : Nat} (hi : i < 256) (free : (s.job i).state = .free)
    (below : ∀ k, k < i → (s.job k).state ≠ .free) : lowestFree s = some i := by
  rw [lowestFree, List.find?_range_eq_some]
  exact ⟨by simpa using free, List.mem_range.2 hi, fun k hk => by simpa using below k hk⟩

theorem lowestFree_eq_none : lowestFree s = none ↔ ∀ k, k < 256 → (s.job k).state ≠ .free := by
  simp [lowestFree, Config.jobs]

/-- R45, step 8: the entries in use, counted as the statement counts them. -/
theorem entriesInUse_eq (s : State) (n : Nat) :
    entriesInUse s n = (s.jt.jobs.filter (fun e => e.2.state != .free && e.2.tenant == n)).length := by
  rw [entriesInUse]
  congr 2
  funext e
  simp [bne, Bool.beq_eq_decide_eq]

/-- R45: the checks read nothing that the arrival of the request changes. -/
theorem submitCheck_atOwner (h : Head) (r : Request) : submitCheck (atOwner h r s) n j = submitCheck s n j := rfl

theorem exec_submit_refused {h : Head} {c : RefusalCode} (hp : h.port.tenant = some n) (rd : Ready h (.submit j) s)
    (check : submitCheck s n j = some c) :
    exec (.submit h j) s = .next (answered h (.submit j) (.refused c) s) :=
  request_answers h _ _ s _ rd (by simp only [asTenant, hp, submitCheck_atOwner, check]; rfl)

/-- R46: a SUBMIT that passes the checks fills the entry found, and its owner has one live job more. -/
theorem exec_submit_accepted {h : Head} {i : Nat} {t : Time} (hp : h.port.tenant = some n) (rd : Ready h (.submit j) s)
    (check : submitCheck s n j = none) (lowest : lowestFree s = some i) (now : s.now = some t) :
    let e := submittedJob s n j (s.job i) t
    exec (.submit h j) s = .next
      (((answered h (.submit j) (.accepted (.submitted ⟨i, e.generation⟩ e.groups e.submitted e.expiry)) s).setJob i
        e).setAccount j.owner
        { s.account j.owner with liveJobs := (s.account j.owner).liveJobs + 1 }) := by
  have lowest' : lowestFree (atOwner h (.submit j) s) = some i := lowest
  have now' : (atOwner h (.submit j) s).now = some t := now
  refine (request_ready h _ _ s rd).trans ?_
  simp only [asTenant, hp, submitCheck_atOwner, check, takeSubmission, lowest', now']
  rw [← issueAnswer_atOwner]
  rfl

end

/-- Settles O25: the checks that hold are passed one by one; the first that fails is the refusal (`exec_submit_refused`), and
where all hold the entry found is filled (`exec_submit_accepted`). -/
theorem submitFillsTheLowestEntry : Obligations.SubmitFillsTheLowestEntry := by
  refine ⟨?_, ?_⟩
  · intro h n i j c s hp rd howner hmono hcolour hpages hk hclass hnone hclock howns hactive hgroups hlive hshare hi hfree
      hbelow
    have lowest := lowestFree_eq_some hi hfree hbelow
    have now : s.now = some ⟨c.day, c.minute⟩ := by rw [State.now, hclock]; rfl
    have check : submitCheck s n j = none := by
      have ok : submissionOk j = true := (submissionOk_iff j).2 ⟨howner, hmono, hcolour, hpages, hk, hclass, hnone⟩
      have groups : ¬storedGroups s n j = 0 := hgroups
      have few : ¬(s.account j.owner).liveJobs ≥ Config.accountJobs := not_le.2 hlive
      rw [submitCheck, if_neg (not_not.2 ok), if_neg (by simp [hclock]), if_neg (not_not.2 howns), if_neg (by simp [hactive]),
        if_neg (not_not.2 hactive), if_neg groups, if_neg few, if_neg (not_le.2 hshare), if_neg (by simp [lowest])]
    exact exec_submit_accepted hp rd check lowest now
  · intro h n j s hp rd refused f1 f2 f3 f4 f5 f6 f7 f8 f9
    have range : f1 ↔ ¬submissionOk j = true := not_congr (submissionOk_iff j).symm
    have window : f3 ↔ ¬(s.tenant n).owns j.owner = true := (Bool.not_eq_true _).symm.to_iff
    have groups : f6 ↔ storedGroups s n j = 0 := Iff.rfl
    have many : f7 ↔ (s.account j.owner).liveJobs ≥ Config.accountJobs := Iff.rfl
    have share : f8 ↔ entriesInUse s n ≥ (s.tenant n).share := by rw [entriesInUse_eq]
    have table : f9 ↔ lowestFree s = none := lowestFree_eq_none.symm
    have refuse : ∀ c, submitCheck s n j = some c → refused c := fun c => exec_submit_refused hp rd
    refine ⟨fun h1 => refuse _ ?_, fun p1 h2 => refuse _ ?_, fun p1 p2 h3 => refuse _ ?_,
      fun p1 p2 p3 h4 => refuse _ ?_, fun p1 p2 p3 p4 h5 => refuse _ ?_, fun p1 p2 p3 p4 p5 h6 => refuse _ ?_,
      fun p1 p2 p3 p4 p5 p6 h7 => refuse _ ?_, fun p1 p2 p3 p4 p5 p6 p7 h8 => refuse _ ?_,
      fun p1 p2 p3 p4 p5 p6 p7 p8 h9 => refuse _ ?_⟩
    · rw [submitCheck, if_pos (range.1 h1)]
    all_goals rw [submitCheck, if_neg (mt range.2 p1)]
    · rw [if_pos h2]
    all_goals rw [if_neg p2]
    · rw [if_pos (window.1 h3)]
    all_goals rw [if_neg (mt window.2 p3)]
    · rw [if_pos h4]
    all_goals rw [if_neg p4]
    · rw [if_pos h5]
    all_goals rw [if_neg p5]
    · rw [if_pos (groups.1 h6)]
    all_goals rw [if_neg (mt groups.2 p6)]
    · rw [if_pos (many.1 h7)]
    all_goals rw [if_neg (mt many.2 p7)]
    · rw [if_pos (share.1 h8)]
    · rw [if_neg (mt share.2 p8), if_pos (table.1 h9)]

/-! ### COLLECT (R58) -/

/-- R42: a handle that names no entry of the sender. -/
theorem onJob_stranger (p : PortName) (n : Nat) (j : Handle) (act : Job → State × Answer) (s : State)
    (hp : p.tenant = some n)
    (stranger : (s.job j.index).state = .free ∨ (s.job j.index).generation ≠ j.generation ∨ (s.job j.index).tenant ≠ n) :
    onJob p j act s = (s, .refused .noSuchJob) := by
  have unresolved : resolve s n j = none := if_neg fun c => by
    obtain ⟨-, state, generation, tenant⟩ := c
    rcases stranger with h | h | h
    exacts [state h, h generation, h tenant]
  simp only [asTenant, onJob, hp, unresolved, refuse]

/-- R58: the entry a handle names leaves its tenant's finished list and becomes FREE. -/
theorem freeEntry_named {s : State} {n : Nat} {j : Handle} (hg : (s.job j.index).generation = j.generation)
    (ht : (s.job j.index).tenant = n) :
    freeEntry j.index s = (s.setFinishedList n ((s.finishedList n).filter (· ≠ j))).setJob j.index
      (Job.freeAt j.generation) := by
  rw [freeEntry, hg, ht]

theorem final_of_mem {x : JobState} (h : x ∈ [.done, .cancelled, .expired, .failed]) : x.final = true := by
  cases x <;> simp_all [JobState.final]

theorem not_final_of_mem {x : JobState} (h : x ∈ [.held, .queued, .active, .cancelling]) : x.final = false ∧ x ≠ .free := by
  cases x <;> simp_all [JobState.final]

/-- Settles O27: the handle is resolved (`onJob_own`, `onJob_stranger`), and the state of the job it names is final or
live. -/
theorem collectFreesTheEntry : Obligations.CollectFreesTheEntry := by
  intro h n j s hp rd hi
  refine ⟨fun final hg ht => ?_, fun live hg ht => ?_, fun stranger => ?_⟩
  · have ended : ((atOwner h (.collect j) s).job j.index).state.final = true := final_of_mem final
    obtain ⟨-, -, inUse⟩ := final_not_live ended
    refine (request_ready h _ _ s rd).trans ?_
    rw [onJob_own h.port n j _ (atOwner h (.collect j) s) hp hi inUse hg ht, if_pos ended,
      freeEntry_named (s := atOwner h (.collect j) s) hg ht, ← issueAnswer_atOwner]
    rfl
  · obtain ⟨running, inUse⟩ := not_final_of_mem live
    refine request_answers h _ _ s _ rd ((onJob_own h.port n j _ (atOwner h (.collect j) s) hp hi inUse hg ht).trans ?_)
    exact if_neg (by simp [running])
  · exact request_answers h _ _ s _ rd (onJob_stranger h.port n j _ (atOwner h (.collect j) s) hp stranger)

end Sys2Proof.Machine

/-! CANCEL (R52 to R54): what a job's end and the promotion check behind it leave apart. -/

namespace Sys2Proof.Machine

/-! ### What a job's end does to accounts, lists and flags (R20, R23, R50) -/

section
variable (s : State)

theorem account_returnPages (o : Nat) (c : PageClass) (pages i : Nat) :
    (returnPages o c pages s).account i = if i = o then
      { s.account o with reserved := bump c (· - pages) (s.account o).reserved } else s.account i := by
  simp [returnPages]

/-- R20: Return takes the pages off the account's reserved pages, and no other account changes. -/
theorem account_returnBoth (o : Nat) (r : PerClass Nat) (i : Nat) :
    (returnBoth o r s).account i = if i = o then
      { s.account o with
        reserved := ⟨(s.account o).reserved.mono - r.mono, (s.account o).reserved.colour - r.colour⟩ }
      else s.account i := by
  rw [returnBoth, account_returnPages, account_returnPages, account_returnPages, if_pos rfl]
  split <;> rfl

theorem account_lowerLive (o i : Nat) : (lowerLive o s).account i = if i = o then
    { s.account o with liveJobs := (s.account o).liveJobs - 1 } else s.account i := State.account_setAccount ..

section
variable (i : Nat) (f : JobState) (r : EndReason)

/-- R50: of the accounts and tenants, a job's end changes its owner's live jobs. -/
theorem au_enterFinal : (enterFinal i f r s).au = (lowerLive (s.job i).owner s).au := by
  simp only [enterFinal]
  rw [(raiseTenant_frame _ _ _).1]
  split <;> rfl

theorem account_enterFinal (o : Nat) : (enterFinal i f r s).account o = if o = (s.job i).owner then
    { s.account (s.job i).owner with liveJobs := (s.account (s.job i).owner).liveJobs - 1 } else s.account o :=
  (account_congr (au_enterFinal s i f r) o).trans (account_lowerLive s _ o)

theorem tenant_enterFinal (m : Nat) : (enterFinal i f r s).tenant m = s.tenant m :=
  (tenant_congr (au_enterFinal s i f r) m).trans rfl

theorem finishedList_congr {s t : State} (h : t.jt = s.jt) (m : Nat) : t.finishedList m = s.finishedList m := by
  rw [State.finishedList, h, State.finishedList]

/-- R50: the job's handle joins the tail of its tenant's finished list. -/
theorem finishedList_enterFinal (m : Nat) : (enterFinal i f r s).finishedList m = if m = (s.job i).tenant then
    s.finishedList (s.job i).tenant ++ [⟨i, (s.job i).generation⟩] else s.finishedList m := by
  simp only [enterFinal]
  rw [finishedList_congr (raiseTenant_frame _ _ _).2.1, State.finishedList_setFinishedList]
  rcases em ((s.job i).state = .held) with held | held
  · rw [if_pos held]; rfl
  · rw [if_neg held]; rfl

/-- R50, R68: a HELD job that ends leaves every session's lists. -/
theorem session_enterFinal_held (held : (s.job i).state = .held) (m : Nat) (x : Session)
    (hx : (enterFinal i f r s).session m = some x) :
    (⟨i, (s.job i).generation⟩ : Handle) ∉ x.offers ∧ (⟨i, (s.job i).generation⟩ : Handle) ∉ x.withdrawn := by
  have lists : (enterFinal i f r s).ru = (removeFromLists ⟨i, (s.job i).generation⟩ s).ru := by
    simp only [enterFinal]
    rw [(raiseTenant_frame _ _ _).2.2.1, if_pos held]
    rfl
  revert x
  rw [session_congr lists]
  refine State.forall_session _ (fun _ y => ∀ x, y = some x → _ ∉ x.offers ∧ _ ∉ x.withdrawn) (by simp) ?_ m
  intro e he x hx
  obtain ⟨e', -, rfl⟩ := List.mem_map.1 (List.mem_filter.1 he).1
  obtain ⟨x', -, rfl⟩ := Option.map_eq_some_iff.1 hx
  simp

end

end

/-! ### What no move of a job touches -/

section
variable {s t u : State}

theorem Apart.refl (s : State) : Apart s s :=
  ⟨rfl, rfl, rfl, rfl, rfl, rfl, rfl, rfl, rfl, rfl, rfl, fun _ => ⟨rfl, rfl⟩⟩

theorem Apart.trans (h : Apart s t) (h' : Apart t u) : Apart s u := by
  obtain ⟨a1, a2, a3, a4, a5, a6, a7, a8, a9, a10, a11, a12⟩ := h
  obtain ⟨b1, b2, b3, b4, b5, b6, b7, b8, b9, b10, b11, b12⟩ := h'
  exact ⟨b1.trans a1, b2.trans a2, b3.trans a3, b4.trans a4, b5.trans a5, b6.trans a6, b7.trans a7, b8.trans a8,
    b9.trans a9, b10.trans a10, b11.trans a11, fun i => ⟨(b12 i).1.trans (a12 i).1, (b12 i).2.trans (a12 i).2⟩⟩

/-- An update of jobs, lists, sessions, callouts, commands and ports, and of accounts but for balance and used. -/
theorem Apart.of_groups (su : t.su = s.su) (tb : t.tb = s.tb) (rm : t.rm = s.rm) (owed : t.owed = s.owed)
    (pending : t.pending = s.pending) (ft : t.ft = s.ft) (se : t.se = s.se)
    (figures : ∀ i, (t.account i).balance = (s.account i).balance ∧ (t.account i).used = (s.account i).used) :
    Apart s t :=
  ⟨su, tb, rm, owed, pending, by rw [ft], by rw [ft], by rw [se], by rw [se], by rw [se], by rw [se], figures⟩

/-- What the owner keeps apart, the request it answers keeps apart. -/
theorem Apart.answered {h : Head} {r : Request} (a : Answer) (owner : Apart (atOwner h r s) t) :
    Apart s (issueAnswer h r a t) := by
  obtain ⟨su, tb, rm, owed, pending, margin, cls, kw, cw, tolerance, rebase, figures⟩ := owner
  exact ⟨su, tb, rm, owed, pending, margin, cls, kw, cw, tolerance, rebase, figures⟩

theorem returnReservation_apart (j : Job) (s : State) : Apart s (returnReservation j s) := by
  refine .of_groups (by simp) (by simp) (by simp) (by simp) (by simp) (by simp) (by simp) fun i => ?_
  unfold returnReservation
  split
  · rw [account_returnBoth]
    split
    · next e => rw [e]; exact ⟨rfl, rfl⟩
    · exact ⟨rfl, rfl⟩
  · exact ⟨rfl, rfl⟩

theorem setLane_apart (n : Nat) (l : Lane) (x : Option LaneRecord) (s : State) : Apart s (s.setLane n l x) :=
  ⟨rfl, rfl, rfl, rfl, rfl, rfl, rfl, rfl, rfl, rfl, rfl, fun _ => ⟨rfl, rfl⟩⟩

theorem setPrinter_apart (n : Nat) (p : Printer) (s : State) : Apart s (s.setPrinter n p) :=
  ⟨rfl, rfl, rfl, rfl, rfl, rfl, rfl, rfl, rfl, rfl, rfl, fun _ => ⟨rfl, rfl⟩⟩

theorem returnNeeds_apart (n : Nat) (j : Job) (s : State) : Apart s (returnNeeds n j s) := by
  unfold returnNeeds
  split
  · exact .refl s
  · exact foldl_keeps _ Apart .refl (fun _ _ _ => .trans) (fun a l => setLane_apart n l _ a) Lane.all s

theorem outOfQueue_apart (n : Nat) (k : Handle) (j : Job) (s : State) : Apart s (outOfQueue n k j s) :=
  (returnNeeds_apart n j s).trans (setPrinter_apart n _ _)

theorem enterFinal_apart (i : Nat) (f : JobState) (r : EndReason) (s : State) : Apart s (enterFinal i f r s) := by
  refine .of_groups (by simp) (by simp) (by simp) (by simp) (by simp) (by simp) (by simp) fun o => ?_
  rw [account_enterFinal]
  split
  · next e => rw [e]; exact ⟨rfl, rfl⟩
  · exact ⟨rfl, rfl⟩

theorem returnToHeld_apart (i : Nat) (s : State) : Apart s (returnToHeld i s) := by
  unfold returnToHeld
  dsimp only
  split
  · exact enterFinal_apart _ _ _ s
  · refine .of_groups (by simp) (by simp) (by simp) (by simp) (by simp) (by simp) (by simp) fun o => ?_
    rw [account_congr (raiseTenant_frame _ _ _).1]
    exact ⟨rfl, rfl⟩

/-! ### The moves of a promotion check (R89, R95, R102) -/

/-- One move of the operations that a promotion check can set off: a flag is raised; a printer's record changes, its queue
standing; callouts, grace records and histories change; an address's commands change; a QUEUED job becomes ACTIVE, or is sent
back. -/
inductive FleetMove : State → State → Prop
  | raise (p : PortName) (k : NoticeKind) (s : State) : FleetMove s (raise p k s)
  | printer {n : Nat} {p : Printer} {s : State} (queue : p.queue = (s.printer n).queue) : FleetMove s (s.setPrinter n p)
  | callouts (c : CalloutUnit) (s : State) : FleetMove s { s with cu := c }
  | commands (a : Nat) (q : List Command) (s : State) : FleetMove s (s.setCommands a q)
  | active {i : Nat} {s : State} (queued : (s.job i).state = .queued) :
      FleetMove s (s.setJob i { s.job i with state := .active })
  | sendBack {n : Nat} {k : Handle} {s : State} (queued : (s.job k.index).state = .queued) : FleetMove s (requeueJob n k s)

/-- Any number of such moves. -/
abbrev FleetMoves : State → State → Prop := Relation.ReflTransGen FleetMove

theorem FleetMove.once (h : FleetMove s t) : FleetMoves s t := .single h

theorem drainingTest_moves (n : Nat) (s : State) : FleetMoves s (drainingTest n s) := by
  unfold drainingTest
  dsimp only
  split
  · refine .tail (FleetMove.once ?_) (.raise _ _ _)
    exact .printer rfl
  · exact .refl

theorem requeueJobs_moves (n : Nat) (which : Job → Bool) (s : State) : FleetMoves s (requeueJobs n which s) := by
  refine foldl_keeps _ FleetMoves (fun _ => .refl) (fun _ _ _ => .trans) (fun a k => ?_) _ s
  dsimp only
  split
  · next c => exact (FleetMove.sendBack c.1).once
  · exact .refl

theorem announceCallout_moves (n : Nat) (k : CalloutKind) (s : State) : FleetMoves s (announceCallout n k s) := by
  have told := (FleetMove.raise .f .callout s).once
  cases k with
  | service => exact told.trans ((requeueJobs_moves n _ _).trans (drainingTest_moves n _))
  | supply => exact told

theorem raiseItems_moves (n : Nat) (k : CalloutKind) (items : List CalloutItem) (s : State) :
    FleetMoves s (raiseItems n k items s) := by
  unfold raiseItems
  split
  · dsimp only
    split
    · exact .refl
    · exact (FleetMove.callouts _ s).once.trans (announceCallout_moves n k _)
  · split
    · exact .refl
    · split
      · exact (FleetMove.callouts _ s).once.trans (announceCallout_moves n k _)
      · unfold deferRaise
        split <;> exact (FleetMove.callouts _ s).once

theorem serviceRaise_moves (n : Nat) (kinds : List ConditionKind) (s : State) : FleetMoves s (serviceRaise n kinds s) := by
  unfold serviceRaise
  split
  · exact .refl
  · exact raiseItems_moves n _ _ s

theorem tellOnset_moves (n : Nat) (k : ConditionKind) (s : State) : FleetMoves s (tellOnset n k s) := by
  have noted := (FleetMove.callouts { s.cu with history := Table.set 0 s.cu.history n (s.history n ||| k.only) } s).once
  unfold tellOnset
  dsimp only
  split
  · exact noted
  · split
    · exact noted.tail (.callouts _ _)
    · exact (noted.tail (.callouts _ _)).trans (serviceRaise_moves n _ _)

theorem addCondition_moves (n : Nat) (k : ConditionKind) (s : State) : FleetMoves s (addCondition n k s) := by
  unfold addCondition
  dsimp only
  split
  · exact .refl
  · refine .trans (FleetMove.once ?_) (tellOnset_moves n k _)
    exact .printer rfl

theorem silenceRunOut_moves (n : Nat) (s : State) : FleetMoves s (silenceRunOut n s) := by
  refine .trans (FleetMove.once ?_) (addCondition_moves n .unreachable _)
  exact .printer rfl

theorem issue_moves (n : Nat) (c : Command) (s : State) : FleetMoves s (issue n c s) := by
  unfold issue
  dsimp only
  split
  · exact (FleetMove.commands _ _ s).once
  · exact (silenceRunOut_moves n s).tail (.commands _ _ _)

theorem promotionCheck_moves (n : Nat) (s : State) : FleetMoves s (promotionCheck n s) := by
  unfold promotionCheck
  split
  · exact .refl
  · next k rest hq =>
    split
    · next may =>
      have queued : (s.job k.index).state = .queued := by
        simp only [mayPromote, Bool.and_eq_true, beq_iff_eq] at may
        obtain ⟨⟨⟨⟨queued, -⟩, -⟩, -⟩, -⟩ := may
        exact queued
      refine .tail (.trans (.tail (FleetMove.active queued).once ?_) (issue_moves n _ _)) (.raise _ _ _)
      exact .printer rfl
    · exact .refl

theorem afterEnd_moves (n : Nat) (s : State) : FleetMoves s (afterEnd n s) :=
  (promotionCheck_moves n s).trans (drainingTest_moves n _)

theorem FleetMove.apart (h : FleetMove s t) : Apart s t := by
  cases h with
  | raise p k =>
    refine .of_groups (by simp) (by simp) (by simp) (by simp) (by simp) (by simp) (by simp) fun o => ?_
    rw [account_congr (raise_frame _ _ _).1]
    exact ⟨rfl, rfl⟩
  | printer queue => exact setPrinter_apart _ _ s
  | callouts c => exact .refl s
  | commands a q => exact .refl s
  | active queued => exact .refl s
  | sendBack queued =>
    rw [requeueJob_eq]
    exact (returnReservation_apart _ s).trans ((outOfQueue_apart _ _ _ _).trans (returnToHeld_apart _ _))

/-- No job joins a dispatch queue. -/
theorem FleetMove.queue (h : FleetMove s t) (m : Nat) : (t.printer m).queue ⊆ (s.printer m).queue := by
  cases h with
  | raise p k => rw [printer_congr (raise_frame _ _ _).2.2.2.1]; exact List.Subset.refl _
  | @printer n p _ queue =>
    rw [State.printer_setPrinter]
    split
    · next e => rw [queue, e]; exact List.Subset.refl _
    · exact List.Subset.refl _
  | callouts c => exact List.Subset.refl _
  | commands a q => exact List.Subset.refl _
  | active queued => exact List.Subset.refl _
  | @sendBack n k _ queued =>
    obtain ⟨-, -, -, -, -, printer, -⟩ := outOfQueue_frame n k (s.job k.index) (returnReservation (s.job k.index) s)
    rw [requeueJob_eq, printer_congr (returnToHeld_frame _ _).1, printer]
    have kept : ∀ m, (returnReservation (s.job k.index) s).printer m = s.printer m :=
      printer_congr (returnReservation_adjusted _ s).ft
    split
    · next e => rw [kept, e]; exact List.filter_subset_self _
    · rw [kept]; exact List.Subset.refl _

theorem FleetMoves.apart (h : FleetMoves s t) : Apart s t :=
  Relation.ReflTransGen.trans_induction_on (motive := fun {a b} _ => Apart a b) h .refl FleetMove.apart fun _ _ => .trans

theorem FleetMoves.queue (h : FleetMoves s t) (m : Nat) : (t.printer m).queue ⊆ (s.printer m).queue := by
  induction h with
  | refl => exact List.Subset.refl _
  | tail _ last ih => exact fun _ hx => ih (last.queue m hx)

end

/-! ### CANCEL of a QUEUED job (R53) -/

/-- R53: a QUEUED job out of its queue, its claims returned, ended CANCELLED. -/
def endQueued (n : Nat) (k : Handle) (s : State) : State :=
  enterFinal k.index .cancelled .cancelledByTenant
    (outOfQueue n k (s.job k.index) (returnReservation (s.job k.index) s))

section
variable (n : Nat) (k : Handle) (s : State)

theorem cancelQueued_eq : cancelQueued n k s = afterEnd n (endQueued n k s) := by
  rw [endQueued, ← returnNeeds_leaveQueue, ← returnReservation_leaveQueue]
  rfl

/-- The claims' return leaves the Job Table, the sessions and the time base. -/
theorem claimsReturned_frame (j : Job) :
    (outOfQueue n k j (returnReservation j s)).jt = s.jt ∧ (outOfQueue n k j (returnReservation j s)).ru = s.ru ∧
      (outOfQueue n k j (returnReservation j s)).tb = s.tb := by
  obtain ⟨-, jt, ru, -, tb, -⟩ := outOfQueue_frame n k j (returnReservation j s)
  exact ⟨by simp [jt], by simp [ru], by simp [tb]⟩

theorem job_endQueued (x : Nat) : (endQueued n k s).job x = if x = k.index then { s.job k.index with
    state := .cancelled, endReason := some .cancelledByTenant, finished := s.now, reservation := none, needs := none }
    else s.job x := by
  obtain ⟨jt, -, tb⟩ := claimsReturned_frame n k s (s.job k.index)
  rw [endQueued, job_enterFinal, job_congr jt, job_congr jt, State.now, tb]
  rfl

theorem account_endQueued {r : PerClass Nat} (reservation : (s.job k.index).reservation = some r) (o : Nat) :
    (endQueued n k s).account o = if o = (s.job k.index).owner then
      { s.account (s.job k.index).owner with
        reserved := ⟨(s.account (s.job k.index).owner).reserved.mono - r.mono,
          (s.account (s.job k.index).owner).reserved.colour - r.colour⟩
        liveJobs := (s.account (s.job k.index).owner).liveJobs - 1 } else s.account o := by
  obtain ⟨jt, -⟩ := claimsReturned_frame n k s (s.job k.index)
  obtain ⟨au, -⟩ := outOfQueue_frame n k (s.job k.index) (returnReservation (s.job k.index) s)
  have paid : ∀ i, (returnReservation (s.job k.index) s).account i = (returnBoth (s.job k.index).owner r s).account i :=
    fun i => by rw [returnReservation, reservation]
  rw [endQueued, account_enterFinal, job_congr jt, account_congr au, account_congr au, paid, paid, account_returnBoth,
    account_returnBoth, if_pos rfl]
  split <;> rfl

theorem finishedList_endQueued (m : Nat) : (endQueued n k s).finishedList m = if m = (s.job k.index).tenant then
    s.finishedList (s.job k.index).tenant ++ [⟨k.index, (s.job k.index).generation⟩] else s.finishedList m := by
  obtain ⟨jt, -⟩ := claimsReturned_frame n k s (s.job k.index)
  rw [endQueued, finishedList_enterFinal, job_congr jt, finishedList_congr jt, finishedList_congr jt]

theorem printer_endQueued (m : Nat) : (endQueued n k s).printer m =
    if m = n then { s.printer n with queue := (s.printer n).queue.filter (· ≠ k) } else s.printer m := by
  obtain ⟨-, -, -, -, -, printer, -⟩ := outOfQueue_frame n k (s.job k.index) (returnReservation (s.job k.index) s)
  have kept : ∀ m, (returnReservation (s.job k.index) s).printer m = s.printer m :=
    printer_congr (returnReservation_adjusted _ s).ft
  rw [endQueued, printer_congr (enterFinal_frame _ _ _ _).1, printer, kept, kept]

theorem lane_endQueued (m : Nat) (l : Lane) : (endQueued n k s).lane m l = (s.lane m l).map (fun x =>
    if m = n then { x with committed := x.committed - recordedNeed (s.job k.index) l } else x) := by
  obtain ⟨-, -, -, -, -, -, lane⟩ := outOfQueue_frame n k (s.job k.index) (returnReservation (s.job k.index) s)
  rw [endQueued, lane_congr (enterFinal_frame _ _ _ _).2.1, lane, lane_congr (returnReservation_adjusted _ s).se]

theorem endQueued_frame (queued : (s.job k.index).state = .queued) :
    (endQueued n k s).ru = s.ru ∧ (endQueued n k s).su = s.su ∧ (endQueued n k s).cu = s.cu ∧
      (endQueued n k s).flc = s.flc ∧ (endQueued n k s).tb = s.tb := by
  obtain ⟨jt, ru, -⟩ := claimsReturned_frame n k s (s.job k.index)
  refine ⟨?_, by simp [endQueued, outOfQueue], by simp [endQueued, outOfQueue], by simp [endQueued, outOfQueue],
    by simp [endQueued, outOfQueue]⟩
  rw [endQueued, sessions_enterFinal _ _ _ _ (by rw [job_congr jt, queued]; decide), ru]

theorem finished_endQueued :
    hasNotice ((endQueued n k s).port (PortName.ofTenant (s.job k.index).tenant)).flags .finished = true := by
  obtain ⟨jt, -⟩ := claimsReturned_frame n k s (s.job k.index)
  rw [← job_congr jt]
  exact (flags_enterFinal _ _ _ _).2

theorem endQueued_apart : Apart s (endQueued n k s) :=
  (returnReservation_apart _ s).trans ((outOfQueue_apart _ _ _ _).trans (enterFinal_apart _ _ _ _))

end

section
variable {n : Nat} {s : State} (empty : (s.printer n).queue = [])
include empty

/-- R95: an empty queue has no job to promote. -/
theorem afterEnd_empty : afterEnd n s = drainingTest n s := by
  rw [afterEnd, promotionCheck, empty]

/-- R89: a DRAINING printer whose queue is empty goes OUT_OF_SERVICE. -/
theorem printer_drainingTest_empty : (drainingTest n s).printer n =
    { s.printer n with admin := if (s.printer n).admin = .draining then .outOfService else (s.printer n).admin } := by
  unfold drainingTest
  dsimp only
  split
  · next c =>
    obtain ⟨draining, -⟩ := c
    rw [printer_congr (raise_frame _ _ _).2.2.2.1, State.printer_setPrinter, if_pos rfl, if_pos draining]
  · next c => rw [if_neg fun draining => c ⟨draining, empty⟩]

end

theorem flagsStay_drainingTest (n : Nat) (s : State) : FlagsStay s (drainingTest n s) := by
  unfold drainingTest
  dsimp only
  split
  · exact flagsStay_raise _ _ (s.setPrinter n _)
  · exact fun _ _ h => h

/-! ### CANCEL (R52 to R54) -/

/-- R159: a command for an address whose queue has room joins its tail. -/
theorem issue_room {n : Nat} {c : Command} {s : State} (room : (s.commands n).length < 8) :
    issue n c s = s.setCommands n (s.commands n ++ [c]) := if_pos room

/-- R54: an ACTIVE job becomes CANCELLING, and ABORT joins its printer's commands. -/
theorem cancelActive_room {n g : Nat} {k : Handle} {s : State} (grant : (s.job k.index).grant = some g)
    (room : (s.commands n).length < 8) : cancelActive n k s =
      (s.setJob k.index { s.job k.index with state := .cancelling }).setCommands n (s.commands n ++ [.abort g]) := by
  simp only [cancelActive, grant, Option.getD_some]
  exact issue_room room

section
variable {h : Head} {n : Nat} {j : Handle} {s : State} (hp : h.port.tenant = some n) (rd : Ready h (.cancel j) s)
  (hi : j.index < 256) (hg : (s.job j.index).generation = j.generation) (ht : (s.job j.index).tenant = n)
include hp rd hi hg ht

/-- R52: a CANCEL of the sender's own job does what its state asks for, and is answered. -/
theorem exec_cancel {u : State} {a : Answer} (inUse : (s.job j.index).state ≠ .free)
    (acts : cancelJob j (s.job j.index) (atOwner h (.cancel j) s) = (u, a)) :
    exec (.cancel h j) s = .next (issueAnswer h (.cancel j) a u) := by
  refine (request_ready h _ _ s rd).trans ?_
  rw [onJob_own h.port n j _ (atOwner h (.cancel j) s) hp hi inUse hg ht]
  exact congrArg (fun x : State × Answer => Host.Outcome.next (issueAnswer h (.cancel j) x.2 x.1)) acts

theorem exec_cancel_held (held : (s.job j.index).state = .held) :
    exec (.cancel h j) s = .next (issueAnswer h (.cancel j) (.accepted (.jobState .cancelled))
      (enterFinal j.index .cancelled .cancelledByTenant (atOwner h (.cancel j) s))) :=
  exec_cancel hp rd hi hg ht (by rw [held]; decide) (by rw [cancelJob, held]; rfl)

theorem exec_cancel_queued {p : Nat} (queued : (s.job j.index).state = .queued) (printer : (s.job j.index).printer = some p) :
    exec (.cancel h j) s = .next (issueAnswer h (.cancel j) (.accepted (.jobState .cancelled))
      (afterEnd p (endQueued p j (atOwner h (.cancel j) s)))) :=
  exec_cancel hp rd hi hg ht (by rw [queued]; decide)
    (by rw [← cancelQueued_eq, cancelJob, queued, printer]; rfl)

theorem exec_cancel_active {p g : Nat} (active : (s.job j.index).state = .active)
    (printer : (s.job j.index).printer = some p) (grant : (s.job j.index).grant = some g) (room : (s.commands p).length < 8) :
    exec (.cancel h j) s = .next
      (((answered h (.cancel j) (.accepted (.jobState .cancelling)) s).setJob j.index
          { s.job j.index with state := .cancelling }).setCommands p (s.commands p ++ [.abort g])) := by
  have acts : cancelJob j (s.job j.index) (atOwner h (.cancel j) s) =
      (((atOwner h (.cancel j) s).setJob j.index { s.job j.index with state := .cancelling }).setCommands p
        (s.commands p ++ [.abort g]), .accepted (.jobState .cancelling)) := by
    rw [cancelJob, active, printer]
    exact congrArg (accept (.jobState .cancelling)) (cancelActive_room (s := atOwner h (.cancel j) s) grant room)
  rw [exec_cancel hp rd hi hg ht (by rw [active]; decide) acts, ← issueAnswer_atOwner]
  rfl

theorem exec_cancel_ended (ended : (s.job j.index).state ∈ [.cancelling, .done, .cancelled, .expired, .failed]) :
    exec (.cancel h j) s = .next (answered h (.cancel j) (.refused .badState) s) := by
  rw [← issueAnswer_atOwner]
  refine exec_cancel hp rd hi hg ht (fun e => by simp [e] at ended) ?_
  simp only [List.mem_cons, List.not_mem_nil, or_false] at ended
  rcases ended with e | e | e | e | e <;> rw [cancelJob, e] <;> rfl

end

/-- Settles O26: in each state CANCEL is the move that `exec_cancel_held`, `exec_cancel_queued`, `exec_cancel_active` or
`exec_cancel_ended` names. The lemmas of that move give the records; what follows behind a job that leaves a longer queue is
a run of `FleetMoves`. -/
theorem cancelActsOnTheState : Obligations.CancelActsOnTheState := by
  intro h n j s hp rd hi hg ht
  have named : (⟨j.index, (s.job j.index).generation⟩ : Handle) = j := by rw [hg]
  have listed : s.finishedList (s.job j.index).tenant ++ [⟨j.index, (s.job j.index).generation⟩] =
      s.finishedList n ++ [j] := by rw [named, ht]
  set s₀ := atOwner h (.cancel j) s
  refine ⟨fun held => ?_, fun p r ν queued printer alone reservation needs => ?_, fun p _ queued printer => ?_,
    fun p g active printer grant room => exec_cancel_active hp rd hi hg ht active printer grant room,
    fun ended => exec_cancel_ended hp rd hi hg ht ended⟩
  · have account := account_enterFinal s₀ j.index .cancelled .cancelledByTenant
    have list := finishedList_enterFinal s₀ j.index .cancelled .cancelledByTenant
    obtain ⟨ft, se, su, cu, flc, tb, -, -, owed, -⟩ := enterFinal_frame j.index .cancelled .cancelledByTenant s₀
    refine ⟨_, exec_cancel_held hp rd hi hg ht held, (job_enterFinal _ _ _ s₀ _).trans (if_pos rfl),
      fun i other => (job_enterFinal _ _ _ s₀ i).trans (if_neg other), (account _).trans (if_pos rfl),
      fun i other => (account i).trans (if_neg other), tenant_enterFinal s₀ _ _ _,
      (list n).trans ((if_pos ht.symm).trans listed), fun m other => (list m).trans (if_neg fun e => other (e.trans ht)),
      fun m x hx => ?_, ?_, rfl, ft, se, su, cu, flc, tb, owed⟩
    · rw [← named]
      exact session_enterFinal_held s₀ _ _ _ held m x hx
    · rw [issueAnswer_flags, ← ht]
      exact (flags_enterFinal _ _ _ s₀).2
  · set e := endQueued p j s₀
    have record : e.printer p = { s.printer p with queue := [] } := by
      refine (printer_endQueued p j s₀ p).trans ((if_pos rfl).trans ?_)
      rw [show s₀.printer p = s.printer p from rfl, alone]
      simp
    have empty : (e.printer p).queue = [] := by rw [record]
    obtain ⟨dau, djt, dru, dse, dsu, dcu, dflc, dtb, -⟩ := drainingTest_frame p e
    obtain ⟨ru, su, cu, flc, tb⟩ := endQueued_frame p j s₀ queued
    have ends := exec_cancel_queued hp rd hi hg ht queued printer
    rw [afterEnd_empty empty] at ends
    refine ⟨_, ends, (job_congr djt _).trans ((job_endQueued p j s₀ _).trans (if_pos rfl)), ?_,
      (account_congr dau _).trans ((account_endQueued p j s₀ reservation _).trans (if_pos rfl)), fun l x hx => ?_,
      (finishedList_congr djt n).trans ((finishedList_endQueued p j s₀ n).trans ((if_pos ht.symm).trans listed)), ?_, rfl,
      dsu.trans su, dcu.trans cu, dflc.trans flc, dtb.trans tb, dru.trans ru⟩
    · refine (printer_drainingTest_empty empty).trans ?_
      rw [record]
    · refine (lane_congr dse p l).trans ((lane_endQueued p j s₀ p l).trans ?_)
      rw [show s₀.lane p l = some x from hx, show s₀.job j.index = s.job j.index from rfl]
      simp [recordedNeed, needs]
    · rw [issueAnswer_flags, ← ht]
      exact flagsStay_drainingTest p e _ _ (finished_endQueued p j s₀)
  · set e := endQueued p j s₀
    have moves : FleetMoves e (afterEnd p e) := afterEnd_moves p e
    have cancelled : (e.job j.index).state = .cancelled := by rw [job_endQueued, if_pos rfl]
    have out : j ∉ (e.printer p).queue := by rw [printer_endQueued, if_pos rfl]; simp
    have still := (afterEnd_calm p e).jobs j.index (by rw [cancelled]; decide)
    exact ⟨_, exec_cancel_queued hp rd hi hg ht queued printer, (congrArg Job.state still).trans cancelled,
      fun hj => out (moves.queue p hj), rfl, .answered _ ((endQueued_apart p j s₀).trans moves.apart)⟩

end Sys2Proof.Machine

/-! SET_PANEL_TIMEOUT and SESSION_END (R62, R71), and what the moves of a promotion check leave of the Release Unit. -/

namespace Sys2Proof.Machine

/-! ### What the moves of a promotion check leave of the Release Unit -/

section
variable {s t : State} (n : Nat)

/-- No such move touches the Release Unit: a job sent back was QUEUED, and no list holds it. -/
theorem FleetMove.ru (h : FleetMove s t) : t.ru = s.ru := by
  cases h with
  | raise p k => simp
  | printer queue => rfl
  | callouts c => rfl
  | commands a q => rfl
  | active queued => rfl
  | @sendBack n k _ queued =>
    obtain ⟨jt, ru, -⟩ := claimsReturned_frame n k s (s.job k.index)
    rw [requeueJob_eq, sessions_returnToHeld _ _ (by rw [job_congr jt, queued]; decide), ru]

theorem FleetMoves.ru (h : FleetMoves s t) : t.ru = s.ru := by
  induction h with
  | refl => rfl
  | tail _ last ih => exact last.ru.trans ih

theorem makeCallout_moves (k : CalloutKind) (items : List CalloutItem) (s : State) :
    FleetMoves s (makeCallout n k items s) :=
  (FleetMove.callouts _ s).once.trans (announceCallout_moves n k _)

theorem serveDeferral_moves (d : Deferral) (s : State) : FleetMoves s (serveDeferral d s) := by
  have dropped := (FleetMove.callouts { s.cu with deferrals := s.cu.deferrals.drop 1 } s).once
  unfold serveDeferral
  dsimp only
  split
  · exact dropped
  · exact dropped.trans (makeCallout_moves _ _ _ _)

theorem serveDeferrals_moves (s : State) : FleetMoves s (serveDeferrals s) := by
  refine foldl_keeps _ FleetMoves (fun _ => .refl) (fun _ _ _ => .trans) (fun a d => ?_) _ s
  split
  · exact serveDeferral_moves d a
  · exact .refl

theorem dropItem_moves (k : CalloutKind) (item : CalloutItem) (s : State) : FleetMoves s (dropItem n k item s) := by
  have left : FleetMoves s (dropCalloutItem n k item s) := by
    unfold dropCalloutItem
    split
    · exact .refl
    · split
      · split
        · exact (FleetMove.callouts _ s).once.trans (serveDeferrals_moves _)
        · exact (FleetMove.callouts _ s).once
      · exact .refl
  exact left.tail (.callouts _ _)

theorem tellCleared_moves (k : ConditionKind) (s : State) : FleetMoves s (tellCleared n k s) := by
  unfold tellCleared
  split
  · exact .refl
  · exact (FleetMove.callouts _ s).once.trans (dropItem_moves n .service (.condition k) _)

theorem removeCondition_moves (k : ConditionKind) (s : State) : FleetMoves s (removeCondition n k s) := by
  unfold removeCondition
  dsimp only
  split
  · have told : FleetMoves s (tellCleared n k
        (s.setPrinter n { s.printer n with conditions := Table.set none (s.printer n).conditions k.code none })) := by
      refine .trans (FleetMove.once ?_) (tellCleared_moves n k _)
      exact .printer rfl
    split
    · exact told.trans (promotionCheck_moves n _)
    · exact told
  · exact .refl

theorem setSupplyOut_moves (l : Lane) (out : Bool) (s : State) : FleetMoves s (setSupplyOut n l out s) := by
  unfold setSupplyOut
  dsimp only
  have listed : FleetMove s (s.setPrinter n { s.printer n with supplyOut := withLane (s.printer n).supplyOut l out }) :=
    .printer rfl
  refine listed.once.trans (.trans ?_ (promotionCheck_moves n _))
  split
  · exact removeCondition_moves n .supplyOut _
  · exact addCondition_moves n .supplyOut _

/-! ### A warm reset (R61, R112) -/

/-- R111: the effects of a lane's state reach no session, no panel timeout and no grant. -/
theorem ru_laneEffects (l : Lane) (old new : LaneState) (s : State) : (laneEffects n l old new s).ru = s.ru := by
  have out : FleetMoves s (supplyOutEffect n l old new s) := by
    unfold supplyOutEffect
    split
    · exact setSupplyOut_moves n l true s
    · split
      · exact setSupplyOut_moves n l false s
      · exact .refl
  have called : ∀ u, FleetMoves u (calloutEffect n l old new u) := fun u => by
    unfold calloutEffect
    split
    · exact raiseItems_moves n .supply _ u
    · split
      · exact dropItem_moves n .supply _ u
      · exact .refl
  have claimed : ∀ u, (claimEffect n l old new u).ru = u.ru := fun u => by
    unfold claimEffect
    split
    · simp
    · split <;> simp
  rw [laneEffects, claimed, (called _).ru, out.ru]

theorem ru_reconcileLane (l : Lane) (s : State) : (reconcileLane n l s).ru = s.ru := by
  unfold reconcileLane
  split
  · rfl
  · exact ru_laneEffects n l _ _ _

theorem ru_reconcileLanes (s : State) : (reconcileLanes s).ru = s.ru := by
  refine foldl_keeps _ (fun a b => b.ru = a.ru) (fun _ => rfl) (fun _ _ _ h h' => h'.trans h) (fun a m => ?_) _ s
  exact foldl_keeps _ (fun a b => b.ru = a.ru) (fun _ => rfl) (fun _ _ _ h h' => h'.trans h)
    (fun b l => ru_reconcileLane m l b) Lane.all a

theorem ru_drainAll (s : State) : (drainAll s).ru = s.ru :=
  foldl_keeps _ (fun a b => b.ru = a.ru) (fun _ => rfl) (fun _ _ _ h h' => h'.trans h)
    (fun a m => (drainingTest_moves m a).ru) _ s

/-- R61, R177: a warm reset leaves the Release Unit at its reset values. -/
theorem ru_warmReset (c : ResetCause) (s : State) : (warmReset c s).ru = ReleaseUnit.cold := by
  rw [warmReset, ru_reconcileLanes, ru_drainAll]
  rfl

end

/-! ### SET_PANEL_TIMEOUT (R62) -/

/-- R65: what a badge opens: the session of the account, with the offers of now. -/
theorem session_openSession (n a : Nat) (s : State) : (openSession n a s).session n =
    some ⟨a, (owningTenant s a).getD 0, offerList s n a, [], s.ru.panelTimeout⟩ := by
  rw [openSession, session_congr (issue_moves _ _ _).ru, State.session_setSession, if_pos rfl]

/-- Settles O28: the owner's two branches, the port check of R167, `session_openSession`, and the Release Unit's reset
values. -/
theorem panelTimeoutIsSet : Obligations.PanelTimeoutIsSet := by
  refine ⟨fun h m s _ rd => ⟨fun low high => ?_, fun out => ?_⟩, fun h m s tenant st wf att => ?_, fun n a s => ?_,
    fun c s => ⟨rfl, by rw [ru_warmReset]; rfl⟩⟩
  · have inside : inRange 1 15 m = true := by simp [inRange, low, high]
    show request h _ _ s = _
    rw [request_ready h _ _ s rd, if_neg (not_not.2 inside), ← issueAnswer_atOwner]
    rfl
  · have outside : ¬inRange 1 15 m = true := by simp only [inRange, Bool.and_eq_true, decide_eq_true_eq]; omega
    exact request_answers h _ _ s _ rd (if_pos outside)
  · refine request_checked h _ _ s .wrongPort st ?_
    have attached : s.attached h.port = true := by simp [State.attached, att]
    have denied : allowedOn h.port (.setPanelTimeout m) = false := by simp [allowedOn, portRule, PortName.isTenant, tenant]
    simp [mpcCheck, wf, formOk, attached, denied]
  · exact ⟨_, session_openSession n a s, rfl⟩

/-! ### SESSION_END (R71) -/

/-- R156: a report heard, its fields in range and no HELLO, is taken by its owner behind the presence step. -/
theorem takeReport_heard {l : LinkFrame} {k : ReportKind} {owner : State → State} {s : State} (hk : k ≠ .hello)
    (h : Heard l s) : takeReport l k true owner s = owner (heard l.address s.begin) := by
  obtain ⟨on, ok, address, enrolled, present⟩ := h
  have enrolled' : (s.begin.printer l.address).enrolled = true := enrolled
  have present' : ¬((s.begin.printer l.address).presence = .unknown ∧ k ≠ .hello) := fun c => by
    rw [show (s.begin.printer l.address).presence = .present from present] at c
    cases c.1
  rw [takeReport, if_neg on]
  dsimp only
  rw [if_neg (not_not.2 ⟨ok, address, rfl⟩), if_neg (not_not.2 enrolled'), if_neg present', if_neg hk]

/-- Settles O33: the presence step restarts the silence count, or clears UNREACHABLE, and the owner closes the session. -/
theorem sessionEndClosesTheSession : Obligations.SessionEndClosesTheSession := by
  have plain : ∀ (l : LinkFrame) (s : State), HeardPlainly l s →
      exec (.sessionEnd l) s = .next ((restarted l.address s).setSession l.address none) := fun l s heard =>
    congrArg Host.Outcome.next (takeReport_plain l .sessionEnd _ s (by decide) heard)
  refine ⟨plain, fun l s heard closed => ⟨_, plain l s heard, fun m => ?_, rfl, rfl, ?_⟩, fun l s hs => ?_⟩
  · rw [State.session_setSession]
    split
    · next e => rw [e, closed]
    · rfl
  · simp [restarted]
  · refine ⟨_, congrArg Host.Outcome.next (takeReport_heard (k := .sessionEnd) (by decide) hs), ?_⟩
    rw [session_endSession, if_pos rfl]

end Sys2Proof.Machine

/-! The nine checks of a job at a SELECT (R74 to R78), each read as its rule states it. -/

namespace Sys2Proof.Machine

section
variable (s : State) (n : Nat) (j : Job) (p : Printer)

/-- R74: a printer is blocked by the kinds that block it for every class. -/
theorem blocked_iff : p.blocked = true ↔
    ∃ k ∈ [ConditionKind.jam, .doorOpen, .paperOut, .hardware, .unreachable, .mismatch], p.holds k = true := by
  simp [Printer.blocked, ConditionKind.graced, ConditionKind.blocks]

/-- R75. -/
theorem supplyBlocks_iff (pages : PerClass Nat) : p.supplyBlocks pages = true ↔
    p.holds .supplyOut = true ∧ (hasLane p.supplyOut .k = true ∨ (0 < pages.colour ∧
      (hasLane p.supplyOut .c = true ∨ hasLane p.supplyOut .m = true ∨ hasLane p.supplyOut .y = true))) := by
  simp [Printer.supplyBlocks, or_assoc]

/-- R76. -/
theorem policyForbids_iff (q : Policy) : policyForbids q j = true ↔
    q.maxPages < j.pages.mono + j.pages.colour ∨ (0 < j.pages.colour ∧ q.colourAllowed = false) := by
  simp [policyForbids]

theorem effectiveLevel_eq_levelOf (x : LaneRecord) (capacity : Nat) : effectiveLevel x capacity = levelOf x capacity := rfl

/-- R113: the need in a lane is the rule's, rounded up. -/
theorem laneNeed_eq_needOf (l : Lane) : laneNeed s n l j = needOf s n l j := by
  unfold laneNeed needOf
  cases s.lane n l with
  | none => rfl
  | some x => cases l <;> rfl

theorem mem_lanesUsed (l : Lane) : l ∈ lanesUsed j ↔ l = .k ∨ 0 < j.pages.colour := by
  unfold lanesUsed
  split
  · next colour => cases l <;> simp [Lane.all, colour]
  · next mono => simp [mono]

theorem laneShort_iff (l : Lane) : laneShort s n j l = true ↔ ∃ r, s.lane n l = some r ∧
    (levelOf r (s.ctype r.type).capacity : Int) - (r.committed : Int) < (needOf s n l j : Int) := by
  unfold laneShort
  cases s.lane n l with
  | none => simp
  | some x => simp [laneNeed_eq_needOf, effectiveLevel_eq_levelOf]

/-- R77. -/
theorem short_iff : (lanesUsed j).any (laneShort s n j) = true ↔
    ∃ l r, (l = .k ∨ 0 < j.pages.colour) ∧ s.lane n l = some r ∧
      ((levelOf r (s.ctype r.type).capacity : Int) - (r.committed : Int) < (needOf s n l j : Int)) := by
  simp [List.any_eq_true, mem_lanesUsed, laneShort_iff]

theorem PageClass.exists_iff (P : PageClass → Prop) : (∃ c, P c) ↔ P .mono ∨ P .colour :=
  ⟨fun ⟨c, h⟩ => by cases c <;> simp [h], fun h => h.elim (fun h => ⟨_, h⟩) fun h => ⟨_, h⟩⟩

theorem overCeiling_iff (t : Tenant) (c : PageClass) : overCeiling t j c = true ↔
    ∃ m, 0 < j.pages.get c ∧ t.ceiling.get c = some m ∧ m < t.used.get c + t.reserved.get c + j.pages.get c := by
  simp only [overCeiling, Bool.and_eq_true, decide_eq_true_eq, Option.any_eq_true, gt_iff_lt, exists_and_left]

theorem overQuota_iff (a : Account) (q : Policy) (c : PageClass) : overQuota a q j c = true ↔
    0 < j.pages.get c ∧ a.balance.get c - (a.reserved.get c : Int) +
      (if q.overdraftAllowed = true then (a.overdraft.get c : Int) else 0) < (j.pages.get c : Int) := by
  simp [overQuota]

end

/-- R74 to R78: the nine checks as one chain. -/
theorem selectCheck_eq (s : State) (n : Nat) (x : Session) (h : Handle) : selectCheck s n x h =
    if ¬(h ∈ x.offers ∨ h ∈ x.withdrawn) then some .stale
    else if h ∈ x.withdrawn ∨ ¬s.attached (PortName.ofTenant (s.job h.index).tenant) = true then some .gatewayAway
    else releaseCheck s n (s.job h.index) := by
  unfold selectCheck offerCheck
  split_ifs <;> rfl

/-- R74 to R78: the checks in their order, from what each condition says. -/
theorem selectCheck_order {s : State} {n : Nat} {x : Session} {h : Handle} {f1 f2 f3 f4 f5 f6 f7 f8 f9 : Prop}
    (c1 : ¬(h ∈ x.offers ∨ h ∈ x.withdrawn) ↔ f1)
    (c2 : (h ∈ x.withdrawn ∨ ¬s.attached (PortName.ofTenant (s.job h.index).tenant) = true) ↔ f2)
    (c3 : ((s.printer n).admin ≠ .inService ∨ (s.printer n).blocked = true) ↔ f3)
    (c4 : classUnavailable (s.printer n) (s.job h.index) = true ↔ f4)
    (c5 : policyForbids (activePolicy s (s.job h.index).tenant) (s.job h.index) = true ↔ f5)
    (c6 : (s.printer n).queue.length ≥ Config.dispatchDepth ↔ f6)
    (c7 : (lanesUsed (s.job h.index)).any (laneShort s n (s.job h.index)) = true ↔ f7)
    (c8 : (∃ c, overCeiling (s.tenant (s.job h.index).tenant) (s.job h.index) c = true) ↔ f8)
    (c9 : (∃ c, overQuota (s.account (s.job h.index).owner) (activePolicy s (s.job h.index).tenant) (s.job h.index) c =
      true) ↔ f9) :
    (f1 → selectCheck s n x h = some .stale) ∧
    (¬f1 → f2 → selectCheck s n x h = some .gatewayAway) ∧
    (¬f1 → ¬f2 → f3 → selectCheck s n x h = some .printerUnavailable) ∧
    (¬f1 → ¬f2 → ¬f3 → f4 → selectCheck s n x h = some .classUnavailable) ∧
    (¬f1 → ¬f2 → ¬f3 → ¬f4 → f5 → selectCheck s n x h = some .policyLimit) ∧
    (¬f1 → ¬f2 → ¬f3 → ¬f4 → ¬f5 → f6 → selectCheck s n x h = some .printerBusy) ∧
    (¬f1 → ¬f2 → ¬f3 → ¬f4 → ¬f5 → ¬f6 → f7 → selectCheck s n x h = some .insufficientSupply) ∧
    (¬f1 → ¬f2 → ¬f3 → ¬f4 → ¬f5 → ¬f6 → ¬f7 → f8 → selectCheck s n x h = some .tenantCeiling) ∧
    (¬f1 → ¬f2 → ¬f3 → ¬f4 → ¬f5 → ¬f6 → ¬f7 → ¬f8 → f9 → selectCheck s n x h = some .quota) ∧
    (¬f1 → ¬f2 → ¬f3 → ¬f4 → ¬f5 → ¬f6 → ¬f7 → ¬f8 → ¬f9 → selectCheck s n x h = none) := by
  rw [PageClass.exists_iff] at c8 c9
  rw [← c1, ← c2, ← c3, ← c4, ← c5, ← c6, ← c7, ← c8, ← c9]
  rw [selectCheck_eq]
  simp only [releaseCheck]
  exact ⟨fun fails => by rw [if_pos fails],
    fun n1 fails => by rw [if_neg n1, if_pos fails],
    fun n1 n2 fails => by rw [if_neg n1, if_neg n2, if_pos fails],
    fun n1 n2 n3 fails => by rw [if_neg n1, if_neg n2, if_neg n3, if_pos fails],
    fun n1 n2 n3 n4 fails => by rw [if_neg n1, if_neg n2, if_neg n3, if_neg n4, if_pos fails],
    fun n1 n2 n3 n4 n5 fails => by rw [if_neg n1, if_neg n2, if_neg n3, if_neg n4, if_neg n5, if_pos fails],
    fun n1 n2 n3 n4 n5 n6 fails => by rw [if_neg n1, if_neg n2, if_neg n3, if_neg n4, if_neg n5, if_neg n6, if_pos fails],
    fun n1 n2 n3 n4 n5 n6 n7 fails => by
      rw [if_neg n1, if_neg n2, if_neg n3, if_neg n4, if_neg n5, if_neg n6, if_neg n7, if_pos fails],
    fun n1 n2 n3 n4 n5 n6 n7 n8 fails => by
      rw [if_neg n1, if_neg n2, if_neg n3, if_neg n4, if_neg n5, if_neg n6, if_neg n7, if_neg n8, if_pos fails],
    fun n1 n2 n3 n4 n5 n6 n7 n8 n9 => by
      rw [if_neg n1, if_neg n2, if_neg n3, if_neg n4, if_neg n5, if_neg n6, if_neg n7, if_neg n8, if_neg n9]⟩

/-- Settles O31: the checks are the branches of `offerCheck` and `releaseCheck`, each condition read by its lemma. -/
theorem selectChecksComeInOrder : Obligations.SelectChecksComeInOrder := by
  intro s n x h j p policy account tenant f1 f2 f3 f4 f5 f6 f7 f8 f9
  exact selectCheck_order (by simp only [f1]; tauto) (by simp [f2, j, State.attached]) (or_congr Iff.rfl (blocked_iff _))
    (supplyBlocks_iff _ _) (policyForbids_iff _ _) Iff.rfl (short_iff _ _ _)
    (exists_congr fun c => overCeiling_iff _ _ c) (exists_congr fun c => overQuota_iff _ _ _ c)

end Sys2Proof.Machine

/-! A SELECT (R73 to R80): what the promotion behind a release leaves, and the release of one job. -/

namespace Sys2Proof.Machine

/-! ### A promotion where the commands have room (R95, R159) -/

/-- R95: a job promoted: ACTIVE, the stall count running, EXPECT at the tail of the printer's commands, DISPATCH raised. -/
def promoted (n : Nat) (k : Handle) (s : State) : State :=
  raiseTenant (s.job k.index).tenant .dispatch
    (((s.setJob k.index { s.job k.index with state := .active }).setPrinter n
      { s.printer n with stall := some (s.printer n).stallLimit }).setCommands n (s.commands n ++
        [.expect ((s.job k.index).grant.getD 0) (s.job k.index).tenant (s.job k.index).label (s.job k.index).pages]))

section
variable (n : Nat) (k : Handle) (s : State)

theorem promote_room (room : (s.commands n).length < 8) : promote n k s = promoted n k s := by
  rw [promote, promoted]
  exact congrArg (raiseTenant _ _) (issue_room room)

theorem job_promoted (i : Nat) : (promoted n k s).job i =
    if i = k.index then { s.job k.index with state := .active } else s.job i := by
  rw [promoted, job_congr (raiseTenant_frame _ _ _).2.1]
  exact State.job_setJob ..

theorem printer_promoted (m : Nat) : (promoted n k s).printer m =
    if m = n then { s.printer n with stall := some (s.printer n).stallLimit } else s.printer m := by
  rw [promoted, printer_congr (raiseTenant_frame _ _ _).2.2.2.1]
  exact State.printer_setPrinter ..

theorem queue_promoted (m : Nat) : ((promoted n k s).printer m).queue = (s.printer m).queue := by
  rw [printer_promoted]
  split
  · next e => rw [e]
  · rfl

theorem commands_congr {s t : State} (h : t.flc = s.flc) (a : Nat) : t.commands a = s.commands a := by
  rw [State.commands, h, State.commands]

theorem commands_promoted : (promoted n k s).commands n = s.commands n ++
    [.expect ((s.job k.index).grant.getD 0) (s.job k.index).tenant (s.job k.index).label (s.job k.index).pages] := by
  obtain ⟨-, -, -, -, -, -, -, flc, -⟩ := raiseTenant_frame (s.job k.index).tenant .dispatch
    (((s.setJob k.index { s.job k.index with state := .active }).setPrinter n
      { s.printer n with stall := some (s.printer n).stallLimit }).setCommands n (s.commands n ++
        [.expect ((s.job k.index).grant.getD 0) (s.job k.index).tenant (s.job k.index).label (s.job k.index).pages]))
  rw [promoted, commands_congr flc, State.commands_setCommands, if_pos rfl]

theorem dispatch_promoted :
    hasNotice ((promoted n k s).port (PortName.ofTenant (s.job k.index).tenant)).flags .dispatch = true :=
  hasNotice_raise _ _ _

theorem promoted_frame : (promoted n k s).au = s.au ∧ (promoted n k s).ru = s.ru ∧ (promoted n k s).se = s.se ∧
    (promoted n k s).su = s.su ∧ (promoted n k s).cu = s.cu ∧ (promoted n k s).tb = s.tb := by
  simp [promoted]

theorem canonical_promoted (h : Canonical s) : Canonical (promoted n k s) := by
  have changed := canonical_setPrinter (canonical_setJob h k.index { s.job k.index with state := .active }) n
    { s.printer n with stall := some (s.printer n).stallLimit }
  obtain ⟨h1, h2, h3, h4, h5, h6, h7, h8, h9, h10, h11, h12⟩ := changed
  simp only [promoted, Canonical, raiseTenant_frame]
  exact ⟨h1, h2, h3, h4, h5, h6, h7, h8, h9, h10, Table.wf_set _ _ _ _ h11, h12⟩

end

section
variable {n : Nat} {k : Handle} {rest : List Handle} {s t : State}

/-- R95: the head is promoted, or nothing changes. -/
theorem promotionCheck_cons (queue : (s.printer n).queue = k :: rest) (room : (s.commands n).length < 8) :
    promotionCheck n s = if mayPromote s n k = true then promoted n k s else s := by
  rw [promotionCheck, queue]
  exact if_congr Iff.rfl (promote_room n k s room) rfl

/-- R95: the promotion check promotes the head of the queue or changes nothing. -/
theorem promotionCheck_cases (room : (s.commands n).length < 8) :
    promotionCheck n s = s ∨ ∃ k, promotionCheck n s = promoted n k s := by
  cases queue : (s.printer n).queue with
  | nil => exact .inl (by rw [promotionCheck, queue])
  | cons k rest =>
    rw [promotionCheck_cons queue room]
    split
    · exact .inr ⟨k, rfl⟩
    · exact .inl rfl

/-- R95: the promotion check leaves the accounts, the sessions, the lanes, the stock, the callouts and the queues, and issues
at most one command. -/
theorem promotionCheck_room (room : (s.commands n).length < 8) :
    (promotionCheck n s).au = s.au ∧ (promotionCheck n s).ru = s.ru ∧ (promotionCheck n s).se = s.se ∧
    (promotionCheck n s).su = s.su ∧ (promotionCheck n s).cu = s.cu ∧ (promotionCheck n s).tb = s.tb ∧
    (∀ m, ((promotionCheck n s).printer m).queue = (s.printer m).queue) ∧
    ∃ mid, (promotionCheck n s).commands n = s.commands n ++ mid ∧ mid.length ≤ 1 := by
  rcases promotionCheck_cases room with e | ⟨k, e⟩ <;> rw [e]
  · exact ⟨rfl, rfl, rfl, rfl, rfl, rfl, fun _ => rfl, [], (List.append_nil _).symm, by simp⟩
  · obtain ⟨au, ru, se, su, cu, tb⟩ := promoted_frame n k s
    exact ⟨au, ru, se, su, cu, tb, queue_promoted n k s, _, commands_promoted n k s, le_refl 1⟩

/-- A head that is not QUEUED is not promoted. -/
theorem mayPromote_of_state (state : (s.job k.index).state ≠ .queued) : mayPromote s n k = false := by
  simp [mayPromote, state]

/-- R95: what the promotion check reads. -/
theorem mayPromote_congr (job : t.job k.index = s.job k.index)
    (conditions : (t.printer n).conditions = (s.printer n).conditions)
    (supplyOut : (t.printer n).supplyOut = (s.printer n).supplyOut)
    (presence : (t.printer n).presence = (s.printer n).presence)
    (admin : (t.printer n).admin = (s.printer n).admin) : mayPromote t n k = mayPromote s n k := by
  simp only [mayPromote, Printer.blocked, Printer.supplyBlocks, Printer.holds, job, conditions, supplyOut, presence, admin]

end

/-! ### What a release reserves and records (R19, R79) -/

section
variable (s : State) (o : Nat)

theorem account_reserve (c : PageClass) (pages i : Nat) : (reserve o c pages s).account i = if i = o then
    { s.account o with reserved := bump c (· + pages) (s.account o).reserved } else s.account i := by
  simp [reserve]

/-- R19: Reserve adds the pages to the account's reserved pages, and no other account changes. -/
theorem account_reserveBoth (r : PerClass Nat) (i : Nat) : (reserveBoth o r s).account i = if i = o then
    { s.account o with
      reserved := ⟨(s.account o).reserved.mono + r.mono, (s.account o).reserved.colour + r.colour⟩ }
    else s.account i := by
  rw [reserveBoth, account_reserve, account_reserve, account_reserve, if_pos rfl]
  split <;> rfl

theorem tenant_reserve (c : PageClass) (pages m : Nat) : (reserve o c pages s).tenant m = if owningTenant s o = some m then
    { s.tenant m with reserved := bump c (· + pages) (s.tenant m).reserved } else s.tenant m := by
  simp [reserve, tenant_withOwner, owningTenant]

/-- R19: Reserve adds the pages to the owning tenant's reserved pages, and no other tenant changes. -/
theorem tenant_reserveBoth (r : PerClass Nat) (m : Nat) : (reserveBoth o r s).tenant m = if owningTenant s o = some m then
    { s.tenant m with
      reserved := ⟨(s.tenant m).reserved.mono + r.mono, (s.tenant m).reserved.colour + r.colour⟩ }
    else s.tenant m := by
  rw [reserveBoth, tenant_reserve, owningTenant_congr (reserve_adjusted o _ _ s).window, tenant_reserve]
  split <;> rfl

end

section
variable (n : Nat) (k : Handle) (s : State)

/-- Of the other groups a release, short of the promotion, changes the grant counter alone. -/
theorem queuedUp_rest : (queuedUp n k s).ports = s.ports ∧ (queuedUp n k s).cu = s.cu ∧ (queuedUp n k s).flc = s.flc ∧
    (queuedUp n k s).tb = s.tb ∧ (queuedUp n k s).ru.grantCounter = nextNumber s.ru.grantCounter := by
  simp [queuedUp, joinQueue, removeFromLists]

end

/-- R74 to R76: what a job that passes the checks has found its printer to be. -/
theorem printer_of_selectCheck_eq_none {s : State} {n : Nat} {x : Session} {k : Handle} (h : selectCheck s n x k = none) :
    (s.printer n).admin = .inService ∧ (s.printer n).blocked = false ∧
      (s.printer n).supplyBlocks (s.job k.index).pages = false := by
  rw [selectCheck_eq] at h
  simp only [releaseCheck] at h
  split at h
  · cases h
  · split at h
    · cases h
    · split at h
      · cases h
      · next up =>
        split at h
        · cases h
        · next supplied =>
          simp only [ne_eq, not_or, not_not, Bool.not_eq_true] at up
          exact ⟨up.1, up.2, Bool.eq_false_iff.2 supplied⟩

/-! ### A job released at a printer whose commands have room (R79, R95) -/

section
variable {n : Nat} {k g : Handle} {rest : List Handle} {s : State}

theorem queuedUp_room (room : (s.commands n).length < 8) : ((queuedUp n k s).commands n).length < 8 := by
  obtain ⟨-, -, flc, -⟩ := queuedUp_rest n k s
  rwa [commands_congr flc]

/-- R95: a job that passed the checks may print at once where it is the head. -/
theorem mayPromote_queuedUp_self {x : Session} (hc : Canonical s) (passed : selectCheck s n x k = none)
    (present : (s.printer n).presence = .present) : mayPromote (queuedUp n k s) n k = true := by
  obtain ⟨-, -, job, -, printer, -⟩ := queuedUp_frame n k hc
  obtain ⟨admin, free, supplied⟩ := printer_of_selectCheck_eq_none passed
  have same : (queuedUp n k s).printer n = { s.printer n with queue := (s.printer n).queue ++ [k] } :=
    (printer n).trans (if_pos rfl)
  have free' : ((queuedUp n k s).printer n).blocked = false := by rw [same]; exact free
  have supplied' : ((queuedUp n k s).printer n).supplyBlocks (s.job k.index).pages = false := by rw [same]; exact supplied
  have own : (queuedUp n k s).job k.index = releasedJob (s.job k.index) n s.ru.grantCounter (jobNeeds s n (s.job k.index)) :=
    (job _).trans (if_pos rfl)
  rw [mayPromote, own]
  dsimp only [releasedJob]
  rw [free', supplied', same]
  simp [present, admin]

theorem mayPromote_queuedUp_other (hc : Canonical s) (off : g.index ≠ k.index) :
    mayPromote (queuedUp n k s) n g = mayPromote s n g := by
  obtain ⟨-, -, job, -, printer, -⟩ := queuedUp_frame n k hc
  have same : (queuedUp n k s).printer n = { s.printer n with queue := (s.printer n).queue ++ [k] } :=
    (printer n).trans (if_pos rfl)
  exact mayPromote_congr ((job _).trans (if_neg off)) (by rw [same]) (by rw [same]) (by rw [same]) (by rw [same])

/-- R80: released at an empty queue, a job is promoted at once. -/
theorem release_empty {x : Session} (hc : Canonical s) (room : (s.commands n).length < 8)
    (passed : selectCheck s n x k = none) (present : (s.printer n).presence = .present)
    (empty : (s.printer n).queue = []) : release n k s = promoted n k (queuedUp n k s) := by
  obtain ⟨-, -, -, -, printer, -⟩ := queuedUp_frame n k hc
  have queue : ((queuedUp n k s).printer n).queue = k :: [] := by rw [printer, if_pos rfl, empty]; rfl
  rw [release_eq, promotionCheck_cons queue (queuedUp_room room), if_pos (mayPromote_queuedUp_self hc passed present)]

/-- R80, R95: released behind a head, a job waits; the head is promoted if it may print. -/
theorem release_behind (hc : Canonical s) (room : (s.commands n).length < 8) (behind : (s.printer n).queue = g :: rest)
    (off : g.index ≠ k.index) :
    release n k s = if mayPromote s n g = true then promoted n g (queuedUp n k s) else queuedUp n k s := by
  obtain ⟨-, -, -, -, printer, -⟩ := queuedUp_frame n k hc
  have queue : ((queuedUp n k s).printer n).queue = g :: (rest ++ [k]) := by rw [printer, if_pos rfl, behind]; rfl
  rw [release_eq, promotionCheck_cons queue (queuedUp_room room), mayPromote_queuedUp_other hc off]

end

/-! ### SELECT as a command (R73, R74, R79, R80) -/

/-- R180: a count of 1 to 8 and handles that fit pass the test of the body. -/
theorem choiceOk_of_fits {choice : Choice}
    (fits : ∀ hs, choice = .handles hs → 1 ≤ hs.length ∧ hs.length ≤ 8 ∧ ∀ h ∈ hs, h.index < 256 ∧ h.generation < 256) :
    choiceOk choice = true := by
  cases choice with
  | all => rfl
  | handles hs =>
    obtain ⟨low, high, small⟩ := fits hs rfl
    have each : hs.all handleFits = true := List.all_eq_true.2 fun h hh => by
      have := small h hh
      simp only [handleFits, Bool.and_eq_true, decide_eq_true_eq]
      omega
    simp [choiceOk, inRange, low, high, each]

section
variable {l : LinkFrame} {s : State} (heard : HeardPlainly l s)
include heard

/-- R73: a SELECT that finds no session. -/
theorem exec_select_none {choice : Choice} (ok : choiceOk choice = true) (closed : s.session l.address = none) :
    exec (.select l choice) s =
      .next (issue l.address (.panelResult none (staleResults choice)) (restarted l.address s)) := by
  have closed' : (restarted l.address s).session l.address = none := closed
  refine congrArg Host.Outcome.next ?_
  rw [ok, takeReport_plain l .select _ s (by decide) heard, takeSelect, closed']

/-- R74, R79: a SELECT that finds a session takes its jobs; PANEL_RESULT is issued and the session closes. -/
theorem exec_select_some {choice : Choice} {x : Session} (ok : choiceOk choice = true)
    (opened : s.session l.address = some x) : exec (.select l choice) s =
      .next ((issue l.address (.panelResult none (takeChoices l.address (chosen x choice) (restarted l.address s)).2)
        (takeChoices l.address (chosen x choice) (restarted l.address s)).1).setSession l.address none) := by
  have opened' : (restarted l.address s).session l.address = some x := opened
  refine congrArg Host.Outcome.next ?_
  rw [ok, takeReport_plain l .select _ s (by decide) heard, takeSelect, opened']
  rfl

end

section
variable {n : Nat} {h : Handle} {x : Session} {s : State} (opened : s.session n = some x)
include opened

/-- R74: a job that fails a check is told which. -/
theorem takeChoice_failed {r : PanelResult} (fails : selectCheck s n x h = some r) :
    takeChoice n h s = (s, ⟨h, r, none⟩) := by
  simp only [takeChoice, opened, fails]

/-- R79: a job that fails none is released, with its grant. -/
theorem takeChoice_passed (passes : selectCheck s n x h = none) :
    takeChoice n h s = (release n h s, ⟨h, .ok, some s.ru.grantCounter⟩) := by
  simp only [takeChoice, opened, passes]

end

end Sys2Proof.Machine

/-! A SELECT of one job (R79, R80). -/

namespace Sys2Proof.Machine

theorem printer_restarted (n m : Nat) (s : State) : (restarted n s).printer m =
    if m = n then { s.printer n with silence := some (s.printer n).silenceLimit } else s.printer m :=
  State.printer_setPrinter ..

theorem canonical_restarted (n : Nat) {s : State} (h : Canonical s) : Canonical (restarted n s) :=
  canonical_setPrinter (s := { s with phase := .running, out := [] }) h n _

/-- R79: a grant counter goes from 65535 to 1. -/
theorem nextNumber_eq (g : Nat) : nextNumber g = if g < 65535 then g + 1 else 1 := by
  rcases lt_or_ge g 65535 with low | high
  · exact (if_neg (not_le.2 low)).trans (if_pos low).symm
  · exact (if_pos high).trans (if_neg (not_lt.2 high)).symm

/-- R113: the needs a release records. -/
theorem jobNeeds_eq (s : State) (n : Nat) (j : Job) :
    jobNeeds s n j = ⟨needOf s n .k j, needOf s n .c j, needOf s n .m j, needOf s n .y j⟩ := by
  simp [jobNeeds, laneNeed_eq_needOf]

theorem get_jobNeeds (s : State) (n : Nat) (j : Job) (l : Lane) : (jobNeeds s n j).get l = needOf s n l j := by
  rw [jobNeeds_eq]
  cases l <;> rfl

section
variable {n : Nat} {k : Handle} {x : Session} {s : State} (hc : Canonical s) (room : (s.commands n).length < 8)
include hc room

/-- R79: what a release does to the accounts, the lanes and its printer's queue, the promotion behind it included. -/
theorem release_frame :
    (release n k s).au = (reserveBoth (s.job k.index).owner (s.job k.index).pages s).au ∧ (release n k s).su = s.su ∧
    (release n k s).cu = s.cu ∧ (release n k s).tb = s.tb ∧
    (release n k s).ru.grantCounter = nextNumber s.ru.grantCounter ∧
    ((release n k s).printer n).queue = (s.printer n).queue ++ [k] ∧
    (∀ l, (release n k s).lane n l = (s.lane n l).map (fun x =>
      { x with committed := x.committed + needOf s n l (s.job k.index) })) ∧
    ∃ mid, (release n k s).commands n = s.commands n ++ mid ∧ mid.length ≤ 1 := by
  obtain ⟨qau, qsu, -, -, qprinter, qlane, -⟩ := queuedUp_frame n k hc
  obtain ⟨-, qcu, qflc, qtb, qgrant⟩ := queuedUp_rest n k s
  obtain ⟨au, ru, se, su, cu, tb, queue, mid, commands, one⟩ := promotionCheck_room (queuedUp_room (k := k) room)
  rw [release_eq]
  refine ⟨au.trans qau, su.trans qsu, cu.trans qcu, tb.trans qtb, by rw [ru, qgrant], ?_, fun l => ?_, mid, ?_, one⟩
  · rw [queue, qprinter, if_pos rfl]
  · rw [lane_congr se, qlane]
    simp only [if_true, get_jobNeeds]
  · rw [commands, commands_congr qflc]

variable (apart : ∀ g ∈ (s.printer n).queue.head?, g.index ≠ k.index)
  (passed : selectCheck s n x k = none) (present : (s.printer n).presence = .present)
include apart passed present

/-- R79, R80: the entry of a job released: ACTIVE where its queue was empty, QUEUED behind others. -/
theorem job_release : (release n k s).job k.index =
    { releasedJob (s.job k.index) n s.ru.grantCounter (jobNeeds s n (s.job k.index)) with
      state := if (s.printer n).queue = [] then .active else .queued } := by
  obtain ⟨-, -, job, -⟩ := queuedUp_frame n k hc
  cases queue : (s.printer n).queue with
  | nil => rw [release_empty hc room passed present queue, job_promoted, if_pos rfl, job, if_pos rfl, if_pos rfl]
  | cons g rest =>
    have off : g.index ≠ k.index := apart g (by rw [queue]; rfl)
    rw [release_behind hc room queue off, if_neg (List.cons_ne_nil g rest)]
    split
    · rw [job_promoted, if_neg off.symm, job, if_pos rfl]
      rfl
    · rw [job, if_pos rfl]
      rfl

/-- R80, R95: no other job changes but a waiting head that may print. -/
theorem job_release_other {i : Nat} (other : i ≠ k.index)
    (stays : ∀ g ∈ (s.printer n).queue.head?, g.index = i → mayPromote s n g = false) :
    (release n k s).job i = s.job i := by
  obtain ⟨-, -, job, -⟩ := queuedUp_frame n k hc
  cases queue : (s.printer n).queue with
  | nil => rw [release_empty hc room passed present queue, job_promoted, if_neg other, job, if_neg other]
  | cons g rest =>
    have off : g.index ≠ k.index := apart g (by rw [queue]; rfl)
    rw [release_behind hc room queue off]
    split
    · next may =>
      have away : i ≠ g.index := fun e => by
        rw [stays g (by rw [queue]; rfl) e.symm] at may
        cases may
      rw [job_promoted, if_neg away, job, if_neg other]
    · rw [job, if_neg other]

end

/-- R80: at an empty queue the stall count runs, DISPATCH is raised, and EXPECT is issued with the grant. -/
theorem release_empty_promotes {n : Nat} {k : Handle} {x : Session} {s : State} (hc : Canonical s)
    (room : (s.commands n).length < 8) (passed : selectCheck s n x k = none)
    (present : (s.printer n).presence = .present) (empty : (s.printer n).queue = []) :
    ((release n k s).printer n).stall = some (s.printer n).stallLimit ∧
    hasNotice ((release n k s).port (PortName.ofTenant (s.job k.index).tenant)).flags .dispatch = true ∧
    (release n k s).commands n = s.commands n ++
      [.expect s.ru.grantCounter (s.job k.index).tenant (s.job k.index).label (s.job k.index).pages] := by
  obtain ⟨-, -, job, -, printer, -⟩ := queuedUp_frame n k hc
  obtain ⟨-, -, flc, -⟩ := queuedUp_rest n k s
  have own : (queuedUp n k s).job k.index = releasedJob (s.job k.index) n s.ru.grantCounter (jobNeeds s n (s.job k.index)) :=
    (job _).trans (if_pos rfl)
  have raised := dispatch_promoted n k (queuedUp n k s)
  rw [own] at raised
  rw [release_empty hc room passed present empty]
  refine ⟨?_, raised, ?_⟩
  · rw [printer_promoted, if_pos rfl, printer, if_pos rfl]
  · rw [commands_promoted, own, commands_congr flc]
    rfl

/-- Settles O32: the two branches of `takeChoice`; a release's records are those of `release_frame`, `job_release`,
`job_release_other` and `release_empty_promotes`. -/
theorem selectReleasesAJob : Obligations.SelectReleasesAJob := by
  intro l h x s heard opened hi hg room
  obtain ⟨⟨-, -, -, -, present⟩, -⟩ := id heard
  have ok : choiceOk (.handles [h]) = true := choiceOk_of_fits (by rintro _ ⟨⟩; simp [hi, hg])
  have taken := exec_select_some heard ok opened
  have one : takeChoices l.address [h] (restarted l.address s) =
    ((takeChoice l.address h (restarted l.address s)).1, [(takeChoice l.address h (restarted l.address s)).2]) := rfl
  rw [chosen, one] at taken
  have room₀ : ((restarted l.address s).commands l.address).length < 8 := lt_of_le_of_lt room (by decide)
  have opened₀ : (restarted l.address s).session l.address = some x := opened
  refine ⟨fun r fails => ?_, fun passes laws => ?_⟩
  · rw [takeChoice_failed opened₀ fails, issue_room room₀] at taken
    exact taken
  · obtain ⟨canonical, -, dispatch, session, -⟩ := laws
    have same : (restarted l.address s).printer l.address =
        { s.printer l.address with silence := some (s.printer l.address).silenceLimit } :=
      (printer_restarted ..).trans (if_pos rfl)
    have queue₀ : ((restarted l.address s).printer l.address).queue = (s.printer l.address).queue := by rw [same]
    have may : ∀ g, mayPromote (restarted l.address s) l.address g = mayPromote s l.address g := fun g =>
      mayPromote_congr rfl (by rw [same]) (by rw [same]) (by rw [same]) (by rw [same])
    have hc := canonical_restarted l.address canonical
    have present₀ : ((restarted l.address s).printer l.address).presence = .present := by rw [same]; exact present
    obtain ⟨held, -⟩ := session.2.1 _ _ _ opened (selectCheck_eq_none passes).1
    have apart : ∀ g ∈ ((restarted l.address s).printer l.address).queue.head?, g.index ≠ h.index := fun g hg => by
      rw [queue₀] at hg
      exact dispatch.not_queued (by rw [held]; rfl) _ g (List.mem_of_mem_head? hg)
    obtain ⟨au, su, cu, tb, grant, queue, lane, mid, commands, short⟩ := release_frame (k := h) hc room₀
    rw [show (restarted l.address s).commands l.address = s.commands l.address from rfl] at commands
    have account := fun i => (account_congr au i).trans (account_reserveBoth _ _ _ i)
    have tenant := fun m => (tenant_congr au m).trans (tenant_reserveBoth _ _ _ m)
    have job := job_release hc room₀ apart passes present₀
    rw [jobNeeds_eq, queue₀] at job
    have room₁ : ((release l.address h (restarted l.address s)).commands l.address).length < 8 := by
      rw [commands, List.length_append]
      omega
    rw [takeChoice_passed opened₀ passes, issue_room room₁] at taken
    have promotes := fun empty => release_empty_promotes hc room₀ passes present₀ (queue₀.trans empty)
    rw [same] at promotes
    have others := fun i other stays => job_release_other (i := i) hc room₀ apart passes present₀ other stays
    generalize release l.address h (restarted l.address s) = t₀ at *
    refine ⟨_, taken, (State.session_setSession ..).trans (if_pos rfl), queue.trans (by rw [queue₀]),
      grant.trans (nextNumber_eq _),
      job, fun i other stays => ?_, (account _).trans (if_pos rfl), fun i other => (account i).trans (if_neg other),
      fun m own => (tenant m).trans (if_pos own), fun m other => (tenant m).trans (if_neg other), fun empty => ?_,
      fun l' r hr => ?_, ⟨mid, ?_, fun empty => ?_⟩, su, tb, cu⟩
    · exact others i other (by rw [queue₀]; simpa only [may] using stays)
    · exact ⟨(promotes empty).1, (promotes empty).2.1⟩
    · refine (lane l').trans ?_
      rw [show (restarted l.address s).lane l.address l' = some r from hr]
      rfl
    · refine (State.commands_setCommands ..).trans ((if_pos rfl).trans ?_)
      rw [commands]
      rfl
    · exact List.append_cancel_left (commands.symm.trans (promotes empty).2.2)

end Sys2Proof.Machine

/-! A command for an address whose queue is full (R160), and the jobs of a SELECT taken in order (R73 to R80). -/

namespace Sys2Proof.Machine

/-! ### The printers behind a SERVICE raise (R89, R102) -/

/-- No other printer's record has changed, and of printer n's the queue and the admin state at most. -/
structure OnlyQueue (n : Nat) (s t : State) : Prop where
  others : ∀ m, m ≠ n → t.printer m = s.printer m
  own : ∃ q a, t.printer n = { s.printer n with queue := q, admin := a }

section
variable {n : Nat} {s t u : State}

theorem OnlyQueue.of_ft (h : t.ft = s.ft) : OnlyQueue n s t :=
  ⟨fun m _ => printer_congr h m, _, _, printer_congr h n⟩

theorem OnlyQueue.trans (h : OnlyQueue n s t) (h' : OnlyQueue n t u) : OnlyQueue n s u := by
  obtain ⟨others, q, a, own⟩ := h
  obtain ⟨others', q', a', own'⟩ := h'
  exact ⟨fun m hm => (others' m hm).trans (others m hm), q', a', by rw [own', own]⟩

theorem requeueJob_onlyQueue (k : Handle) (s : State) : OnlyQueue n s (requeueJob n k s) := by
  obtain ⟨-, -, -, -, -, printer, -⟩ := outOfQueue_frame n k (s.job k.index) (returnReservation (s.job k.index) s)
  have ft := (returnReservation_adjusted (s.job k.index) s).ft
  have read : ∀ m, (requeueJob n k s).printer m =
      if m = n then { s.printer n with queue := (s.printer n).queue.filter (· ≠ k) } else s.printer m := fun m => by
    rw [requeueJob_eq, printer_congr (returnToHeld_frame _ _).1, printer, printer_congr ft, printer_congr ft]
  exact ⟨fun m hm => (read m).trans (if_neg hm), _, _, (read n).trans (if_pos rfl)⟩

theorem requeueJobs_onlyQueue (which : Job → Bool) (s : State) : OnlyQueue n s (requeueJobs n which s) := by
  refine foldl_keeps _ (OnlyQueue n) (fun _ => .of_ft rfl) (fun _ _ _ => .trans) (fun a k => ?_) _ s
  dsimp only
  split
  · exact requeueJob_onlyQueue k a
  · exact .of_ft rfl

theorem drainingTest_onlyQueue (s : State) : OnlyQueue n s (drainingTest n s) := by
  unfold drainingTest
  dsimp only
  split
  · have read := fun m => (printer_congr (raise_frame .f .fleet
      (s.setPrinter n { s.printer n with admin := .outOfService })).2.2.2.1 m).trans (State.printer_setPrinter ..)
    exact ⟨fun m hm => (read m).trans (if_neg hm), _, _, (read n).trans (if_pos rfl)⟩
  · exact .of_ft rfl

theorem announceCallout_onlyQueue (k : CalloutKind) (s : State) : OnlyQueue n s (announceCallout n k s) := by
  have told : OnlyQueue n s (raise .f .callout s) := .of_ft (raise_frame _ _ _).2.2.2.1
  cases k with
  | service => exact told.trans ((requeueJobs_onlyQueue _ _).trans (drainingTest_onlyQueue _))
  | supply => exact told

theorem makeCallout_onlyQueue (k : CalloutKind) (items : List CalloutItem) (s : State) :
    OnlyQueue n s (makeCallout n k items s) := by
  unfold makeCallout
  dsimp only
  refine OnlyQueue.trans ?_ (announceCallout_onlyQueue k _)
  exact .of_ft rfl

theorem extendCallout_onlyQueue (k : CalloutKind) (items : List CalloutItem) (s : State) :
    OnlyQueue n s (extendCallout n k items s) := by
  unfold extendCallout
  refine OnlyQueue.trans ?_ (announceCallout_onlyQueue k _)
  exact .of_ft rfl

theorem raiseItems_onlyQueue (k : CalloutKind) (items : List CalloutItem) (s : State) :
    OnlyQueue n s (raiseItems n k items s) := by
  unfold raiseItems
  split
  · dsimp only
    split
    · exact .of_ft rfl
    · exact extendCallout_onlyQueue k _ s
  · split
    · exact .of_ft rfl
    · split
      · exact makeCallout_onlyQueue k items s
      · exact .of_ft (by simp)

theorem serviceRaise_onlyQueue (kinds : List ConditionKind) (s : State) : OnlyQueue n s (serviceRaise n kinds s) := by
  unfold serviceRaise
  split
  · exact .of_ft rfl
  · exact raiseItems_onlyQueue _ _ s

end

/-! ### A condition's onset (R93, R143) -/

theorem ConditionKind.code_inj {k l : ConditionKind} (h : k.code = l.code) : k = l :=
  ((State.graceNumber_eq 0 0 l k).1 (by rw [h])).2

theorem history_raiseItems (n : Nat) (k : CalloutKind) (items : List CalloutItem) (s : State) :
    (raiseItems n k items s).cu.history = s.cu.history := by
  unfold raiseItems
  split
  · dsimp only
    split
    · rfl
    · simp [extendCallout, State.setCallouts]
  · split
    · rfl
    · split
      · simp [makeCallout]
      · unfold deferRaise
        split <;> rfl

theorem history_serviceRaise (n : Nat) (kinds : List ConditionKind) (s : State) (m : Nat) :
    (serviceRaise n kinds s).history m = s.history m := by
  unfold serviceRaise
  split
  · rfl
  · rw [State.history, history_raiseItems, State.history]

section
variable (n : Nat) {k : ConditionKind} (s : State) (hk : k ≠ .supplyOut)
include hk

/-- R143: with a grace time the history is noted and the grace record runs. -/
theorem tellOnset_graced (grace : 0 < graceTime s k) : tellOnset n k s =
    (s.setHistory n (s.history n ||| k.only)).setGrace n k (.running (graceTime s k)) := by
  rw [tellOnset]
  exact (if_neg hk).trans (if_pos grace)

/-- R143, R145: with grace time 0 the record is spent, and the SERVICE raise is made. -/
theorem tellOnset_ungraced (grace : graceTime s k = 0) : tellOnset n k s =
    serviceRaise n [k] ((s.setHistory n (s.history n ||| k.only)).setGrace n k .spent) := by
  rw [tellOnset]
  exact (if_neg hk).trans (if_neg (not_lt.2 (le_of_eq grace)))

theorem tellOnset_onlyQueue : OnlyQueue n s (tellOnset n k s) := by
  rcases Nat.eq_zero_or_pos (graceTime s k) with none | some
  · rw [tellOnset_ungraced n s hk none]
    refine OnlyQueue.trans (t := (s.setHistory n (s.history n ||| k.only)).setGrace n k .spent) (.of_ft rfl) ?_
    exact serviceRaise_onlyQueue _ _
  · rw [tellOnset_graced n s hk some]
    exact .of_ft rfl

/-- R142, R152: the onset is noted in the history, and the grace record runs or is spent. -/
theorem tellOnset_records : (tellOnset n k s).history n = s.history n ||| k.only ∧
    (tellOnset n k s).grace n k = if 0 < graceTime s k then .running (graceTime s k) else .spent := by
  rcases Nat.eq_zero_or_pos (graceTime s k) with none | some
  · rw [tellOnset_ungraced n s hk none, history_serviceRaise, grace_serviceRaise, none, if_neg (lt_irrefl 0)]
    simp
  · rw [tellOnset_graced n s hk some, if_pos some]
    simp

theorem tellOnset_graced_frame (grace : 0 < graceTime s k) :
    (tellOnset n k s).cu.callouts = s.cu.callouts ∧ (tellOnset n k s).jt = s.jt := by
  rw [tellOnset_graced n s hk grace]
  exact ⟨rfl, rfl⟩

/-- R145: without a grace time the kind stands in the SERVICE callout of a printer in use, or in its deferral. -/
theorem inService_tellOnset (grace : graceTime s k = 0) (inUse : (s.printer n).admin ≠ .outOfService) :
    InService (tellOnset n k s) n k := by
  rw [tellOnset_ungraced n s hk grace, serviceRaise, if_neg (by exact inUse)]
  exact mem_raiseItems n .service _ _ (List.mem_singleton_self _)

end

/-! ### A command for a full queue (R160, R91) -/

/-- A printer's record with a condition of onset time now. -/
def Printer.withCondition (p : Printer) (k : ConditionKind) (now : Option Time) : Printer :=
  { p with conditions := Table.set none p.conditions k.code (some ⟨now⟩) }

theorem get_withCondition (p : Printer) (k : ConditionKind) (now : Option Time) (l : ConditionKind) :
    Table.get none (p.withCondition k now).conditions l.code =
      if l = k then some ⟨now⟩ else Table.get none p.conditions l.code := by
  rw [Printer.withCondition, Table.get_set]
  exact if_congr ⟨ConditionKind.code_inj, congrArg _⟩ rfl rfl

theorem addCondition_held {n : Nat} {k : ConditionKind} {s : State} (h : (s.printer n).holds k = true) :
    addCondition n k s = s := if_pos h

theorem addCondition_new {n : Nat} {k : ConditionKind} {s : State} (h : (s.printer n).holds k = false) :
    addCondition n k s = tellOnset n k (s.setPrinter n ((s.printer n).withCondition k s.now)) :=
  if_neg (Bool.eq_false_iff.1 h)

section
variable {n : Nat} {c : Command} {s : State}

/-- R91: a printer's record with its silence count stopped. -/
def countStopped (n : Nat) (s : State) : State := s.setPrinter n { s.printer n with silence := none }

/-- R91: the count stopped, and UNREACHABLE among the conditions. -/
def unreachableSince (n : Nat) (s : State) : State :=
  (countStopped n s).setPrinter n (((countStopped n s).printer n).withCondition .unreachable s.now)

theorem printer_countStopped (m : Nat) : (countStopped n s).printer m =
    if m = n then { s.printer n with silence := none } else s.printer m := State.printer_setPrinter ..

theorem printer_unreachableSince (m : Nat) : (unreachableSince n s).printer m =
    if m = n then { s.printer n with silence := none }.withCondition .unreachable s.now else s.printer m := by
  rw [unreachableSince, State.printer_setPrinter, printer_countStopped, printer_countStopped, if_pos rfl]
  split <;> rfl

variable (full : 8 ≤ (s.commands n).length)
include full

theorem issue_full : issue n c s = (silenceRunOut n s).setCommands n [] := if_neg (not_lt.2 full)

/-- R160: a full queue is emptied, and no other address's commands change. -/
theorem commands_issue_full (a : Nat) : (issue n c s).commands a = if a = n then [] else s.commands a := by
  rw [issue_full full, State.commands_setCommands, commands_congr (silenceRunOut_frame n s).2.1]

/-- R160: where UNREACHABLE is held already the count stops, and nothing more. -/
theorem issue_full_held (held : (s.printer n).holds .unreachable = true) :
    issue n c s = (countStopped n s).setCommands n [] := by
  rw [issue_full full]
  exact congrArg (fun u : State => u.setCommands n []) (addCondition_held (s := countStopped n s)
    (by rw [printer_countStopped, if_pos rfl]; exact held))

/-- R160, R91: UNREACHABLE is added, and the Callout Unit told. -/
theorem issue_full_new (new : (s.printer n).holds .unreachable = false) :
    issue n c s = (tellOnset n .unreachable (unreachableSince n s)).setCommands n [] := by
  rw [issue_full full]
  exact congrArg (fun u : State => u.setCommands n []) (addCondition_new (s := countStopped n s)
    (by rw [printer_countStopped, if_pos rfl]; exact new))

end

/-! ### The jobs of a SELECT taken in order (R79, R95) -/

/-- EXPECT, of any job. -/
def Command.IsExpect (c : Command) : Prop := ∃ g tenant label pages, c = .expect g tenant label pages

/-- What holds while a SELECT at printer n takes its jobs, q being the commands it found: at most one EXPECT has been issued,
and once it has, the head of the queue prints. -/
structure Taking (n : Nat) (q : List Command) (s : State) : Prop where
  canonical : Canonical s
  session : SessionLaw s
  issued : s.commands n = q ∨ ∃ c g rest, c.IsExpect ∧ s.commands n = q ++ [c] ∧ (s.printer n).queue = g :: rest ∧
    (s.job g.index).state = .active

section
variable {n : Nat} {q : List Command} {k : Handle} {s : State}

theorem Taking.mid (h : Taking n q s) : ∃ mid, s.commands n = q ++ mid ∧ mid.length ≤ 1 ∧ ∀ c ∈ mid, c.IsExpect := by
  rcases h.issued with none | ⟨c, -, -, expect, one, -⟩
  · exact ⟨[], by rw [none, List.append_nil], by simp, by simp⟩
  · exact ⟨[c], one, le_refl 1, by simpa using expect⟩

theorem Taking.room (h : Taking n q s) (short : q.length ≤ 6) : (s.commands n).length < 8 := by
  obtain ⟨mid, commands, one, -⟩ := h.mid
  rw [commands, List.length_append]
  omega

theorem expect_promoted (n : Nat) (k : Handle) (s : State) :
    ∃ c : Command, c.IsExpect ∧ (promoted n k s).commands n = s.commands n ++ [c] :=
  ⟨_, ⟨_, _, _, _, rfl⟩, commands_promoted n k s⟩

/-- The sessions stay lawful when a QUEUED job is promoted. -/
theorem sessionLaw_promoted (h : SessionLaw s) (queued : (s.job k.index).state = .queued) : SessionLaw (promoted n k s) := by
  obtain ⟨-, ru, -⟩ := promoted_frame n k s
  exact h.of_unheldJob (.of_sessions (by rw [ru])) (fun i other => (job_promoted n k s i).trans (if_neg other))
    (by rw [queued]; decide)

/-- R79, R95: a release keeps what holds while a SELECT takes its jobs. -/
theorem Taking.release (h : Taking n q s) (short : q.length ≤ 6) (held : (s.job k.index).state = .held)
    (named : (s.job k.index).generation = k.generation) : Taking n q (release n k s) := by
  obtain ⟨-, -, job, lists, printer, -, canonical⟩ := queuedUp_frame n k h.canonical
  obtain ⟨-, -, flc, -⟩ := queuedUp_rest n k s
  have only : OnlyJob k.index s (queuedUp n k s) := fun i other => (job i).trans (if_neg other)
  have session : SessionLaw (queuedUp n k s) := h.session.of_removedJob lists only named
  have commands := commands_congr flc n
  have queue : ((queuedUp n k s).printer n).queue = (s.printer n).queue ++ [k] := by rw [printer, if_pos rfl]
  obtain ⟨g, rest, cons⟩ := List.exists_cons_of_ne_nil
    (List.append_ne_nil_of_right_ne_nil (s.printer n).queue (List.cons_ne_nil k []))
  rw [cons] at queue
  -- the head that prints has not changed, so no second job is promoted
  have active : ∀ g' rest', (s.printer n).queue = g' :: rest' → (s.job g'.index).state = .active →
      g = g' ∧ ((queuedUp n k s).job g.index).state = .active := fun g' rest' hq hs => by
    rw [hq, List.cons_append, List.cons.injEq] at cons
    obtain ⟨rfl, -⟩ := cons
    exact ⟨rfl, by rw [only _ fun e => by rw [e, held] at hs; cases hs]; exact hs⟩
  rw [release_eq, promotionCheck_cons queue (queuedUp_room (h.room short))]
  split
  · next may =>
    have queued : ((queuedUp n k s).job g.index).state = .queued := by
      by_contra other
      rw [mayPromote_of_state other] at may
      cases may
    obtain ⟨c, expect, issued⟩ := expect_promoted n g (queuedUp n k s)
    refine ⟨canonical_promoted _ _ _ canonical, sessionLaw_promoted session queued, .inr ⟨c, g, rest, expect, ?_, ?_, ?_⟩⟩
    · rw [issued, commands]
      rcases h.issued with none | ⟨-, g', rest', -, -, hq, hs⟩
      · rw [none]
      · rw [(active g' rest' hq hs).2] at queued
        cases queued
    · rw [queue_promoted, queue]
    · rw [job_promoted, if_pos rfl]
  · refine ⟨canonical, session, ?_⟩
    rw [commands]
    rcases h.issued with none | ⟨c, g', rest', expect, one, hq, hs⟩
    · exact .inl none
    · exact .inr ⟨c, g, rest, expect, one, queue, (active g' rest' hq hs).2⟩

theorem Taking.takeChoice (h : Taking n q s) (short : q.length ≤ 6) (k : Handle) : Taking n q (takeChoice n k s).1 := by
  cases opened : s.session n with
  | none => simpa only [Machine.takeChoice, opened] using h
  | some x =>
    cases check : selectCheck s n x k with
    | some r => rw [takeChoice_failed opened check]; exact h
    | none =>
      rw [takeChoice_passed opened check]
      obtain ⟨held, named, -⟩ := h.session.2.1 n x k opened (selectCheck_eq_none check).1
      exact h.release short held named

theorem Taking.takeChoices (h : Taking n q s) (short : q.length ≤ 6) (l : List Handle) :
    Taking n q (takeChoices n l s).1 := by
  induction l generalizing s with
  | nil => exact h
  | cons k l ih => exact ih (h.takeChoice short k)

end

/-- R79: PANEL_RESULT names the jobs in the order of the SELECT. -/
theorem job_takeChoices (n : Nat) (l : List Handle) (s : State) : (takeChoices n l s).2.map JobResult.job = l := by
  have one : ∀ k s, (takeChoice n k s).2.job = k := fun k s => by
    unfold takeChoice
    split
    · rfl
    · split <;> rfl
  induction l generalizing s with
  | nil => rfl
  | cons k l ih => exact congrArg₂ List.cons (one k s) (ih _)

/-- R79: at an address whose commands have room, PANEL_RESULT follows the EXPECT of the job promoted, if one is. -/
theorem exec_select_commands {l : LinkFrame} {choice : Choice} {x : Session} {s : State} (heard : HeardPlainly l s)
    (ok : choiceOk choice = true) (opened : s.session l.address = some x) (laws : FleetLaws s)
    (short : (s.commands l.address).length ≤ 6) : ∃ t mid, exec (.select l choice) s = .next t ∧
      t.commands l.address = s.commands l.address ++ mid ++
        [.panelResult none (takeChoices l.address (chosen x choice) (restarted l.address s)).2] ∧
      ∀ c ∈ mid, c.IsExpect := by
  obtain ⟨canonical, -, -, session, -⟩ := laws
  have start : Taking l.address (s.commands l.address) (restarted l.address s) :=
    ⟨canonical_restarted _ canonical, session, .inl rfl⟩
  have ended := start.takeChoices short (chosen x choice)
  have taken := exec_select_some heard ok opened
  obtain ⟨mid, commands, -, expects⟩ := ended.mid
  rw [issue_room (ended.room short)] at taken
  refine ⟨_, mid, taken, (State.commands_setCommands ..).trans ((if_pos rfl).trans ?_), expects⟩
  rw [commands]

/-- Settles O30: `exec_select_none` and `exec_select_some` give the two kinds of SELECT, `issue_room`, `issue_full_held` and
`issue_full_new` a command's issue, `takeChoice_failed` and `takeChoice_passed` each job. -/
theorem selectTakesItsJobs : Obligations.SelectTakesItsJobs := by
  refine ⟨fun l s heard closed => exec_select_none heard rfl closed, fun l hs s heard closed low high fit =>
    exec_select_none heard (choiceOk_of_fits (by rintro _ ⟨⟩; exact ⟨low, high, fit⟩)) closed, fun n c s => issue_room,
    fun n c s full => ?_, fun l choice x s heard opened fits => ?_, fun n h rest s => ⟨rfl, rfl⟩,
    fun n h x s opened => ⟨fun r => takeChoice_failed opened, takeChoice_passed opened⟩⟩
  · intro t counted grace
    have commands := commands_issue_full (c := c) full
    have apart : Apart s t := (issue_moves n c s).apart
    cases held : (s.printer n).holds .unreachable with
    | true =>
      have e : t = (countStopped n s).setCommands n [] := issue_full_held full held
      have printer : ∀ m, t.printer m = if m = n then { s.printer n with silence := none } else s.printer m := fun m => by
        rw [e]; exact printer_countStopped m
      have own := (printer n).trans (if_pos rfl)
      exact ⟨(commands n).trans (if_pos rfl), fun a other => (commands a).trans (if_neg other), by rw [own], by rw [own],
        by rw [own]; exact held, fun m other => (printer m).trans (if_neg other), apart, fun _ => e, nofun⟩
    | false =>
      have e : t = (tellOnset n .unreachable (unreachableSince n s)).setCommands n [] := issue_full_new full held
      have told := tellOnset_onlyQueue n (k := .unreachable) (unreachableSince n s) (by decide)
      obtain ⟨history, record⟩ := tellOnset_records n (k := .unreachable) (unreachableSince n s) (by decide)
      obtain ⟨others, q, a, own⟩ := told
      rw [printer_unreachableSince, if_pos rfl] at own
      have own' : t.printer n = { { s.printer n with silence := none }.withCondition .unreachable s.now with
        queue := q, admin := a } := by rw [e]; exact own
      have condition : ∀ k : ConditionKind, Table.get none (t.printer n).conditions k.code =
          if k = .unreachable then some ⟨s.now⟩ else Table.get none (s.printer n).conditions k.code := fun k => by
        rw [own']
        exact get_withCondition { s.printer n with silence := none } .unreachable s.now k
      refine ⟨(commands n).trans (if_pos rfl), fun a other => (commands a).trans (if_neg other), by rw [own']; rfl,
        by rw [own']; rfl, ?_, fun m other => ?_, apart, nofun, fun _ => ⟨(condition _).trans (if_pos rfl),
        fun k other => (condition k).trans (if_neg other), ?_, ?_, fun graced => ?_, fun ungraced inUse => ?_⟩⟩
      · rw [Printer.holds, condition, if_pos rfl]
        rfl
      · rw [e]
        exact (others m other).trans ((printer_unreachableSince m).trans (if_neg other))
      · rw [e]
        exact history
      · rw [e]
        exact record
      · rw [e]
        exact tellOnset_graced_frame n (unreachableSince n s) (by decide) graced
      · have admin : ((unreachableSince n s).printer n).admin = (s.printer n).admin := by
          rw [printer_unreachableSince, if_pos rfl]
          rfl
        rw [e]
        exact inService_tellOnset n (unreachableSince n s) (by decide) ungraced (by rw [admin]; exact inUse)
  · have ok := choiceOk_of_fits fits
    have taken := exec_select_some heard ok opened
    have commands := exec_select_commands heard ok opened
    cases choice with
    | all => exact ⟨job_takeChoices .., taken, commands⟩
    | handles hs => exact ⟨job_takeChoices .., taken, commands⟩

end Sys2Proof.Machine

/-! BADGE (R63 to R66): whose badge it is, the sessions in the way, and the offers in submit order. -/

namespace Sys2Proof.Machine

/-! ### Whose badge it is (R63) -/

section
variable {s : State} {b : Nat} (hs : Table.wf Account.free s.au.accounts = true)
include hs

theorem account_of_mem {e : Nat × Account} (he : e ∈ s.au.accounts) : s.account e.1 = e.2 :=
  Table.get_of_mem Account.free e.1 e.2 _ ((Table.wf_iff_sound _ _).1 hs) he

theorem accountOfBadge_eq_none (unheld : ∀ i, (s.account i).state ≠ .free → (s.account i).badge ≠ some b) :
    accountOfBadge s b = none := by
  rw [accountOfBadge, Option.map_eq_none_iff, List.find?_eq_none]
  intro e he holds
  obtain ⟨inUse, badge⟩ := of_decide_eq_true holds
  rw [← account_of_mem hs he] at inUse badge
  exact unheld e.1 inUse badge

/-- The one account in use that holds a badge is the one found. -/
theorem accountOfBadge_eq_some {i : Nat} (inUse : (s.account i).state ≠ .free) (badge : (s.account i).badge = some b)
    (only : ∀ k, (s.account k).state ≠ .free → (s.account k).badge = some b → k = i) : accountOfBadge s b = some i := by
  have listed : (i, s.account i) ∈ s.au.accounts :=
    Table.mem_of_get_ne Account.free i _ fun e => inUse (congrArg Account.state e)
  have found := List.find?_isSome (p := fun e : Nat × Account => decide (e.2.state ≠ .free ∧ e.2.badge = some b)).2
    ⟨_, listed, decide_eq_true ⟨inUse, badge⟩⟩
  obtain ⟨e, he⟩ := Option.isSome_iff_exists.1 found
  have holds : decide (e.2.state ≠ .free ∧ e.2.badge = some b) = true :=
    List.find?_some (p := fun e : Nat × Account => decide (e.2.state ≠ .free ∧ e.2.badge = some b)) he
  obtain ⟨inUse', badge'⟩ := of_decide_eq_true holds
  rw [← account_of_mem hs (List.mem_of_find?_eq_some he)] at inUse' badge'
  rw [accountOfBadge, he, Option.map_some, only e.1 inUse' badge']

end

/-! ### The offers (R65) -/

/-- R65: e stands before e' in submit order: submitted before, or at the same time with a lower index. -/
def SubmittedBefore (e e' : Nat × Job) : Prop :=
  timeMinutes e.2.submitted < timeMinutes e'.2.submitted ∨
    (timeMinutes e.2.submitted = timeMinutes e'.2.submitted ∧ e.1 < e'.1)

theorem insertBySubmit_sorted {e : Nat × Job} {l : List (Nat × Job)} (sorted : l.Pairwise SubmittedBefore)
    (last : ∀ x ∈ l, x.1 < e.1) : (insertBySubmit e l).Pairwise SubmittedBefore := by
  induction l with
  | nil => exact List.pairwise_singleton _ _
  | cons x l ih =>
    obtain ⟨first, rest⟩ := List.pairwise_cons.1 sorted
    unfold insertBySubmit
    split
    · next before =>
      refine List.pairwise_cons.2 ⟨fun y hy => .inl ?_, sorted⟩
      rcases List.mem_cons.1 hy with rfl | hy
      · exact before
      · rcases first y hy with h | ⟨h, -⟩ <;> omega
    · next behind =>
      refine List.pairwise_cons.2 ⟨fun y hy => ?_, ih rest fun y hy => last y (List.mem_cons_of_mem _ hy)⟩
      rcases List.mem_cons.1 ((insertBySubmit_perm e l).mem_iff.1 hy) with rfl | hy
      · exact (Nat.lt_or_eq_of_le (not_lt.1 behind)).imp id fun h => ⟨h, last x List.mem_cons_self⟩
      · exact first y hy

theorem bySubmit_sorted {l : List (Nat × Job)} (rising : l.Pairwise fun e e' => e.1 < e'.1) :
    (bySubmit l).Pairwise SubmittedBefore := by
  have step : ∀ acc : List (Nat × Job), acc.Pairwise SubmittedBefore → (∀ x ∈ acc, ∀ e ∈ l, x.1 < e.1) →
      (l.foldl (fun acc e => insertBySubmit e acc) acc).Pairwise SubmittedBefore := by
    induction l with
    | nil => exact fun acc sorted _ => sorted
    | cons e l ih =>
      intro acc sorted low
      obtain ⟨first, rest⟩ := List.pairwise_cons.1 rising
      refine ih rest _ (insertBySubmit_sorted sorted fun x hx => low x hx e List.mem_cons_self) fun x hx e' he' => ?_
      rcases List.mem_cons.1 ((insertBySubmit_perm e acc).mem_iff.1 hx) with rfl | hx
      · exact first e' he'
      · exact low x hx e' (List.mem_cons_of_mem _ he')
  exact step [] List.Pairwise.nil (by simp)

/-- R65: what an offered job is. -/
theorem offered_iff (s : State) (n a : Nat) (j : Job) : offered s n a j = true ↔ j.state = .held ∧ j.owner = a ∧
    j.groups.getLsbD (s.printer n).group = true ∧ (s.port (PortName.ofTenant j.tenant)).state = .attached ∧
    (j.pages.colour = 0 ∨ ((s.printer n).colour = true ∧ (activePolicy s j.tenant).colourAllowed = true)) := by
  simp [offered, State.attached, and_assoc]

section
variable {s : State} (n a : Nat) (hs : Table.wf (Job.freeAt 0) s.jt.jobs = true)
include hs

theorem job_of_mem {e : Nat × Job} (he : e ∈ s.jt.jobs) : s.job e.1 = e.2 :=
  Table.get_of_mem (Job.freeAt 0) e.1 e.2 _ ((Table.wf_iff_sound _ _).1 hs) he

theorem mem_offered {e : Nat × Job} (he : e ∈ bySubmit (s.jt.jobs.filter (fun e => offered s n a e.2))) :
    s.job e.1 = e.2 ∧ offered s n a e.2 = true := by
  obtain ⟨listed, off⟩ := List.mem_filter.1 ((bySubmit_perm _).mem_iff.1 he)
  exact ⟨job_of_mem hs listed, off⟩

/-- R65: the offer list holds the jobs offered, and no other. -/
theorem mem_offerList_iff (h : Handle) : h ∈ offerList s n a ↔
    offered s n a (s.job h.index) = true ∧ (s.job h.index).generation = h.generation := by
  constructor
  · intro hh
    obtain ⟨e, he, rfl⟩ := List.mem_map.1 hh
    obtain ⟨read, off⟩ := mem_offered n a hs he
    dsimp only
    rw [read]
    exact ⟨off, rfl⟩
  · rintro ⟨off, named⟩
    have held := ((offered_iff s n a _).1 off).1
    have listed : (h.index, s.job h.index) ∈ s.jt.jobs := Table.mem_of_get_ne (Job.freeAt 0) h.index _ fun e => by
      rw [show s.job h.index = Job.freeAt 0 from e] at held
      cases held
    refine List.mem_map.2 ⟨_, (bySubmit_perm _).mem_iff.2 (List.mem_filter.2 ⟨listed, off⟩), ?_⟩
    dsimp only
    rw [named]

/-- R65: the offer list is in submit order. -/
theorem offerList_sorted : (offerList s n a).Pairwise (fun h k =>
    timeMinutes (s.job h.index).submitted < timeMinutes (s.job k.index).submitted ∨
      (timeMinutes (s.job h.index).submitted = timeMinutes (s.job k.index).submitted ∧ h.index < k.index)) := by
  have rising := List.pairwise_map.1 (Table.numbers_sorted (Job.freeAt 0) s.jt.jobs ((Table.wf_iff_sound _ _).1 hs))
  refine List.pairwise_map.2 ((bySubmit_sorted (rising.filter _)).imp_of_mem fun he he' before => ?_)
  dsimp only
  rw [(mem_offered n a hs he).1, (mem_offered n a hs he').1]
  exact before

end

end Sys2Proof.Machine

/-! BADGE (R63 to R66): what the closing of other sessions leaves, and the session opened. -/

namespace Sys2Proof.Machine

/-! ### What the moves of a promotion check leave of tenants and job table -/

/-- Every tenant keeps its window and its two policies, and the job table stays canonical. -/
structure PoliciesKept (s t : State) : Prop where
  tenant : ∀ m, (t.tenant m).window = (s.tenant m).window ∧ (t.tenant m).day = (s.tenant m).day ∧
    (t.tenant m).afterHours = (s.tenant m).afterHours
  jobs : Table.wf (Job.freeAt 0) s.jt.jobs = true → Table.wf (Job.freeAt 0) t.jt.jobs = true

section
variable {s t u : State}

theorem PoliciesKept.of_groups (au : t.au = s.au) (jt : t.jt = s.jt) : PoliciesKept s t :=
  ⟨fun m => by rw [tenant_congr au]; exact ⟨rfl, rfl, rfl⟩, fun h => by rw [jt]; exact h⟩

theorem PoliciesKept.refl (s : State) : PoliciesKept s s := .of_groups rfl rfl

theorem PoliciesKept.trans (h : PoliciesKept s t) (h' : PoliciesKept t u) : PoliciesKept s u where
  tenant m := by
    obtain ⟨window, day, after⟩ := h.tenant m
    obtain ⟨window', day', after'⟩ := h'.tenant m
    exact ⟨window'.trans window, day'.trans day, after'.trans after⟩
  jobs wf := h'.jobs (h.jobs wf)

theorem setJob_policiesKept (i : Nat) (j : Job) (s : State) : PoliciesKept s (s.setJob i j) :=
  ⟨fun _ => ⟨rfl, rfl, rfl⟩, fun wf => Table.wf_set (Job.freeAt 0) s.jt.jobs i j wf⟩

theorem withOwner_policiesKept {i : Nat} {g : Tenant → Tenant} (s : State)
    (kept : ∀ x, (g x).window = x.window ∧ (g x).day = x.day ∧ (g x).afterHours = x.afterHours) :
    PoliciesKept s (withOwner i g s) where
  tenant m := by
    rw [tenant_withOwner]
    split
    · exact kept _
    · exact ⟨rfl, rfl, rfl⟩
  jobs wf := by simpa using wf

theorem setAccount_policiesKept (i : Nat) (a : Account) (s : State) : PoliciesKept s (s.setAccount i a) :=
  ⟨fun _ => ⟨rfl, rfl, rfl⟩, id⟩

theorem returnPages_policiesKept (i : Nat) (c : PageClass) (pages : Nat) (s : State) :
    PoliciesKept s (returnPages i c pages s) := by
  unfold returnPages
  exact (setAccount_policiesKept i _ s).trans (withOwner_policiesKept _ fun _ => ⟨rfl, rfl, rfl⟩)

theorem returnReservation_policiesKept (j : Job) (s : State) : PoliciesKept s (returnReservation j s) := by
  unfold returnReservation
  split
  · exact (returnPages_policiesKept _ _ _ s).trans (returnPages_policiesKept _ _ _ _)
  · exact .refl s

theorem enterFinal_policiesKept (i : Nat) (f : JobState) (r : EndReason) (s : State) :
    PoliciesKept s (enterFinal i f r s) where
  tenant m := by rw [tenant_enterFinal]; exact ⟨rfl, rfl, rfl⟩
  jobs wf := by
    unfold enterFinal
    dsimp only
    split <;> simpa [State.setFinishedList, State.setJob] using Table.wf_set _ _ i _ wf

theorem returnToHeld_policiesKept (i : Nat) (s : State) : PoliciesKept s (returnToHeld i s) := by
  unfold returnToHeld
  dsimp only
  split
  · exact enterFinal_policiesKept _ _ _ s
  · exact (setJob_policiesKept _ _ s).trans (.of_groups (raiseTenant_frame _ _ _).1 (raiseTenant_frame _ _ _).2.1)

theorem FleetMove.policiesKept (h : FleetMove s t) : PoliciesKept s t := by
  cases h with
  | raise p k => exact .of_groups (by simp) (by simp)
  | printer queue => exact .of_groups rfl rfl
  | callouts c => exact .of_groups rfl rfl
  | commands a q => exact .of_groups rfl rfl
  | active queued => exact setJob_policiesKept _ _ s
  | @sendBack n k _ queued =>
    obtain ⟨au, jt, -⟩ := outOfQueue_frame n k (s.job k.index) (returnReservation (s.job k.index) s)
    rw [requeueJob_eq]
    exact (returnReservation_policiesKept _ s).trans ((PoliciesKept.of_groups au jt).trans (returnToHeld_policiesKept _ _))

theorem FleetMoves.policiesKept (h : FleetMoves s t) : PoliciesKept s t := by
  induction h with
  | refl => exact .refl _
  | tail _ last ih => exact ih.trans last.policiesKept

end

/-! ### The sessions in the way (R64) -/

/-- Work at other printers: it leaves printer n and its commands, the policies, the panel timeout, and what `Apart` names. -/
structure Beside (n : Nat) (s t : State) : Prop extends PoliciesKept s t where
  apart : Apart s t
  panelTimeout : t.ru.panelTimeout = s.ru.panelTimeout
  printer : t.printer n = s.printer n
  commands : t.commands n = s.commands n

section
variable {n m : Nat} {s t u : State}

theorem Beside.refl (n : Nat) (s : State) : Beside n s s := ⟨.refl s, .refl s, rfl, rfl, rfl⟩

theorem Beside.trans (h : Beside n s t) (h' : Beside n t u) : Beside n s u where
  toPoliciesKept := h.toPoliciesKept.trans h'.toPoliciesKept
  apart := h.apart.trans h'.apart
  panelTimeout := h'.panelTimeout.trans h.panelTimeout
  printer := h'.printer.trans h.printer
  commands := h'.commands.trans h.commands

/-- R160: a command to one address leaves every other printer as it is, with its commands. -/
theorem printer_issue_other (other : m ≠ n) (c : Command) (s : State) :
    (issue n c s).printer m = s.printer m ∧ (issue n c s).commands m = s.commands m := by
  rcases Nat.lt_or_ge (s.commands n).length 8 with room | full
  · rw [issue_room room]
    exact ⟨rfl, by rw [State.commands_setCommands, if_neg other]⟩
  · refine ⟨?_, (commands_issue_full full m).trans (if_neg other)⟩
    cases held : (s.printer n).holds .unreachable with
    | true =>
      rw [issue_full_held full held]
      exact (printer_countStopped m).trans (if_neg other)
    | false =>
      rw [issue_full_new full held]
      have told := tellOnset_onlyQueue n (k := .unreachable) (unreachableSince n s) (by decide)
      exact (told.others m other).trans ((printer_unreachableSince m).trans (if_neg other))

theorem issue_beside (other : n ≠ m) (c : Command) (s : State) : Beside n s (issue m c s) := by
  have moves := issue_moves m c s
  obtain ⟨printer, commands⟩ := printer_issue_other other c s
  exact ⟨moves.policiesKept, moves.apart, by rw [moves.ru], printer, commands⟩

theorem setSession_beside (n m : Nat) (x : Option Session) (s : State) : Beside n s (s.setSession m x) :=
  ⟨.of_groups rfl rfl, .of_groups rfl rfl rfl rfl rfl rfl rfl fun _ => ⟨rfl, rfl⟩, rfl, rfl, rfl⟩

theorem clearTheWay_beside (n o : Nat) (s : State) : Beside n s (clearTheWay n o s) := by
  unfold clearTheWay
  refine .trans ?_ (setSession_beside n n none _)
  refine foldl_keeps _ (Beside n) (Beside.refl n) (fun _ _ _ => .trans) (fun a k => ?_) _ s
  split
  · exact .refl n a
  · next other => exact (setSession_beside n k none a).trans (issue_beside (Ne.symm other) _ _)

/-- R64: the sessions after some are closed, one by one. -/
theorem session_closeSessions (r : CloseReason) (l : List Nat) (s : State) (m : Nat) :
    (l.foldl (fun s k => closeSession k r s) s).session m = if m ∈ l then none else s.session m := by
  induction l generalizing s with
  | nil => simp
  | cons a l ih =>
    rw [List.foldl_cons, ih, session_closeSession]
    by_cases e : m = a <;> simp [e]

/-- R64: neither this printer nor the account has a session left. -/
theorem session_clearTheWay {o : Nat} {x : Session} (sessions : Table.wf none s.ru.sessions = true)
    (open' : (clearTheWay n o s).session m = some x) : m ≠ n ∧ x.account ≠ o := by
  rw [clearTheWay_eq, session_endSession] at open'
  split at open'
  · cases open'
  · next other =>
    rw [session_closeSessions] at open'
    split at open'
    · cases open'
    · next off =>
      refine ⟨other, fun mine => off (List.mem_filter.2 ⟨?_, by simpa using other⟩)⟩
      exact (mem_sessionsOf s o m sessions).2 ⟨x, open', mine⟩

end

end Sys2Proof.Machine

/-! BADGE (R63 to R66): the obligation. -/

namespace Sys2Proof.Machine

/-! ### What stays read through the closing of other sessions -/

section
variable {n : Nat} {s t : State}

theorem PoliciesKept.owningTenant (h : PoliciesKept s t) (o : Nat) : owningTenant t o = owningTenant s o :=
  owningTenant_congr (fun m => (h.tenant m).1) o

theorem Beside.activePolicy (h : Beside n s t) (m : Nat) : activePolicy t m = activePolicy s m := by
  obtain ⟨-, tb, -⟩ := h.apart
  obtain ⟨-, day, after⟩ := h.tenant m
  rw [Machine.activePolicy, tb, day, after, Machine.activePolicy]

end

/-! ### The report taken (R63) -/

section
variable {l : LinkFrame} {b : Nat} {s : State} (heard : HeardPlainly l s) (fits : b < 4294967296)
include heard fits

theorem exec_badge : exec (.badge l b) s = .next (takeBadge l.address b (restarted l.address s)) := by
  have inRange : badgeFits b = true := decide_eq_true (Nat.le_of_lt_succ fits)
  refine congrArg Host.Outcome.next ?_
  rw [inRange, takeReport_plain l .badge _ s (by decide) heard]

theorem exec_badge_error {r : PanelResult} (room : (s.commands l.address).length < 8)
    (fails : badgeTest (restarted l.address s) l.address b = .error r) : exec (.badge l b) s =
      .next ((restarted l.address s).setCommands l.address (s.commands l.address ++ [.panelResult (some r) []])) := by
  have room' : ((restarted l.address s).commands l.address).length < 8 := room
  rw [exec_badge heard fits, takeBadge, fails]
  exact congrArg Host.Outcome.next (issue_room room')

theorem exec_badge_ok {i : Nat} (ok : badgeTest (restarted l.address s) l.address b = .ok i) : exec (.badge l b) s =
    .next (openSession l.address i (clearTheWay l.address i (restarted l.address s))) := by
  rw [exec_badge heard fits, takeBadge, ok]

end

section
variable {l : LinkFrame} {b i : Nat} {s : State}

theorem badgeTest_out (admin : (s.printer l.address).admin ≠ .inService) :
    badgeTest (restarted l.address s) l.address b = .error .printerUnavailable := by
  refine if_pos fun ⟨_, inService⟩ => admin ?_
  rwa [printer_restarted, if_pos rfl] at inService

variable (heard : HeardPlainly l s) (admin : (s.printer l.address).admin = .inService)
include heard admin

/-- R63: at a printer in service, the badge decides. -/
theorem badgeTest_in : badgeTest (restarted l.address s) l.address b = match accountOfBadge s b with
    | none => .error .unknownBadge
    | some i => if (s.account i).state = .active then .ok i else .error .accountSuspended := by
  obtain ⟨⟨-, -, -, enrolled, -⟩, -⟩ := heard
  refine if_neg (not_not.2 ?_)
  rw [printer_restarted, if_pos rfl]
  exact ⟨enrolled, admin⟩

end

/-! ### The session opened (R65, R66) -/

section
variable {n o : Nat} {s : State} (room : (s.commands n).length < 8)
include room

/-- R65, R66: the session, and OFFER in its printer's commands, which have room. -/
theorem openSession_room : openSession n o s =
    (s.setSession n (some ⟨o, (owningTenant s o).getD 0, offerList s n o, [], s.ru.panelTimeout⟩)).setCommands n
      (s.commands n ++ [.offer ((offerList s n o).map (offeredJob s))]) := by
  unfold openSession
  exact issue_room (s := s.setSession n _) room

end

/-- R64 to R66: the session a badge opens, after the sessions in the way were closed. -/
theorem openSession_clearTheWay {n o : Nat} {s t : State} (hc : Canonical s) (room : (s.commands n).length < 8)
    (opens : openSession n o (clearTheWay n o s) = t) : ∃ x, t.session n = some x ∧ x.account = o ∧
      x.tenant = (owningTenant s o).getD 0 ∧ x.withdrawn = [] ∧ x.minutes = s.ru.panelTimeout ∧
      (∀ h, h ∈ x.offers ↔ (t.job h.index).state = .held ∧ (t.job h.index).generation = h.generation ∧
        (t.job h.index).owner = o ∧ (t.job h.index).groups.getLsbD (s.printer n).group = true ∧
        (t.port (PortName.ofTenant (t.job h.index).tenant)).state = .attached ∧
        ((t.job h.index).pages.colour = 0 ∨ ((s.printer n).colour = true ∧
          (activePolicy s (t.job h.index).tenant).colourAllowed = true))) ∧
      x.offers.Pairwise (fun h k => timeMinutes (t.job h.index).submitted < timeMinutes (t.job k.index).submitted ∨
        (timeMinutes (t.job h.index).submitted = timeMinutes (t.job k.index).submitted ∧ h.index < k.index)) ∧
      (∀ m y, t.session m = some y → y.account = o → m = n) ∧
      t.commands n = s.commands n ++ [.offer (x.offers.map (fun h =>
        ⟨h, (t.job h.index).label, (t.job h.index).pages⟩))] ∧ Apart s t := by
  obtain ⟨-, -, jobs, -, sessions, -⟩ := hc
  have beside := clearTheWay_beside n o s
  have cleared := fun m x => session_clearTheWay (n := n) (m := m) (s := s) (o := o) (x := x) sessions
  generalize clearTheWay n o s = u at beside cleared opens
  have wf := beside.jobs jobs
  rw [openSession_room (by rw [beside.commands]; exact room)] at opens
  subst opens
  refine ⟨⟨o, (owningTenant u o).getD 0, offerList u n o, [], u.ru.panelTimeout⟩,
    (State.session_setSession ..).trans (if_pos rfl), rfl, congrArg (Option.getD · 0) (beside.owningTenant o), rfl,
    beside.panelTimeout, fun h => ?_, offerList_sorted n o wf, fun m y opened mine => ?_, ?_, ?_⟩
  · have offer := (mem_offerList_iff n o wf h).trans (and_congr_left' (offered_iff u n o _))
    rw [beside.printer, beside.activePolicy] at offer
    exact offer.trans (by tauto)
  · by_contra other
    have stood : u.session m = some y := by
      rw [← opened]
      exact ((State.session_setSession ..).trans (if_neg other)).symm
    exact (cleared m y stood).2 mine
  · rw [State.commands_setCommands, if_pos rfl, beside.commands]
    rfl
  · exact beside.apart.trans (.of_groups rfl rfl rfl rfl rfl rfl rfl fun _ => ⟨rfl, rfl⟩)

/-- Settles O29: `badgeTest` decides among the session results, and `openSession_clearTheWay` is the session of an active
account. -/
theorem badgeOpensOrRefuses : Obligations.BadgeOpensOrRefuses := by
  intro l b s hc heard fits room q s₀
  have accounts := hc.1
  refine ⟨fun out => exec_badge_error heard fits room (badgeTest_out out), fun admin unheld => ?_,
    fun i admin only badge => ⟨fun suspended => ?_, fun n active owner => ?_⟩⟩
  · refine exec_badge_error heard fits room ?_
    rw [badgeTest_in heard admin, accountOfBadge_eq_none accounts unheld]
  · have found := accountOfBadge_eq_some accounts (by rw [suspended]; decide) badge only
    refine exec_badge_error heard fits room ?_
    rw [badgeTest_in heard admin, found]
    exact if_neg (by rw [suspended]; decide)
  · have found := accountOfBadge_eq_some accounts (by rw [active]; decide) badge only
    have ok : badgeTest s₀ l.address b = .ok i := by
      rw [badgeTest_in heard admin, found]
      exact if_pos active
    obtain ⟨x, session, account, tenant, withdrawn, minutes, offers, order, others, commands, apart⟩ :=
      openSession_clearTheWay (s := s₀) (o := i) (canonical_restarted l.address hc) room rfl
    have own : (s₀.printer l.address).group = (s.printer l.address).group ∧
        (s₀.printer l.address).colour = (s.printer l.address).colour := by
      rw [printer_restarted, if_pos rfl]
      exact ⟨rfl, rfl⟩
    have tenant' : x.tenant = n := by rw [tenant, show owningTenant s₀ i = some n from owner]; rfl
    rw [own.1, own.2] at offers
    exact ⟨_, x, exec_badge_ok heard fits ok, session, account, tenant', withdrawn, minutes, offers, order, others,
      commands, apart⟩

end Sys2Proof.Machine

/-! PROGRESS (R96, R97, R100), and the expiries of silence counts and sessions (R70, R91, R160). -/

namespace Sys2Proof.Machine

/-! ### A printer's record written twice -/

/-- A record listed and then replaced is as the replacement alone. -/
theorem Table.insert_insert {α : Type} (k : Nat) (v v' : α) (t : Table α) :
    Table.insert (Table.insert t k v) k v' = Table.insert t k v' := by
  induction t with
  | nil => simp [Table.insert]
  | cons e t ih =>
    obtain ⟨k', x⟩ := e
    by_cases low : k < k'
    · simp [Table.insert, low]
    · by_cases same : k = k'
      · simp [Table.insert, same]
      · simp [Table.insert, low, same, ih]

theorem Table.filter_insert {α : Type} (k : Nat) (v : α) (t : Table α) :
    (Table.insert t k v).filter (fun e => e.1 ≠ k) = t.filter (fun e => e.1 ≠ k) := by
  induction t with
  | nil => simp [Table.insert]
  | cons e t ih =>
    obtain ⟨k', x⟩ := e
    unfold Table.insert
    split
    · simp
    · split
      · next same => simp [same]
      · simp only [List.filter_cons, ih]

theorem Table.set_set {α : Type} [DecidableEq α] (d : α) (k : Nat) {v v' : α} (listed : v ≠ d) (t : Table α) :
    Table.set d (Table.set d t k v) k v' = Table.set d t k v' := by
  unfold Table.set
  rw [if_neg listed]
  split
  · exact Table.filter_insert k v t
  · exact Table.insert_insert k v v' t

/-- The record of an enrolled printer is listed, so that the last of two writes alone counts. -/
theorem setPrinter_setPrinter {n : Nat} {p q : Printer} (s : State) (enrolled : p.enrolled = true) :
    (s.setPrinter n p).setPrinter n q = s.setPrinter n q := by
  have listed : p ≠ Printer.cold := by rintro rfl; cases enrolled
  have same : Table.set Printer.cold (Table.set Printer.cold s.ft.printers n p) n q =
      Table.set Printer.cold s.ft.printers n q := Table.set_set _ _ listed _
  simp only [State.setPrinter, same]

/-! ### The printing head and its grant (R96, R97) -/

theorem printing_iff (x : JobState) : x.printing = true ↔ x ∈ [JobState.active, .cancelling] := by
  cases x <;> simp [JobState.printing]

section
variable {n g : Nat} {k : Handle} {rest : List Handle} {s : State}

theorem headWithGrant_some (queue : (s.printer n).queue = k :: rest) (printing : (s.job k.index).state ∈ [.active, .cancelling])
    (grant : (s.job k.index).grant = some g) : headWithGrant s n g = some k := by
  have head : printingHead s n = some k := printingHead_eq_some.2 ⟨⟨rest, queue⟩, (printing_iff _).2 printing⟩
  simp [headWithGrant, head, grant]

theorem headWithGrant_none (unplaced : ∀ h rest, (s.printer n).queue = h :: rest →
    ¬((s.job h.index).state ∈ [.active, .cancelling] ∧ (s.job h.index).grant = some g)) : headWithGrant s n g = none := by
  rw [headWithGrant, Option.filter_eq_none_iff]
  intro h head granted
  obtain ⟨⟨rest, queue⟩, printing⟩ := printingHead_eq_some.1 head
  exact unplaced h rest queue ⟨(printing_iff _).1 printing, by simpa using granted⟩

end

/-! ### PROGRESS (R96, R100) -/

section
variable {l : LinkFrame} {g : Nat} {pages : PerClass Nat} {s : State}

theorem countsOk_of_le (low : 1 ≤ g) (high : g ≤ 65535) (mono : pages.mono ≤ 9999) (colour : pages.colour ≤ 9999) :
    countsOk g pages = true := by
  simp [countsOk, inRange, Config.pagesMax, low, high, mono, colour]

theorem exec_progress (heard : HeardPlainly l s) (ok : countsOk g pages = true) : exec (.progress l g pages) s =
    .next (takeProgress l.address g pages (restarted l.address s)) := by
  show Host.Outcome.next (takeReport l .progress (countsOk g pages) _ s) = _
  rw [ok, takeReport_plain l .progress _ s (by decide) heard]

end

/-- R96: the counts taken are written in the entry of the job and the record of the printer. -/
theorem takeCounts_eq (n : Nat) (k : Handle) (pages : PerClass Nat) (s : State) : takeCounts n k pages s =
    (s.setJob k.index (countTaken (s.job k.index) pages)).setPrinter n
      { s.printer n with surplus := max (-65535) (min 65535 ((s.printer n).surplus -
        (((pages.mono - (pagesPrinted (s.job k.index)).mono) +
          (pages.colour - (pagesPrinted (s.job k.index)).colour) : Nat) : Int))) } := rfl

/-- R96, R100: the counts taken from an enrolled printer's head; the stall count restarts where done rose. -/
theorem takeProgress_head {n g : Nat} {k : Handle} {pages : PerClass Nat} {s : State}
    (head : headWithGrant s n g = some k) (enrolled : (s.printer n).enrolled = true) :
    let j := s.job k.index
    let up := (pages.mono - (pagesPrinted j).mono) + (pages.colour - (pagesPrinted j).colour)
    takeProgress n g pages s = (s.setJob k.index (countTaken j pages)).setPrinter n
      { s.printer n with
        surplus := max (-65535) (min 65535 ((s.printer n).surplus - (up : Int)))
        stall := if j.done.mono < (countTaken j pages).done.mono ∨ j.done.colour < (countTaken j pages).done.colour
          then some (s.printer n).stallLimit else (s.printer n).stall } := by
  have counted : (takeCounts n k pages s).job k.index = countTaken (s.job k.index) pages := by
    simp [takeCounts_eq]
  dsimp only
  unfold takeProgress
  simp only [head, counted]
  by_cases rose : roseFrom (s.job k.index).done (countTaken (s.job k.index) pages).done = true
  · rw [if_pos rose, takeCounts_eq, State.printer_setPrinter, if_pos rfl, setPrinter_setPrinter _ (by exact enrolled)]
    rw [if_pos (by simpa [roseFrom] using rose)]
  · rw [if_neg rose, takeCounts_eq, if_neg (by simpa [roseFrom] using rose)]

/-- Settles O54: the head's grant, the stalled one, and one that is neither (`headWithGrant_some`, `headWithGrant_none`). -/
theorem progressTakesTheCounts : Obligations.ProgressTakesTheCounts := by
  intro l g pages s _ heard low high mono colour
  have exec := exec_progress heard (countsOk_of_le low high mono colour)
  have enrolled : ((restarted l.address s).printer l.address).enrolled = true := by
    rw [printer_restarted, if_pos rfl]
    exact heard.1.2.2.2.1
  refine ⟨fun h rest queue printing grant => ?_, fun unplaced => ⟨fun ⟨x, stalled, same⟩ => ?_, fun other => ?_⟩⟩
  · rw [exec, takeProgress_head (headWithGrant_some queue printing grant) enrolled]
    rfl
  · rw [exec, takeProgress, headWithGrant_none unplaced]
    simp [stalled, same]
  · have unstalled : ((restarted l.address s).printer l.address).stalled.any (fun x => x.grant == g) = false := by
      rw [Option.any_eq_false]
      intro x stalled
      simpa using other x stalled
    rw [exec, takeProgress, headWithGrant_none unplaced]
    simp only [unstalled]
    rfl

/-! ### Expiries of silence counts and sessions (R70, R91, R160) -/

/-- R91: the count stops and UNREACHABLE is held; beside its queue and its admin state the record keeps the rest. -/
theorem printer_silenceRunOut (n : Nat) (s : State) : ((silenceRunOut n s).printer n).silence = none ∧
    ((silenceRunOut n s).printer n).holds .unreachable = true ∧
    ((silenceRunOut n s).printer n).presence = (s.printer n).presence := by
  have stopped := printer_countStopped (n := n) (s := s) n
  rw [if_pos rfl] at stopped
  have runOut : silenceRunOut n s = addCondition n .unreachable (countStopped n s) := rfl
  rw [runOut]
  by_cases held : ((countStopped n s).printer n).holds .unreachable = true
  · rw [addCondition_held held]
    exact ⟨by rw [stopped], held, by rw [stopped]⟩
  · have added : addCondition n .unreachable (countStopped n s) = tellOnset n .unreachable (unreachableSince n s) :=
      addCondition_new (Bool.eq_false_iff.2 held)
    rw [added]
    have kept : OnlyQueue n (unreachableSince n s) (tellOnset n .unreachable (unreachableSince n s)) :=
      tellOnset_onlyQueue n _ (by decide)
    obtain ⟨-, q, a, own⟩ := kept
    rw [printer_unreachableSince, if_pos rfl] at own
    refine ⟨by rw [own]; rfl, ?_, by rw [own]; rfl⟩
    refine (congrArg (fun p : Printer => p.holds .unreachable) own).trans ?_
    exact congrArg Option.isSome (get_withCondition _ .unreachable _ .unreachable)

/-- Settles O58: `printer_silenceRunOut` and `issue_room`; what is not due changes nothing. -/
theorem timerExpiriesAct : Obligations.TimerExpiriesAct := by
  intro n s on
  have taken : ∀ act, Host.Outcome.next (φ := Fault) (ρ := Refusal) (takeEvent act s) =
      .next (act { s with phase := .running, out := [] }) :=
    fun act => congrArg Host.Outcome.next (takeEvent_on act s on)
  refine ⟨fun out => ?_, fun counts => ?_, fun counts => ?_, fun absent => ?_, fun counts => ?_, fun x opened out room => ?_⟩
  · obtain ⟨silence, held, presence⟩ := printer_silenceRunOut n { s with phase := .running, out := [] }
    refine ⟨_, (taken _).trans (congrArg Host.Outcome.next (if_pos out)), silence, held, presence, ?_, fun a other => ?_⟩
    · simp
    · rw [State.commands_setCommands, if_neg other, commands_congr (silenceRunOut_frame n _).2.1]
      rfl
  · exact (taken _).trans (congrArg Host.Outcome.next (if_neg counts))
  · exact (taken _).trans (congrArg Host.Outcome.next (if_neg counts))
  · exact (taken _).trans (congrArg Host.Outcome.next (if_neg absent))
  · refine (taken _).trans (congrArg Host.Outcome.next (if_neg fun due => ?_))
    obtain ⟨x, opened, out⟩ := (Option.any_eq_true _ _).1 due
    exact counts x opened (by simpa using out)
  · refine (taken _).trans (congrArg Host.Outcome.next ?_)
    have due : (s.session n).any (fun x => x.minutes == 0) = true := by simp [opened, out]
    refine (if_pos due).trans ?_
    rw [closeSession, issue_room (by exact room)]
    rfl

end Sys2Proof.Machine

/-! What stands in the callouts and deferrals (R147, R148, R151): items raised, dropped, and moved from the deferral list to
the queue. -/

namespace Sys2Proof.Machine

/-! ### The entries of callouts and deferrals -/

/-- The callouts and then the deferrals, each by its printer and kind and by its items. -/
def standing (s : State) : List ((Nat × CalloutKind) × List CalloutItem) :=
  s.cu.callouts.map (fun c => (c.key, c.items)) ++ s.cu.deferrals.map (fun d => (d.key, d.items))

/-- An item stands in the callout of a printer and kind, or in its deferral. -/
def Stands (s : State) (key : Nat × CalloutKind) (item : CalloutItem) : Prop :=
  ∃ items, (key, items) ∈ standing s ∧ item ∈ items

/-- R140, R148: no two callouts or deferrals share printer and kind. -/
def KeysApart (s : State) : Prop := ((standing s).map Prod.fst).Nodup

/-- Nothing new stands: keys may be gone, and items of those that are left. -/
structure Narrower (s t : State) : Prop where
  keys : ((standing t).map Prod.fst).Sublist ((standing s).map Prod.fst)
  items : ∀ e ∈ standing t, ∃ old, (e.1, old) ∈ standing s ∧ e.2 ⊆ old

section
variable {s t u : State} {key : Nat × CalloutKind} {item : CalloutItem}

theorem stands_iff : Stands s key item ↔ (∃ c ∈ s.cu.callouts, c.key = key ∧ item ∈ c.items) ∨
    (∃ d ∈ s.cu.deferrals, d.key = key ∧ item ∈ d.items) := by
  simp only [Stands, standing, List.mem_append, List.mem_map, Prod.mk.injEq]
  constructor
  · rintro ⟨items, ⟨c, hc, rfl, rfl⟩ | ⟨d, hd, rfl, rfl⟩, holds⟩
    · exact .inl ⟨c, hc, rfl, holds⟩
    · exact .inr ⟨d, hd, rfl, holds⟩
  · rintro (⟨c, hc, rfl, holds⟩ | ⟨d, hd, rfl, holds⟩)
    · exact ⟨_, .inl ⟨c, hc, rfl, rfl⟩, holds⟩
    · exact ⟨_, .inr ⟨d, hd, rfl, rfl⟩, holds⟩

theorem inService_iff (n : Nat) (k : ConditionKind) : InService s n k ↔ Stands s (n, .service) (.condition k) :=
  stands_iff.symm

theorem standing_congr (h : t.cu = s.cu) : standing t = standing s := by rw [standing, h, standing]

theorem stands_congr (h : t.cu = s.cu) : Stands t key item ↔ Stands s key item := by rw [Stands, standing_congr h, Stands]

theorem CalloutLaw.keysApart (h : CalloutLaw s) : KeysApart s := by
  obtain ⟨-, -, callouts, -, deferrals, -, apart, -⟩ := h
  simp only [KeysApart, standing, List.map_append, List.map_map]
  refine List.nodup_append.2 ⟨callouts, deferrals, fun k hk k' hk' e => ?_⟩
  obtain ⟨d, hd, rfl⟩ := List.mem_map.1 hk'
  have shared : k = d.key := e
  exact apart d hd (shared ▸ hk)

theorem Narrower.refl (s : State) : Narrower s s :=
  ⟨List.Sublist.refl _, fun e he => ⟨e.2, he, fun _ h => h⟩⟩

theorem Narrower.trans (h : Narrower s t) (h' : Narrower t u) : Narrower s u where
  keys := h'.keys.trans h.keys
  items e he := by
    obtain ⟨mid, hm, sub⟩ := h'.items e he
    obtain ⟨old, ho, sub'⟩ := h.items _ hm
    exact ⟨old, ho, fun _ hi => sub' (sub hi)⟩

theorem Narrower.of_sublist (h : (standing t).Sublist (standing s)) : Narrower s t :=
  ⟨h.map _, fun e he => ⟨e.2, h.subset he, fun _ h => h⟩⟩

theorem Narrower.of_cu (h : t.cu = s.cu) : Narrower s t := .of_sublist (by rw [standing_congr h])

theorem Narrower.stands (h : Narrower s t) (st : Stands t key item) : Stands s key item := by
  obtain ⟨items, he, hi⟩ := st
  obtain ⟨old, ho, sub⟩ := h.items _ he
  exact ⟨old, ho, sub hi⟩

theorem Narrower.keysApart (h : Narrower s t) (apart : KeysApart s) : KeysApart t := apart.sublist h.keys

/-- One entry of each key. -/
theorem KeysApart.unique (h : KeysApart s) {e e' : (Nat × CalloutKind) × List CalloutItem} (he : e ∈ standing s)
    (he' : e' ∈ standing s) (key : e.1 = e'.1) : e = e' := List.inj_on_of_nodup_map h he he' key

theorem mem_standing_callout {c : Callout} (h : c ∈ s.cu.callouts) : (c.key, c.items) ∈ standing s :=
  List.mem_append_left _ (List.mem_map.2 ⟨c, h, rfl⟩)

theorem mem_standing_deferral {d : Deferral} (h : d ∈ s.cu.deferrals) : (d.key, d.items) ∈ standing s :=
  List.mem_append_right _ (List.mem_map.2 ⟨d, h, rfl⟩)

/-- A callout and a deferral never share printer and kind. -/
theorem KeysApart.disjoint (h : KeysApart s) {c : Callout} {d : Deferral} (hc : c ∈ s.cu.callouts) (hd : d ∈ s.cu.deferrals) :
    c.key ≠ d.key := by
  have both := h
  simp only [KeysApart, standing, List.map_append, List.map_map] at both
  exact (List.nodup_append.1 both).2.2 _ (List.mem_map.2 ⟨c, hc, rfl⟩) _ (List.mem_map.2 ⟨d, hd, rfl⟩)

end

/-! ### The deferral list served (R148) -/

/-- What every serving of the list's head keeps, while the queue has room, the serving of the list keeps. -/
theorem serveDeferrals_induct (P : State → Prop) (step : ∀ (s : State) (d : Deferral) (rest : List Deferral),
    s.cu.deferrals = d :: rest → s.cu.callouts.length < Config.calloutDepth → P s → P (serveDeferral d s)) (s : State)
    (h : P s) : P (serveDeferrals s) := by
  suffices served : ∀ (l : List Deferral) (s : State), s.cu.deferrals = l → P s → P (l.foldl
      (fun s d => if s.cu.callouts.length < Config.calloutDepth then serveDeferral d s else s) s) from served _ s rfl h
  have full : ∀ (l : List Deferral) (s : State), ¬s.cu.callouts.length < Config.calloutDepth → l.foldl
      (fun s d => if s.cu.callouts.length < Config.calloutDepth then serveDeferral d s else s) s = s := by
    intro l
    induction l with
    | nil => exact fun _ _ => rfl
    | cons d l ih =>
      intro s no
      rw [List.foldl_cons, if_neg no]
      exact ih s no
  intro l
  induction l with
  | nil => exact fun _ _ h => h
  | cons d rest ih =>
    intro s hd h
    rw [List.foldl_cons]
    by_cases room : s.cu.callouts.length < Config.calloutDepth
    · rw [if_pos room]
      refine ih _ ?_ (step s d rest hd room h)
      unfold serveDeferral
      dsimp only
      split
      · simp [hd]
      · simp [hd, makeCallout]
    · rw [if_neg room, full rest s room]
      exact h

/-- R148: the head of the deferral list becomes the last callout, or is dropped. -/
theorem standing_serveDeferral {s : State} {d : Deferral} {rest : List Deferral} (hd : s.cu.deferrals = d :: rest) :
    (standing (serveDeferral d s)).Sublist (standing s) := by
  unfold serveDeferral
  dsimp only
  split
  · simp only [standing, State.callouts_setDeferrals, State.deferrals_setDeferrals, hd, List.drop_succ_cons, List.drop_zero,
      List.map_cons]
    exact List.Sublist.append_left (List.sublist_cons_self _ _) _
  · rw [standing_congr (t := makeCallout _ _ _ _) (s := { s with cu := (makeCallout d.printer d.kind d.items
      (s.setDeferrals (s.cu.deferrals.drop 1))).cu }) rfl]
    simp [standing, makeCallout, hd, Callout.key, Deferral.key]

theorem serveDeferrals_narrower (s : State) : Narrower s (serveDeferrals s) :=
  serveDeferrals_induct (Narrower s) (fun _ _ _ hd _ h => h.trans (.of_sublist (standing_serveDeferral hd))) s (.refl s)

/-! ### An item dropped (R148, R151) -/

section
variable (n : Nat) (k : CalloutKind) (item : CalloutItem) (s : State)

theorem dropDeferredItem_narrower : Narrower s (dropDeferredItem n k item s) := by
  set f : Deferral → Deferral := fun d => if d.isOf n k then { d with items := d.items.filter (· ≠ item) } else d
  have key : ∀ d, (f d).key = d.key := fun d => by dsimp only [f]; split <;> rfl
  have sub : ∀ d, (f d).items ⊆ d.items := fun d => by
    dsimp only [f]
    split
    · exact List.filter_subset_self _
    · exact List.Subset.refl _
  have deferrals : (dropDeferredItem n k item s).cu.deferrals = (s.cu.deferrals.map f).filter (fun d => d.items ≠ []) := rfl
  have callouts : (dropDeferredItem n k item s).cu.callouts = s.cu.callouts := rfl
  refine ⟨?_, fun e he => ?_⟩
  · simp only [standing, List.map_append, List.map_map, deferrals, callouts]
    refine List.Sublist.append_left ?_ _
    have same : s.cu.deferrals.map (Prod.fst ∘ fun d => (d.key, d.items)) =
        (s.cu.deferrals.map f).map (Prod.fst ∘ fun d => (d.key, d.items)) := by
      rw [List.map_map]
      exact List.map_congr_left fun d _ => (key d).symm
    rw [same]
    exact List.filter_sublist.map _
  · simp only [standing, deferrals, callouts, List.mem_append, List.mem_map, List.mem_filter] at he
    rcases he with ⟨c, hc, rfl⟩ | ⟨d, ⟨⟨d', hd, rfl⟩, -⟩, rfl⟩
    · exact ⟨_, mem_standing_callout hc, List.Subset.refl _⟩
    · rw [key d']
      exact ⟨_, mem_standing_deferral hd, sub d'⟩

/-- The deferral of the printer and kind holds the item no more, and the callouts stand. -/
theorem dropDeferredItem_dropped : (dropDeferredItem n k item s).cu.callouts = s.cu.callouts ∧
    ∀ d ∈ (dropDeferredItem n k item s).cu.deferrals, d.key = (n, k) → item ∉ d.items := by
  refine ⟨rfl, fun d hd key => ?_⟩
  obtain ⟨d', hd', rfl⟩ := List.mem_map.1 (List.mem_filter.1 hd).1
  by_cases isOf : d'.isOf n k = true
  · simp [isOf]
  · rw [if_neg isOf] at key
    exact absurd ((Deferral.isOf_iff n k d').2 key) isOf

theorem calloutOf_eq_none : calloutOf s n k = none ↔ ∀ c ∈ s.cu.callouts, c.key ≠ (n, k) := by
  simp only [calloutOf, List.find?_eq_none, Callout.isOf_iff, ne_eq]

theorem calloutOf_eq_some {c : Callout} (h : calloutOf s n k = some c) : c ∈ s.cu.callouts ∧ c.key = (n, k) :=
  ⟨List.mem_of_find?_eq_some h, (Callout.isOf_iff n k c).1 (List.find?_some (p := fun c : Callout => c.isOf n k) h)⟩

/-- The callouts of a printer and kind taken out of the queue. -/
def withoutCallout (n : Nat) (k : CalloutKind) (s : State) : State :=
  s.setCallouts (s.cu.callouts.filter (fun x => !x.isOf n k))

/-- An item taken out of the callout of a printer and kind, which stays open. -/
def withoutItem (n : Nat) (k : CalloutKind) (item : CalloutItem) (s : State) : State :=
  s.setCallouts (s.cu.callouts.map (fun x => if x.isOf n k then { x with items := x.items.filter (· ≠ item) } else x))

/-- R151: what the drop of an item does with the callouts. -/
theorem dropCalloutItem_cases :
    (dropCalloutItem n k item s = s ∧ ∀ c, calloutOf s n k = some c → item ∉ c.items) ∨
    (dropCalloutItem n k item s = serveDeferrals (withoutCallout n k s) ∧ ∃ c, calloutOf s n k = some c) ∨
    (dropCalloutItem n k item s = withoutItem n k item s ∧ ∃ c, calloutOf s n k = some c) := by
  unfold dropCalloutItem
  split
  · next none => exact .inl ⟨rfl, fun c hc => by rw [none] at hc; cases hc⟩
  · next c hc =>
    split
    · split
      · exact .inr (.inl ⟨rfl, c, hc⟩)
      · exact .inr (.inr ⟨rfl, c, hc⟩)
    · next out => exact .inl ⟨rfl, fun c' hc' => by rw [hc] at hc'; cases hc'; exact out⟩

theorem withoutCallout_narrower : Narrower s (withoutCallout n k s) := by
  refine .of_sublist ?_
  simp only [standing, withoutCallout, State.callouts_setCallouts, State.deferrals_setCallouts]
  exact List.Sublist.append_right (List.filter_sublist.map _) _

theorem withoutItem_narrower : Narrower s (withoutItem n k item s) := by
  set f : Callout → Callout := fun x => if x.isOf n k then { x with items := x.items.filter (· ≠ item) } else x
  have key : ∀ c, (f c).key = c.key := fun c => by dsimp only [f]; split <;> rfl
  have sub : ∀ c, (f c).items ⊆ c.items := fun c => by
    dsimp only [f]
    split
    · exact List.filter_subset_self _
    · exact List.Subset.refl _
  have callouts : (withoutItem n k item s).cu.callouts = s.cu.callouts.map f := rfl
  have deferrals : (withoutItem n k item s).cu.deferrals = s.cu.deferrals := rfl
  refine ⟨?_, fun e he => ?_⟩
  · simp only [standing, List.map_append, List.map_map, callouts, deferrals]
    have same : s.cu.callouts.map (Prod.fst ∘ (fun c => (c.key, c.items)) ∘ f) =
        s.cu.callouts.map (Prod.fst ∘ fun c => (c.key, c.items)) := List.map_congr_left fun c _ => key c
    rw [same]
  · simp only [standing, callouts, deferrals, List.mem_append, List.mem_map] at he
    rcases he with ⟨_, ⟨c, hc, rfl⟩, rfl⟩ | ⟨d, hd, rfl⟩
    · rw [key c]
      exact ⟨_, mem_standing_callout hc, sub c⟩
    · exact ⟨_, mem_standing_deferral hd, List.Subset.refl _⟩

theorem dropCalloutItem_narrower : Narrower s (dropCalloutItem n k item s) := by
  obtain ⟨e, -⟩ | ⟨e, -⟩ | ⟨e, -⟩ := dropCalloutItem_cases n k item s <;> rw [e]
  · exact .refl s
  · exact (withoutCallout_narrower n k s).trans (serveDeferrals_narrower _)
  · exact withoutItem_narrower n k item s

/-- R151: an item dropped brings nothing new. -/
theorem dropItem_narrower : Narrower s (dropItem n k item s) :=
  (dropCalloutItem_narrower n k item s).trans (dropDeferredItem_narrower n k item _)

variable {s}

/-- R151: where no two share printer and kind, the callout holds the dropped item no more. -/
theorem dropCalloutItem_dropped (apart : KeysApart s) :
    ∀ c ∈ (dropCalloutItem n k item s).cu.callouts, c.key = (n, k) → item ∉ c.items := by
  intro c hc key
  obtain ⟨e, absent⟩ | ⟨e, c₀, hc₀⟩ | ⟨e, c₀, hc₀⟩ := dropCalloutItem_cases n k item s <;> rw [e] at hc
  · cases found : calloutOf s n k with
    | none => exact absurd key ((calloutOf_eq_none n k s).1 found c hc)
    | some c₀ =>
      obtain ⟨mem, key₀⟩ := calloutOf_eq_some n k s found
      have same := apart.unique (mem_standing_callout hc) (mem_standing_callout mem) (key.trans key₀.symm)
      rw [show c.items = c₀.items from congrArg Prod.snd same]
      exact absent c₀ found
  · obtain ⟨mem, key₀⟩ := calloutOf_eq_some n k s hc₀
    obtain ⟨old, ho, -⟩ := (serveDeferrals_narrower _).items _ (mem_standing_callout hc)
    rw [show (c.key, c.items).1 = (n, k) from key] at ho
    simp only [standing, withoutCallout, State.callouts_setCallouts, State.deferrals_setCallouts, List.mem_append,
      List.mem_map, List.mem_filter, Prod.mk.injEq] at ho
    rcases ho with ⟨x, ⟨-, off⟩, hx, -⟩ | ⟨d, hd, hdk, -⟩
    · rw [(Callout.isOf_iff n k x).2 hx] at off
      cases off
    · exact absurd (key₀.trans hdk.symm) (apart.disjoint mem hd)
  · obtain ⟨x, -, rfl⟩ := List.mem_map.1 hc
    by_cases isOf : x.isOf n k = true
    · simp [isOf]
    · rw [if_neg isOf] at key
      exact absurd ((Callout.isOf_iff n k x).2 key) isOf

/-- R148, R151: where no two share printer and kind, a dropped item stands nowhere for its printer and kind. -/
theorem dropItem_dropped (apart : KeysApart s) : ¬Stands (dropItem n k item s) (n, k) item := by
  obtain ⟨same, deferred⟩ := dropDeferredItem_dropped n k item (dropCalloutItem n k item s)
  rw [stands_iff, dropItem, same]
  rintro (⟨c, hc, key, holds⟩ | ⟨d, hd, key, holds⟩)
  · exact dropCalloutItem_dropped n k item apart c hc key holds
  · exact deferred d hd key holds

end

/-! ### Items raised (R145, R147, R148) -/

section
variable (n : Nat) (k : CalloutKind) (items : List CalloutItem) (s : State) {key : Nat × CalloutKind} {item : CalloutItem}

theorem deferRaise_stands (h : Stands (deferRaise n k items s) key item) :
    Stands s key item ∨ (key = (n, k) ∧ item ∈ items) := by
  rw [stands_iff] at h ⊢
  unfold deferRaise at h
  split at h
  · simp only [State.callouts_setDeferrals, State.deferrals_setDeferrals] at h
    rcases h with h | ⟨d, hd, rfl, holds⟩
    · exact .inl (.inl h)
    · obtain ⟨d', hd', rfl⟩ := List.mem_map.1 hd
      by_cases isOf : d'.isOf n k = true
      · simp only [isOf, if_true, List.mem_append, List.mem_filter] at holds
        rcases holds with old | ⟨new, -⟩
        · exact .inl (.inr ⟨d', hd', by simp only [isOf, if_true]; rfl, old⟩)
        · exact .inr ⟨by simp only [isOf, if_true]; exact (Deferral.isOf_iff n k d').1 isOf, new⟩
      · rw [if_neg isOf] at holds ⊢
        exact .inl (.inr ⟨d', hd', rfl, holds⟩)
  · simp only [State.callouts_setDeferrals, State.deferrals_setDeferrals, List.mem_append, List.mem_singleton] at h
    rcases h with h | ⟨d, hd | rfl, key, holds⟩
    · exact .inl (.inl h)
    · exact .inl (.inr ⟨d, hd, key, holds⟩)
    · exact .inr ⟨key.symm, holds⟩

/-- What stands after a raise stood before it or was raised. -/
theorem raiseItems_stands (h : Stands (raiseItems n k items s) key item) :
    Stands s key item ∨ (key = (n, k) ∧ item ∈ items) := by
  unfold raiseItems at h
  split at h
  · next c hc =>
    dsimp only at h
    split at h
    · exact .inl h
    · have deferrals : (extendCallout n k (items.filter (· ∉ c.items)) s).cu.deferrals = s.cu.deferrals := by
        simp [extendCallout]
      rw [stands_iff, callouts_extendCallout, deferrals] at h
      rcases h with ⟨x, hx, rfl, holds⟩ | h
      · obtain ⟨x', hx', rfl⟩ := List.mem_map.1 hx
        by_cases isOf : x'.isOf n k = true
        · simp only [isOf, if_true, List.mem_append, List.mem_filter] at holds
          rcases holds with old | ⟨new, -⟩
          · exact .inl (stands_iff.2 (.inl ⟨x', hx', by simp only [isOf, if_true]; rfl, old⟩))
          · exact .inr ⟨by simp only [isOf, if_true]; exact (Callout.isOf_iff n k x').1 isOf, new⟩
        · rw [if_neg isOf] at holds ⊢
          exact .inl (stands_iff.2 (.inl ⟨x', hx', rfl, holds⟩))
      · exact .inl (stands_iff.2 (.inr h))
  · split at h
    · exact .inl h
    · split at h
      · obtain ⟨c, made, made_key, holds_items⟩ := callouts_makeCallout n k items s
        have deferrals : (makeCallout n k items s).cu.deferrals = s.cu.deferrals := by simp [makeCallout]
        rw [stands_iff, made, deferrals] at h
        simp only [List.mem_append, List.mem_singleton] at h
        rcases h with ⟨x, hx | rfl, key, holds⟩ | h
        · exact .inl (stands_iff.2 (.inl ⟨x, hx, key, holds⟩))
        · exact .inr ⟨key.symm.trans made_key, by rw [holds_items] at holds; exact holds⟩
        · exact .inl (stands_iff.2 (.inr h))
      · exact deferRaise_stands n k items s h

end

/-- R145: a SERVICE raise brings the kinds raised alone. -/
theorem serviceRaise_stands (n : Nat) (kinds : List ConditionKind) (s : State) {key : Nat × CalloutKind} {item : CalloutItem}
    (h : Stands (serviceRaise n kinds s) key item) :
    Stands s key item ∨ (key = (n, .service) ∧ ∃ k ∈ kinds, item = .condition k) := by
  unfold serviceRaise at h
  split at h
  · exact .inl h
  · rcases raiseItems_stands n .service _ s h with old | ⟨rfl, raised⟩
    · exact .inl old
    · obtain ⟨k, hk, rfl⟩ := List.mem_map.1 raised
      exact .inr ⟨rfl, k, hk, rfl⟩

end Sys2Proof.Machine

/-! ENROL of a new number (R84, R107, R157), and the facility's settings of printers, lanes and callouts (R86, R93, R108,
R120, R121, R141, R152). -/

namespace Sys2Proof.Machine

/-! ### The lanes of a new printer (R84, R107) -/

/-- Nothing but lane records has changed. -/
def OnlyLanes (s t : State) : Prop := t = { s with se := { s.se with lanes := t.se.lanes } }

theorem OnlyLanes.trans {s t u : State} (h : OnlyLanes s t) (h' : OnlyLanes t u) : OnlyLanes s u := by
  rw [OnlyLanes] at h h'
  rw [OnlyLanes, h', h]

theorem OnlyLanes.frame {s t : State} (h : OnlyLanes s t) : t.ports = s.ports ∧ t.au = s.au ∧ t.jt = s.jt ∧ t.ru = s.ru ∧
    t.ft = s.ft ∧ t.cu = s.cu ∧ t.flc = s.flc ∧ t.phase = s.phase ∧ t.out = s.out ∧ Apart s t := by
  rw [OnlyLanes] at h
  rw [h]
  exact ⟨rfl, rfl, rfl, rfl, rfl, rfl, rfl, rfl, rfl, .refl s⟩

/-- The ports behind an answer are those of the owner's state with the request gone. -/
theorem ports_issueAnswer (h : Head) (r : Request) (a b : Answer) {s t : State} (same : t.ports = s.ports) :
    (issueAnswer h r a t).ports = (issueAnswer h r b s).ports := by
  simp [issueAnswer, State.setPort, State.port, same]

/-- R107: a lane record as it is made. -/
def madeLane (s : State) (type : Nat) : LaneRecord :=
  { newLane type (s.ctype type).capacity with
    state := laneState (newLane type (s.ctype type).capacity) (s.ctype type) }

theorem makeLane_eq (n : Nat) (l : Lane) (type : Nat) (s : State) :
    makeLane n l type s = s.setLane n l (some (madeLane s type)) := rfl

/-- R107, R110: a full cartridge is OK where its type has a capacity and percentages below 100. -/
theorem madeLane_ok {s : State} {type : Nat} (capacity : 1 ≤ (s.ctype type).capacity) (critical : (s.ctype type).critical ≤ 99)
    (reorder : (s.ctype type).reorder ≤ 99) : (madeLane s type).state = .ok := by
  have full : percentOf (s.ctype type).capacity (s.ctype type).capacity = 100 :=
    Nat.mul_div_cancel_left 100 capacity
  have level : effectiveLevel (newLane type (s.ctype type).capacity) (s.ctype type).capacity = (s.ctype type).capacity := rfl
  have some' : (s.ctype type).capacity ≠ 0 := by omega
  have flag : (newLane type (s.ctype type).capacity).emptyFlag = false := rfl
  have above : ¬100 ≤ (s.ctype type).critical ∧ ¬100 ≤ (s.ctype type).reorder := by omega
  show laneState _ _ = _
  simp [laneState, level, full, some', flag, above]

/-- One lane of `makeLanes`. -/
def makeGiven (n : Nat) (e : Enrolment) (s : State) (l : Lane) : State :=
  match e.types.get l with
  | some t => makeLane n l t s
  | none => s

theorem makeLanes_eq (n : Nat) (e : Enrolment) (s : State) : makeLanes n e s = Lane.all.foldl (makeGiven n e) s := rfl

section
variable (n : Nat) (e : Enrolment) (s : State)

theorem makeGiven_onlyLanes (l : Lane) : OnlyLanes s (makeGiven n e s l) := by
  unfold makeGiven
  split <;> exact rfl

theorem makeLanes_onlyLanes : OnlyLanes s (makeLanes n e s) :=
  foldl_keeps _ OnlyLanes (fun _ => rfl) (fun _ _ _ => .trans) (makeGiven_onlyLanes n e) Lane.all s

theorem lane_makeGiven (l l' : Lane) (m : Nat) : (makeGiven n e s l).lane m l' =
    if m = n ∧ l' = l then (e.types.get l).elim (s.lane m l') (fun t => some (madeLane s t)) else s.lane m l' := by
  unfold makeGiven
  split
  · next t given => rw [makeLane_eq, State.lane_setLane, given]; rfl
  · next given => simp [given]

/-- R84: a lane has the record of a full cartridge where a type is given for it, and stands where none is. -/
theorem lane_makeLanes (l : Lane) (m : Nat) : (makeLanes n e s).lane m l =
    if m = n then (e.types.get l).elim (s.lane m l) (fun t => some (madeLane s t)) else s.lane m l := by
  have made : ∀ (a : State) (l : Lane) (t : Nat), madeLane (makeGiven n e a l) t = madeLane a t := fun a l t => by
    unfold makeGiven
    split <;> rfl
  rw [makeLanes_eq]
  simp only [Lane.all, List.foldl_cons, List.foldl_nil, lane_makeGiven, made]
  by_cases own : m = n
  · cases l <;> simp [own]
  · simp [own]

end

/-- R84: the fields of an enrolment in range. -/
theorem enrolmentOk_of {e : Enrolment} (floor : e.floor ≤ 99) (group : e.group ≤ 15)
    (given : ∀ l, (l = .k ∨ e.colour = true) → ∃ ty, e.types.get l = some ty ∧ ty < 32)
    (absent : ∀ l, l ≠ .k → e.colour = false → e.types.get l = none) : enrolmentOk e = true := by
  have types : ∀ l, typeGiven e.colour l (e.types.get l) = true := by
    intro l
    unfold typeGiven
    split
    · next has =>
      obtain ⟨ty, type, low⟩ := given l has
      simp [type, Config.types, low]
    · next has =>
      obtain ⟨notK, mono⟩ := not_or.1 has
      rw [absent l notK (Bool.eq_false_iff.2 mono)]
      rfl
  simp [enrolmentOk, floor, group, Lane.all, types]

/-- Settles O34: the record and the stray entry are written, and behind them lanes alone change (`lane_makeLanes`). -/
theorem enrolMakesAPrinter : Obligations.EnrolMakesAPrinter := by
  intro h n e s _ rd hn new floor group given absent types
  have ok := enrolmentOk_of floor group given absent
  set s₀ := atOwner h (.enrol n e) s
  set u := (s₀.setPrinter n (enrolledPrinter e)).setStray n none
  obtain ⟨ports, au, jt, ru, ft, cu, flc, phase, out, apart⟩ := (makeLanes_onlyLanes n e u).frame
  change (enrolNew n e s₀).ports = _ at ports
  have taken : exec (.enrol h n e) s = .next (issueAnswer h (.enrol n e)
      (.accepted (.enrolled ((enrolNew n e s₀).printer n))) (enrolNew n e s₀)) := by
    refine (request_ready h _ _ s rd).trans ?_
    have inRange : n < Config.printers ∧ enrolmentOk e = true := ⟨hn, ok⟩
    have unenrolled : ¬(s₀.printer n).enrolled = true := by rw [show s₀.printer n = s.printer n from rfl, new]; decide
    rw [if_neg (not_not.2 inRange), if_pos unenrolled]
    rfl
  have printer : ∀ m, (enrolNew n e s₀).printer m = if m = n then enrolledPrinter e else s.printer m := fun m =>
    (printer_congr ft m).trans (State.printer_setPrinter ..)
  have lane : ∀ m l, (enrolNew n e s₀).lane m l =
      if m = n then (e.types.get l).elim (s.lane m l) (fun t => some (madeLane s t)) else s.lane m l := fun m l =>
    lane_makeLanes n e u l m
  have stray : ∀ a, (enrolNew n e s₀).stray a = if a = n then none else s.stray a := fun a =>
    (congrArg (fun x : LinkUnit => Table.get none x.strays a) flc).trans (State.stray_setStray ..)
  refine ⟨_, taken, (printer n).trans (if_pos rfl), fun m other => (printer m).trans (if_neg other), fun l ty type => ?_,
    fun m l other => (lane m l).trans (if_neg other), (stray n).trans (if_pos rfl),
    fun a other => (stray a).trans (if_neg other), ?_, fun l none => ?_, ?_, au, jt, ru, cu,
    .answered _ ((setPrinter_apart n _ s₀).trans apart), phase, fun a => ?_⟩
  · obtain ⟨capacity, critical, reorder⟩ := types ty
    refine (lane n l).trans ?_
    rw [if_pos rfl, type, Option.elim_some]
    have fresh : madeLane s ty = { newLane ty (s.ctype ty).capacity with state := (madeLane s ty).state } := rfl
    rw [fresh, madeLane_ok capacity critical reorder]
    rfl
  · exact congrArg (List.cons _) out
  · refine (lane n l).trans ?_
    rw [if_pos rfl, none]
    rfl
  · rw [ports_issueAnswer h _ _ (.accepted .none) ports]
    exact congrArg State.ports (issueAnswer_atOwner h (.enrol n e) (.accepted .none) s)
  · have kept : (enrolNew n e s₀).commands a = u.commands a := commands_congr flc a
    exact kept

/-! ### What the work on callouts leaves of the fleet (R145 to R151) -/

/-- Of any printer's record the queue and the admin state may have changed, and no grace record and no history. -/
structure AnyQueue (s t : State) : Prop where
  printer : ∀ m, ∃ q a, t.printer m = { s.printer m with queue := q, admin := a }
  grace : t.cu.grace = s.cu.grace
  history : t.cu.history = s.cu.history

section
variable {s t u : State}

theorem AnyQueue.of_ft (ft : t.ft = s.ft) (grace : t.cu.grace = s.cu.grace) (history : t.cu.history = s.cu.history) :
    AnyQueue s t := ⟨fun m => ⟨_, _, printer_congr ft m⟩, grace, history⟩

theorem AnyQueue.refl (s : State) : AnyQueue s s := .of_ft rfl rfl rfl

theorem AnyQueue.trans (h : AnyQueue s t) (h' : AnyQueue t u) : AnyQueue s u where
  printer m := by
    obtain ⟨_, _, first⟩ := h.printer m
    obtain ⟨q, a, second⟩ := h'.printer m
    exact ⟨q, a, by rw [second, first]⟩
  grace := h'.grace.trans h.grace
  history := h'.history.trans h.history

theorem AnyQueue.of_onlyQueue {n : Nat} (h : OnlyQueue n s t) (grace : t.cu.grace = s.cu.grace)
    (history : t.cu.history = s.cu.history) : AnyQueue s t where
  printer m := by
    by_cases own : m = n
    · rw [own]; exact h.own
    · exact ⟨_, _, h.others m own⟩
  grace := grace
  history := history

theorem AnyQueue.conditions (h : AnyQueue s t) (m : Nat) : (t.printer m).conditions = (s.printer m).conditions := by
  obtain ⟨_, _, record⟩ := h.printer m
  rw [record]

theorem makeCallout_anyQueue (n : Nat) (k : CalloutKind) (items : List CalloutItem) (s : State) :
    AnyQueue s (makeCallout n k items s) :=
  .of_onlyQueue (makeCallout_onlyQueue k items s) (by simp [makeCallout]) (by simp [makeCallout])

theorem serveDeferral_anyQueue (d : Deferral) (s : State) : AnyQueue s (serveDeferral d s) := by
  have dropped : AnyQueue s (s.setDeferrals (s.cu.deferrals.drop 1)) := .of_ft rfl rfl rfl
  unfold serveDeferral
  dsimp only
  split
  · exact dropped
  · exact dropped.trans (makeCallout_anyQueue _ _ _ _)

theorem serveDeferrals_anyQueue (s : State) : AnyQueue s (serveDeferrals s) :=
  serveDeferrals_induct (AnyQueue s) (fun _ d _ _ _ h => h.trans (serveDeferral_anyQueue d _)) s (.refl s)

theorem dropItem_anyQueue (n : Nat) (k : CalloutKind) (item : CalloutItem) (s : State) :
    AnyQueue s (dropItem n k item s) := by
  have left : AnyQueue s (dropCalloutItem n k item s) := by
    obtain ⟨e, -⟩ | ⟨e, -⟩ | ⟨e, -⟩ := dropCalloutItem_cases n k item s <;> rw [e]
    · exact .refl s
    · exact AnyQueue.trans (t := withoutCallout n k s) (.of_ft rfl rfl rfl) (serveDeferrals_anyQueue _)
    · exact .of_ft rfl rfl rfl
  exact left.trans (.of_ft rfl rfl rfl)

end

/-! ### A condition cleared (R93, R144) -/

/-- A printer's record without a condition. -/
def Printer.withoutCondition (p : Printer) (k : ConditionKind) : Printer :=
  { p with conditions := Table.set none p.conditions k.code none }

theorem get_withoutCondition (p : Printer) (k l : ConditionKind) : Table.get none (p.withoutCondition k).conditions l.code =
    if l = k then none else Table.get none p.conditions l.code := by
  rw [Printer.withoutCondition, Table.get_set]
  exact if_congr ⟨ConditionKind.code_inj, congrArg _⟩ rfl rfl

theorem holds_withoutCondition (p : Printer) (k l : ConditionKind) :
    (p.withoutCondition k).holds l = if l = k then false else p.holds l := by
  rw [Printer.holds, get_withoutCondition]
  split <;> rfl

/-- R93, R144: a condition's removal, told to the Callout Unit. -/
def clearedAt (n : Nat) (k : ConditionKind) (s : State) : State :=
  tellCleared n k (s.setPrinter n ((s.printer n).withoutCondition k))

theorem removeCondition_held {n : Nat} {k : ConditionKind} {s : State} (held : (s.printer n).holds k = true) :
    removeCondition n k s = if k.blocks then promotionCheck n (clearedAt n k s) else clearedAt n k s := if_pos held

section
variable (n : Nat) {k : ConditionKind} (s : State) (graced : k ≠ .supplyOut)
include graced

theorem clearedAt_eq : clearedAt n k s = dropItem n .service (.condition k)
    ((s.setPrinter n ((s.printer n).withoutCondition k)).setGrace n k .idle) := if_neg graced

/-- R93, R144: the kind is held no more and its grace record is IDLE; no other condition, grace record or history changes. -/
theorem clearedAt_records :
    (∀ l, ((clearedAt n k s).printer n).holds l = if l = k then false else (s.printer n).holds l) ∧
    (∀ m, m ≠ n → ((clearedAt n k s).printer m).conditions = (s.printer m).conditions) ∧
    (∀ m x, (clearedAt n k s).grace m x = if m = n ∧ x = k then .idle else s.grace m x) ∧
    (∀ m, (clearedAt n k s).history m = s.history m) := by
  rw [clearedAt_eq n s graced]
  set u := (s.setPrinter n ((s.printer n).withoutCondition k)).setGrace n k .idle
  have work := dropItem_anyQueue n .service (.condition k) u
  have printer : ∀ m, u.printer m = if m = n then (s.printer n).withoutCondition k else s.printer m :=
    fun m => State.printer_setPrinter ..
  refine ⟨fun l => ?_, fun m other => ?_, fun m x => ?_, fun m => congrArg (fun h => Table.get 0 h m) work.history⟩
  · rw [Printer.holds, work.conditions n, printer n, if_pos rfl]
    exact holds_withoutCondition _ k l
  · rw [work.conditions m, printer m, if_neg other]
  · exact (congrArg (fun g => Table.get Grace.idle g (8 * m + x.code)) work.grace).trans (State.grace_setGrace ..)

/-- R144: the kind stands in no SERVICE callout or deferral of the printer. -/
theorem clearedAt_dropped (apart : KeysApart s) : ¬Stands (clearedAt n k s) (n, .service) (.condition k) := by
  rw [clearedAt_eq n s graced]
  exact dropItem_dropped n .service (.condition k) apart

omit graced in
theorem clearedAt_moves : FleetMoves s (clearedAt n k s) := by
  refine .trans (FleetMove.once ?_) (tellCleared_moves n k _)
  exact .printer rfl

end

/-! ### The settings (R86, R93, R108, R120, R121, R141, R152) -/

/-- The checks of a request on an enrolled printer, passed. -/
theorem onPrinter_enrolled {n : Nat} {ok : Bool} {act : Printer → State × Answer} {s : State} (hn : n < 64)
    (hok : ok = true) (enrolled : (s.printer n).enrolled = true) : onPrinter n ok act s = act (s.printer n) := by
  have inRange : n < Config.printers ∧ ok = true := ⟨hn, hok⟩
  rw [onPrinter, if_neg (not_not.2 inRange), if_neg (not_not.2 enrolled)]

theorem optInRange_of {lo hi : Nat} {x : Option Nat} (h : ∀ v, x = some v → lo ≤ v ∧ v ≤ hi) : optInRange lo hi x = true := by
  rw [optInRange, Option.all_eq_true]
  intro v hv
  simpa [inRange] using h v hv

theorem weightsOk_of {w : List Nat} (h : ∀ x ∈ w, x ≤ 255) : weightsOk w = true := by
  rw [weightsOk, List.all_eq_true]
  intro x hx
  simpa [inRange] using h x hx

/-- R86, R93: SET_PRINTER_TIMERS, SET_WALKUP and CLEAR_CONDITION. -/
theorem printerSettings : (∀ (h : Head) (n : Nat) (a b : Option Nat) (s : State), h.port = .f →
      Ready h (.setPrinterTimers n a b) s → n < 64 → (s.printer n).enrolled = true → (∀ x, a = some x → 10 ≤ x ∧ x ≤ 255) →
      (∀ x, b = some x → 1 ≤ x ∧ x ≤ 255) →
      let p := s.printer n
      exec (.setPrinterTimers h n a b) s = .next
        ((answered h (.setPrinterTimers n a b)
            (.accepted (.printerTimers (a.getD p.silenceLimit) (b.getD p.stallLimit))) s).setPrinter n
          { p with silenceLimit := a.getD p.silenceLimit, stallLimit := b.getD p.stallLimit })) ∧
    (∀ (h : Head) (a b : Option Nat) (s : State), h.port = .f → Ready h (.setWalkup a b) s →
      (∀ x, a = some x → x ≤ 255) → (∀ x, b = some x → x ≤ 7) →
      exec (.setWalkup h a b) s = .next
        { answered h (.setWalkup a b) (.accepted (.walkup (a.getD s.ft.walkupMargin) (b.getD s.ft.walkupClass))) s with
          ft := { s.ft with walkupMargin := a.getD s.ft.walkupMargin, walkupClass := b.getD s.ft.walkupClass } }) := by
  refine ⟨fun h n a b s _ rd hn enrolled ha hb => ?_, fun h a b s _ rd ha hb => ?_⟩
  · refine (request_ready h _ _ s rd).trans ?_
    rw [onPrinter_enrolled hn (by rw [optInRange_of ha, optInRange_of hb]; rfl) (by exact enrolled), ← issueAnswer_atOwner]
    rfl
  · have ok : optInRange 0 255 a = true ∧ optInRange 0 7 b = true :=
      ⟨optInRange_of fun x hx => ⟨Nat.zero_le x, ha x hx⟩, optInRange_of fun x hx => ⟨Nat.zero_le x, hb x hx⟩⟩
    refine (request_ready h _ _ s rd).trans ?_
    rw [if_neg (not_not.2 ok), ← issueAnswer_atOwner]
    rfl

/-- R93: METER_FAULT, which blocks no release, cleared by the facility. -/
theorem clearConditionClears {h : Head} {n : Nat} {s : State} (rd : Ready h (.clearCondition n .meterFault) s) (hn : n < 64)
    (enrolled : (s.printer n).enrolled = true) (held : (s.printer n).holds .meterFault = true) :
    exec (.clearCondition h n .meterFault) s = .next (issueAnswer h (.clearCondition n .meterFault) (.accepted .none)
      (clearedAt n .meterFault (atOwner h (.clearCondition n .meterFault) s))) := by
  refine (request_ready h _ _ s rd).trans ?_
  have cleared : removeCondition n .meterFault (atOwner h (.clearCondition n .meterFault) s) =
      clearedAt n .meterFault (atOwner h (.clearCondition n .meterFault) s) := removeCondition_held held
  rw [onPrinter_enrolled hn rfl (by exact enrolled), if_pos rfl, cleared]
  rfl

theorem clearConditionSettles (h : Head) (n : Nat) (k : ConditionKind) (s : State) (rd : Ready h (.clearCondition n k) s)
    (hn : n < 64) (enrolled : (s.printer n).enrolled = true) :
    (k ≠ .meterFault →
      exec (.clearCondition h n k) s = .next (answered h (.clearCondition n k) (.refused .badState) s)) ∧
    (k = .meterFault → (s.printer n).holds .meterFault = false →
      exec (.clearCondition h n k) s = .next (answered h (.clearCondition n k) (.accepted .none) s)) ∧
    (k = .meterFault → (s.printer n).holds .meterFault = true → CalloutLaw s →
      ∃ t, exec (.clearCondition h n k) s = .next t ∧ (t.printer n).holds .meterFault = false ∧
        (∀ x, x ≠ .meterFault → (t.printer n).holds x = (s.printer n).holds x) ∧ t.grace n .meterFault = .idle ∧
        ¬InService t n .meterFault ∧ t.out.head? = some (h.port, .answer h.tag 70 (.accepted .none)) ∧
        (∀ m, m ≠ n → (t.printer m).conditions = (s.printer m).conditions) ∧
        (∀ m x, (m, x) ≠ (n, .meterFault) → t.grace m x = s.grace m x) ∧
        (∀ m, t.history m = s.history m) ∧ (∀ a, t.commands a = s.commands a) ∧ Apart s t) := by
  refine ⟨fun other => ?_, fun fault absent => ?_, fun fault held law => ?_⟩
  · refine request_answers h _ _ s _ rd ?_
    rw [onPrinter_enrolled hn rfl (by exact enrolled), if_neg other]
    rfl
  · refine request_answers h _ _ s _ rd ?_
    rw [onPrinter_enrolled hn rfl (by exact enrolled), if_pos fault, removeCondition_absent n _ _ (by exact absent)]
    rfl
  · subst fault
    set s₀ := atOwner h (.clearCondition n .meterFault) s
    have graced : ConditionKind.meterFault ≠ .supplyOut := by decide
    obtain ⟨holds, others, grace, history⟩ := clearedAt_records n s₀ graced
    have dropped := clearedAt_dropped n s₀ graced (CalloutLaw.keysApart (by exact law))
    have flc : (clearedAt n .meterFault s₀).flc = s₀.flc :=
      (tellCleared_frame n .meterFault (s₀.setPrinter n ((s₀.printer n).withoutCondition .meterFault))).2.1
    refine ⟨_, clearConditionClears rd hn enrolled held, (holds _).trans (if_pos rfl),
      fun x other => (holds x).trans (if_neg other), (grace n _).trans (if_pos ⟨rfl, rfl⟩), ?_, rfl, others,
      fun m x other => (grace m x).trans (if_neg fun same => other (by rw [same.1, same.2])), history,
      commands_congr flc, .answered _ (clearedAt_moves n s₀).apart⟩
    exact fun listed => dropped ((stands_congr rfl).1 ((inService_iff n .meterFault).1 listed))

/-- R108: SET_WEIGHTS and SET_ESTIMATOR. -/
theorem estimatorSettings : (∀ (h : Head) (k c : Option (List Nat)) (s : State), h.port = .f → Ready h (.setWeights k c) s →
      (∀ w, k = some w ∨ c = some w → ∀ x ∈ w, x ≤ 255) →
      exec (.setWeights h k c) s = .next
        { answered h (.setWeights k c) (.accepted .none) s with
          se := { s.se with kWeights := k.getD s.se.kWeights, colourWeights := c.getD s.se.colourWeights } }) ∧
    (∀ (h : Head) (a b : Option Nat) (s : State), h.port = .f → Ready h (.setEstimator a b) s →
      (∀ x, a = some x → x ≤ 100) → (∀ x, b = some x → x ≤ 100) →
      exec (.setEstimator h a b) s = .next
        { answered h (.setEstimator a b) (.accepted .none) s with
          se := { s.se with tolerance := a.getD s.se.tolerance, rebaseLimit := b.getD s.se.rebaseLimit } }) := by
  refine ⟨fun h k c s _ rd hw => ?_, fun h a b s _ rd ha hb => ?_⟩
  · have ok : k.all weightsOk = true ∧ c.all weightsOk = true :=
      ⟨(Option.all_eq_true _ _).2 fun w hk => weightsOk_of (hw w (.inl hk)),
        (Option.all_eq_true _ _).2 fun w hc => weightsOk_of (hw w (.inr hc))⟩
    refine (request_ready h _ _ s rd).trans ?_
    rw [if_neg (not_not.2 ok), ← issueAnswer_atOwner]
    rfl
  · have ok : optInRange 0 100 a = true ∧ optInRange 0 100 b = true :=
      ⟨optInRange_of fun x hx => ⟨Nat.zero_le x, ha x hx⟩, optInRange_of fun x hx => ⟨Nat.zero_le x, hb x hx⟩⟩
    refine (request_ready h _ _ s rd).trans ?_
    rw [if_neg (not_not.2 ok), ← issueAnswer_atOwner]
    rfl

section
variable {n : Nat} {l : Lane} {ok : Bool} {act : LaneRecord → State × Answer} {s : State} (hn : n < 64) (hok : ok = true)
  (enrolled : (s.printer n).enrolled = true)
include hn hok enrolled

/-- R120, R121: a lane the printer does not have. -/
theorem onLane_absent (absent : s.lane n l = none) : onLane n l ok act s = refuse .noSuchPrinter s := by
  rw [onLane, onPrinter_enrolled hn hok enrolled, absent]

theorem onLane_present {x : LaneRecord} (present : s.lane n l = some x) : onLane n l ok act s = act x := by
  rw [onLane, onPrinter_enrolled hn hok enrolled, present]

end

/-- R120, R121: SET_FACTOR and ACK_UNCOUNTED. -/
theorem laneSettings (h : Head) (n f : Nat) (l : Lane) (s : State) (hn : n < 64) (enrolled : (s.printer n).enrolled = true) :
    (Ready h (.setFactor n l f) s → 32 ≤ f → f ≤ 96 →
      (s.lane n l = none →
        exec (.setFactor h n l f) s = .next (answered h (.setFactor n l f) (.refused .noSuchPrinter) s)) ∧
      (∀ x, s.lane n l = some x →
        exec (.setFactor h n l f) s = .next
          ((answered h (.setFactor n l f) (.accepted .none) s).setLane n l (some { x with factor := f })))) ∧
    (Ready h (.ackUncounted n l) s →
      (s.lane n l = none →
        exec (.ackUncounted h n l) s = .next (answered h (.ackUncounted n l) (.refused .noSuchPrinter) s)) ∧
      (∀ x, s.lane n l = some x →
        exec (.ackUncounted h n l) s = .next
          ((answered h (.ackUncounted n l) (.accepted .none) s).setLane n l (some { x with uncounted := false })))) := by
  refine ⟨fun rd low high => ?_, fun rd => ?_⟩
  · have ok : inRange 32 96 f = true := by simp [inRange, low, high]
    refine ⟨fun absent => ?_, fun x present => ?_⟩
    · refine request_answers h _ _ s _ rd ?_
      rw [onLane_absent hn ok (by exact enrolled) (by exact absent)]
      rfl
    · refine (request_ready h _ _ s rd).trans ?_
      rw [onLane_present hn ok (by exact enrolled) (by exact present), ← issueAnswer_atOwner]
      rfl
  · refine ⟨fun absent => ?_, fun x present => ?_⟩
    · refine request_answers h _ _ s _ rd ?_
      rw [onLane_absent hn rfl (by exact enrolled) (by exact absent)]
      rfl
    · refine (request_ready h _ _ s rd).trans ?_
      rw [onLane_present hn rfl (by exact enrolled) (by exact present), ← issueAnswer_atOwner]
      rfl

/-- R141, R152: SET_GRACE, SET_ESCALATION and CLEAR_HISTORY. -/
theorem calloutSettings : (∀ (h : Head) (k : ConditionKind) (m : Nat) (s : State), h.port = .f → Ready h (.setGrace k m) s →
      (k ≠ .supplyOut → m ≤ 255 →
        exec (.setGrace h k m) s = .next
          { answered h (.setGrace k m) (.accepted (.settings (s.cu.graceTimes.set k.code m) s.cu.escalation)) s with
            cu := { s.cu with graceTimes := s.cu.graceTimes.set k.code m } }) ∧
      ((k = .supplyOut ∨ 255 < m) →
        exec (.setGrace h k m) s = .next (answered h (.setGrace k m) (.refused .outOfRange) s))) ∧
    (∀ (h : Head) (m : Nat) (s : State), h.port = .f → Ready h (.setEscalation m) s →
      (1 ≤ m → m ≤ 255 →
        exec (.setEscalation h m) s = .next
          { answered h (.setEscalation m) (.accepted (.settings s.cu.graceTimes m)) s with
            cu := { s.cu with escalation := m } }) ∧
      ((m = 0 ∨ 255 < m) →
        exec (.setEscalation h m) s = .next (answered h (.setEscalation m) (.refused .outOfRange) s))) ∧
    (∀ (h : Head) (n : Nat) (k : KindSet) (s : State), h.port = .f → Ready h (.clearHistory n k) s → n < 64 →
      (s.printer n).enrolled = true →
      exec (.clearHistory h n k) s = .next
        ((answered h (.clearHistory n k) (.accepted (.history (s.history n &&& ~~~k))) s).setHistory n
          (s.history n &&& ~~~k))) := by
  refine ⟨fun h k m s _ rd => ⟨fun graced high => ?_, fun bad => ?_⟩,
    fun h m s _ rd => ⟨fun low high => ?_, fun bad => ?_⟩, fun h n k s _ rd hn enrolled => ?_⟩
  · have ok : ¬(k = .supplyOut ∨ ¬inRange 0 255 m = true) := by simp [graced, inRange, high]
    refine (request_ready h _ _ s rd).trans ?_
    rw [if_neg ok, ← issueAnswer_atOwner]
    rfl
  · have bad : k = .supplyOut ∨ ¬inRange 0 255 m = true := bad.imp_right fun high => by simp [inRange]; omega
    refine request_answers h _ _ s _ rd ?_
    rw [if_pos bad]
    rfl
  · have ok : inRange 1 255 m = true := by simp [inRange, low, high]
    refine (request_ready h _ _ s rd).trans ?_
    rw [if_neg (not_not.2 ok), ← issueAnswer_atOwner]
    rfl
  · have bad : ¬inRange 1 255 m = true := by simp [inRange]; omega
    refine request_answers h _ _ s _ rd ?_
    rw [if_pos bad]
    rfl
  · refine (request_ready h _ _ s rd).trans ?_
    rw [onPrinter_enrolled hn rfl (by exact enrolled), ← issueAnswer_atOwner]
    rfl

/-- Settles O38: the settings, each by the checks it passes or fails, and METER_FAULT cleared (`clearConditionSettles`). -/
theorem facilitySettings : Obligations.FacilitySettings := by
  obtain ⟨timers, walkup⟩ := printerSettings
  obtain ⟨weights, estimator⟩ := estimatorSettings
  exact ⟨⟨timers, walkup, fun h n k s _ rd hn enrolled => clearConditionSettles h n k s rd hn enrolled, weights, estimator,
    fun h n f l s _ hn enrolled => laneSettings h n f l s hn enrolled⟩, calloutSettings⟩

end Sys2Proof.Machine

/-! CONDITION (R93, R102, R143 to R145): what an onset adds, the requeue behind a SERVICE raise, and a clear. -/

namespace Sys2Proof.Machine

/-! ### What an onset adds, and no more (R93, R143, R145) -/

/-- Of a printer's conditions and grace records, and of all that stands, only the kind named may have changed or be new. -/
structure Adds (n : Nat) (k : ConditionKind) (s t : State) : Prop where
  conditions : ∀ l, l ≠ k → Table.get none (t.printer n).conditions l.code = Table.get none (s.printer n).conditions l.code
  grace : ∀ l, l ≠ k → t.grace n l = s.grace n l
  stands : ∀ {key item}, Stands t key item → Stands s key item ∨ (key = (n, .service) ∧ item = .condition k)

section
variable {n : Nat} {k l : ConditionKind} {s t u : State}

theorem Adds.trans (h : Adds n k s t) (h' : Adds n k t u) : Adds n k s u where
  conditions l other := (h'.conditions l other).trans (h.conditions l other)
  grace l other := (h'.grace l other).trans (h.grace l other)
  stands st := (h'.stands st).elim h.stands .inr

/-- What leaves the conditions and the Callout Unit adds nothing. -/
theorem Adds.of_kept (conditions : (t.printer n).conditions = (s.printer n).conditions) (cu : t.cu = s.cu) : Adds n k s t where
  conditions l _ := by rw [conditions]
  grace l _ := by rw [State.grace, cu, State.grace]
  stands st := .inl ((stands_congr cu).1 st)

theorem Adds.refl (s : State) : Adds n k s s := .of_kept rfl rfl

theorem Adds.holds (h : Adds n k s t) (other : l ≠ k) : (t.printer n).holds l = (s.printer n).holds l := by
  rw [Printer.holds, h.conditions l other, Printer.holds]

theorem Adds.inService (h : Adds n k s t) (other : l ≠ k) (st : InService t n l) : InService s n l := by
  rw [inService_iff] at st ⊢
  refine (h.stands st).resolve_right fun ⟨_, same⟩ => other ?_
  injection same

theorem OnlyQueue.conditions (h : OnlyQueue n s t) : (t.printer n).conditions = (s.printer n).conditions := by
  obtain ⟨-, q, a, own⟩ := h
  rw [own]

theorem serviceRaise_adds (n : Nat) (k : ConditionKind) (s : State) : Adds n k s (serviceRaise n [k] s) where
  conditions _ _ := by rw [(serviceRaise_onlyQueue [k] s).conditions]
  grace _ _ := grace_serviceRaise n s [k] n _
  stands st := (serviceRaise_stands n [k] s st).imp_right fun ⟨key, x, hx, item⟩ =>
    ⟨key, by rw [item, List.mem_singleton.1 hx]⟩

theorem setGrace_adds (n : Nat) (k : ConditionKind) (g : Grace) (s : State) : Adds n k s (s.setGrace n k g) where
  conditions _ _ := rfl
  grace _ other := (State.grace_setGrace ..).trans (if_neg fun h => other h.2)
  stands := .inl

theorem tellOnset_adds (n : Nat) (k : ConditionKind) (s : State) : Adds n k s (tellOnset n k s) := by
  have noted : Adds n k s (s.setHistory n (s.history n ||| k.only)) := ⟨fun _ _ => rfl, fun _ _ => rfl, .inl⟩
  by_cases graced : k = .supplyOut
  · rw [tellOnset, if_pos graced]
    exact noted
  · rcases Nat.eq_zero_or_pos (graceTime s k) with none | some
    · rw [tellOnset_ungraced n s graced none]
      exact noted.trans ((setGrace_adds n k .spent _).trans (serviceRaise_adds n k _))
    · rw [tellOnset_graced n s graced some]
      exact noted.trans (setGrace_adds n k _ _)

theorem addCondition_adds (n : Nat) (k : ConditionKind) (s : State) : Adds n k s (addCondition n k s) := by
  cases held : (s.printer n).holds k with
  | true => rw [addCondition_held held]; exact .refl s
  | false =>
    rw [addCondition_new held]
    refine Adds.trans (t := s.setPrinter n ((s.printer n).withCondition k s.now)) ⟨fun l other => ?_, fun _ _ => rfl, .inl⟩
      (tellOnset_adds n k _)
    rw [State.printer_setPrinter, if_pos rfl, get_withCondition, if_neg other]

/-- R160: a command issued may add UNREACHABLE to its own printer. -/
theorem issue_adds (n : Nat) (c : Command) (s : State) : Adds n .unreachable s (issue n c s) := by
  by_cases room : (s.commands n).length < 8
  · rw [issue_room room]
    exact .of_kept rfl rfl
  · rw [issue_full (not_lt.1 room)]
    have stopped : Adds n .unreachable s (countStopped n s) :=
      .of_kept (by rw [printer_countStopped, if_pos rfl]) rfl
    have emptied : Adds n .unreachable (silenceRunOut n s) ((silenceRunOut n s).setCommands n []) := .of_kept rfl rfl
    exact stopped.trans ((addCondition_adds n .unreachable (countStopped n s)).trans emptied)

theorem promotionCheck_adds (n : Nat) (s : State) : Adds n .unreachable s (promotionCheck n s) := by
  unfold promotionCheck
  split
  · exact .refl s
  · next k rest queue =>
    split
    · set u := (s.setJob k.index { s.job k.index with state := .active }).setPrinter n
        { s.printer n with stall := some (s.printer n).stallLimit }
      have running : Adds n .unreachable s u := .of_kept (by rw [State.printer_setPrinter, if_pos rfl]) rfl
      refine running.trans ((issue_adds n (.expect ((s.job k.index).grant.getD 0) (s.job k.index).tenant
        (s.job k.index).label (s.job k.index).pages) u).trans (.of_kept ?_ ?_))
      · rw [promote, printer_congr (raiseTenant_frame _ _ _).2.2.2.1]
      · simp [promote, u]
    · exact .refl s

end

/-! ### No job left QUEUED by a SERVICE raise (R102) -/

theorem requeueStep_unqueued (n : Nat) (s : State) (k : Handle) :
    ((requeueStep n (fun _ => true) s k).job k.index).state ≠ .queued := by
  unfold requeueStep
  split
  · rw [requeueJob_eq]
    obtain ⟨-, -, state⟩ :=
      job_returnToHeld k.index (outOfQueue n k (s.job k.index) (returnReservation (s.job k.index) s))
    rcases state with e | e <;> rw [e] <;> decide
  · next c => exact fun queued => c ⟨queued, rfl⟩

theorem requeueFold_unqueued (n : Nat) (l : List Handle) (s : State) :
    ∀ k ∈ l, ((l.foldl (requeueStep n fun _ => true) s).job k.index).state ≠ .queued := by
  induction l generalizing s with
  | nil => simp
  | cons k l ih =>
    intro k' hk
    rcases List.mem_cons.1 hk with rfl | hk
    · have sent := requeueStep_unqueued n s k'
      have still := (foldl_keeps (requeueStep n fun _ => true) Still .refl (fun _ _ _ => .trans)
        (fun a x => (requeueStep_still n _ a x).1) l (requeueStep n (fun _ => true) s k')).jobs _ sent
      rw [List.foldl_cons, still]
      exact sent
    · exact ih _ k' hk

theorem serviceRequeue_moves (n : Nat) (s : State) : FleetMoves s (serviceRequeue n s) :=
  (requeueJobs_moves n _ s).trans (drainingTest_moves n _)

/-- R102: after the requeue no job of the queue is QUEUED. -/
theorem serviceRequeue_unqueued (n : Nat) (s : State) : ∀ k ∈ ((serviceRequeue n s).printer n).queue,
    ((serviceRequeue n s).job k.index).state ≠ .queued := by
  intro k hk
  have member := (serviceRequeue_moves n s).queue n hk
  have sent := requeueFold_unqueued n (s.printer n).queue s k member
  rw [← requeueJobs_eq] at sent
  rw [serviceRequeue, (drainingTest_calm n _).jobs _ sent]
  exact sent

/-! ### Flags are set, never cleared (R168) -/

theorem FlagsStay.trans {s t u : State} (h : FlagsStay s t) (h' : FlagsStay t u) : FlagsStay s u :=
  fun p k hk => h' p k (h p k hk)

theorem FlagsStay.of_ports {s t : State} (h : t.ports = s.ports) : FlagsStay s t := fun p k hk => by
  rw [State.port, h]
  exact hk

theorem flagsStay_returnToHeld (i : Nat) (s : State) : FlagsStay s (returnToHeld i s) := by
  unfold returnToHeld
  dsimp only
  split
  · exact (flags_enterFinal i _ _ s).1
  · exact fun p k hk => flagsStay_raise _ _ _ p k hk

theorem returnReservation_ports (j : Job) (s : State) : (returnReservation j s).ports = s.ports := by simp

theorem outOfQueue_ports (n : Nat) (k : Handle) (j : Job) (s : State) : (outOfQueue n k j s).ports = s.ports := by
  simp [outOfQueue]

theorem FleetMove.flagsStay {s t : State} (h : FleetMove s t) : FlagsStay s t := by
  cases h with
  | raise p k => exact flagsStay_raise p k s
  | printer queue => exact .of_ports rfl
  | callouts c => exact .of_ports rfl
  | commands a q => exact .of_ports rfl
  | active queued => exact .of_ports rfl
  | @sendBack n k _ queued =>
    rw [requeueJob_eq]
    exact FlagsStay.trans (t := outOfQueue n k (s.job k.index) (returnReservation (s.job k.index) s))
      (.of_ports ((outOfQueue_ports n k _ _).trans (returnReservation_ports _ s))) (flagsStay_returnToHeld _ _)

theorem FleetMoves.flagsStay {s t : State} (h : FleetMoves s t) : FlagsStay s t :=
  Relation.ReflTransGen.trans_induction_on (motive := fun {a b} _ => FlagsStay a b) h (fun _ _ _ hk => hk)
    FleetMove.flagsStay fun _ _ => .trans

/-! ### A SERVICE raise that makes a callout (R145, R102) -/

section
variable {n : Nat} {s : State}

theorem makeService_told (items : List CalloutItem) (s : State) :
    hasNotice ((makeCallout n .service items s).port .f).flags .callout = true ∧
    ∀ k ∈ ((makeCallout n .service items s).printer n).queue,
      ((makeCallout n .service items s).job k.index).state ≠ .queued :=
  ⟨(serviceRequeue_moves n _).flagsStay .f .callout (hasNotice_raise .f .callout _),
    serviceRequeue_unqueued n _⟩

/-- R145: a raise for a printer in use that has no SERVICE callout, with the callout queue short of full, makes one. -/
theorem serviceRaise_makes {kinds : List ConditionKind} (some : kinds ≠ []) (inUse : (s.printer n).admin ≠ .outOfService)
    (none : ∀ c ∈ s.cu.callouts, c.key ≠ (n, .service)) (room : s.cu.callouts.length < 32) :
    serviceRaise n kinds s = makeCallout n .service (kinds.map .condition) s := by
  have absent : calloutOf s n .service = Option.none := (calloutOf_eq_none n .service s).2 none
  have items : kinds.map CalloutItem.condition ≠ [] := by simpa using some
  have room : s.cu.callouts.length < Config.calloutDepth := room
  rw [serviceRaise, if_neg inUse, raiseItems]
  simp only [absent, items, room, if_true, if_false]

end

/-! ### CONDITION (R93) -/

section
variable {l : LinkFrame} {k : ConditionKind} {s : State}

/-- R93: the report of a reportable kind, heard, adds or removes it. -/
theorem exec_condition (heard : HeardPlainly l s) (kind : k ∈ [.jam, .doorOpen, .paperOut, .hardware]) (onset : Bool) :
    exec (.condition l k onset) s = .next (if onset then addCondition l.address k (restarted l.address s)
      else removeCondition l.address k (restarted l.address s)) := by
  have ok : k.reportable = true := by
    simp only [List.mem_cons, List.not_mem_nil, or_false] at kind
    rcases kind with rfl | rfl | rfl | rfl <;> rfl
  show Host.Outcome.next (takeReport l .condition k.reportable _ s) = _
  rw [ok, takeReport_plain l .condition _ s (by decide) heard]
  cases onset <;> rfl

end

/-- R93, R143 to R145, R102: an onset of a graced kind without a grace time. -/
theorem onset_ungraced {n : Nat} {k : ConditionKind} {s : State} (graced : k ≠ .supplyOut)
    (new : (s.printer n).holds k = false) (grace : graceTime s k = 0) :
    let t := addCondition n k s
    (t.printer n).holds k = true ∧ t.grace n k = .spent ∧ hasKind (t.history n) k = true ∧
      ((s.printer n).admin = .outOfService → t.cu.callouts = s.cu.callouts) ∧
      ((s.printer n).admin ≠ .outOfService → InService t n k) ∧
      ((s.printer n).admin ≠ .outOfService → (∀ c ∈ s.cu.callouts, c.key ≠ (n, .service)) → s.cu.callouts.length < 32 →
        hasNotice (t.port .f).flags .callout = true ∧ ∀ h ∈ (t.printer n).queue, (t.job h.index).state ≠ .queued) := by
  intro t
  set u := s.setPrinter n ((s.printer n).withCondition k s.now)
  have own : u.printer n = (s.printer n).withCondition k s.now := (State.printer_setPrinter ..).trans (if_pos rfl)
  have admin : (u.printer n).admin = (s.printer n).admin := by rw [own]; rfl
  have told : t = tellOnset n k u := addCondition_new new
  obtain ⟨history, record⟩ := tellOnset_records n u graced
  have conditions := (tellOnset_onlyQueue n u graced).conditions
  rw [← told] at history record conditions
  have raised : t = serviceRaise n [k] ((u.setHistory n (u.history n ||| k.only)).setGrace n k .spent) :=
    told.trans (tellOnset_ungraced n u graced grace)
  have still : graceTime u k = 0 := grace
  refine ⟨?_, ?_, ?_, fun out => ?_, fun inUse => ?_, fun inUse none room => ?_⟩
  · rw [Printer.holds, conditions, own, get_withCondition, if_pos rfl]
    rfl
  · rw [record, still, if_neg (lt_irrefl 0)]
  · rw [history]
    cases k <;> simp [hasKind, ConditionKind.only, ConditionKind.code]
  · rw [raised, serviceRaise, if_pos (by rw [← out, ← admin]; rfl)]
    rfl
  · rw [told]
    exact inService_tellOnset n u graced grace (by rw [admin]; exact inUse)
  · rw [raised, serviceRaise_makes (List.cons_ne_nil _ _) (by exact fun out => inUse (admin.symm.trans out)) (by exact none)
      (by exact room)]
    exact makeService_told _ _

/-- R93, R144: a kind cleared is held no more, its grace record is IDLE, and it stands in no SERVICE callout or deferral. -/
theorem removeCondition_cleared {n : Nat} {k : ConditionKind} {s : State} (graced : k ≠ .supplyOut) (reported : k ≠ .unreachable)
    (held : (s.printer n).holds k = true) :
    ((removeCondition n k s).printer n).holds k = false ∧ (removeCondition n k s).grace n k = .idle ∧
      (KeysApart s → ¬InService (removeCondition n k s) n k) := by
  obtain ⟨holds, -, grace, -⟩ := clearedAt_records n s graced
  have checked : Adds n .unreachable (clearedAt n k s) (removeCondition n k s) := by
    rw [removeCondition_held held]
    split
    · exact promotionCheck_adds n _
    · exact .refl _
  refine ⟨?_, ?_, fun apart listed => ?_⟩
  · rw [checked.holds reported, holds, if_pos rfl]
  · rw [checked.grace k reported, grace, if_pos ⟨rfl, rfl⟩]
  · exact clearedAt_dropped n s graced apart ((inService_iff n k).1 (checked.inService reported listed))

/-- Settles O52: `onset_ungraced` and `removeCondition_cleared`; with a grace time the record runs (`tellOnset_graced`). -/
theorem conditionOnsetAndClear : Obligations.ConditionOnsetAndClear := by
  intro l k s _ heard kind n p grace
  have taken := exec_condition heard kind
  have graced : k ≠ .supplyOut := by rintro rfl; revert kind; decide
  have reported : k ≠ .unreachable := by rintro rfl; revert kind; decide
  refine ⟨fun held => ?_, fun new => ?_, fun new some => ?_, fun new none => ?_, fun held => ?_⟩
  · rw [taken, if_pos rfl, addCondition_held held]
  · rw [taken, if_neg (by decide), removeCondition_absent n k _ new]
  · rw [taken, if_pos rfl, addCondition_new new, tellOnset_graced _ _ graced (by exact some)]
    rfl
  · obtain ⟨held, record, history, out, service, made⟩ := onset_ungraced graced new (by exact none)
    exact ⟨_, taken true, held, record, history, out, service, fun inUse _ => made inUse⟩
  · obtain ⟨cleared, record, gone⟩ := removeCondition_cleared graced reported held
    exact ⟨_, taken false, cleared, record, fun law => gone (CalloutLaw.keysApart (by exact law))⟩

end Sys2Proof.Machine

/-! STATUS (R104): the meter's surplus, and the walk-up pages deducted from lane K; what the effects of a lane's change leave
of printers, lanes and accounts (R111). -/

namespace Sys2Proof.Machine

/-! ### What no change of queues, conditions and claims touches -/

/-- A printer's record but for its queue, its admin state, its conditions and its silence and stall counts. -/
def Printer.background (p : Printer) : Printer :=
  { p with queue := [], admin := .outOfService, conditions := [], supplyOut := 0, silence := none, stall := none }

/-- A lane's record but for its committed need, its state and its claim. -/
def LaneRecord.figures (x : LaneRecord) : LaneRecord :=
  { x with committed := 0, state := .ok, allocation := false, waiting := false }

section
variable {p q : Printer} (same : p.background = q.background)
include same

theorem Printer.background_meter : p.meter = q.meter ∧ p.surplus = q.surplus ∧ p.walkup = q.walkup ∧ p.stalled = q.stalled := by
  have meter := congrArg Printer.meter same
  have surplus := congrArg Printer.surplus same
  have walkup := congrArg Printer.walkup same
  have stalled := congrArg Printer.stalled same
  exact ⟨meter, surplus, walkup, stalled⟩

end

theorem LaneRecord.figures_level {x y : LaneRecord} (same : x.figures = y.figures) :
    x.estimate = y.estimate ∧ x.fraction = y.fraction ∧ x.factor = y.factor ∧ x.type = y.type := by
  have estimate := congrArg LaneRecord.estimate same
  have fraction := congrArg LaneRecord.fraction same
  have factor := congrArg LaneRecord.factor same
  have type := congrArg LaneRecord.type same
  exact ⟨estimate, fraction, factor, type⟩

/-- Every printer's background, every lane's figures, and every account's balance and used count stand. -/
structure Background (s t : State) : Prop where
  printer : ∀ m, (t.printer m).background = (s.printer m).background
  lane : ∀ m l, (t.lane m l).map LaneRecord.figures = (s.lane m l).map LaneRecord.figures
  account : ∀ i, (t.account i).balance = (s.account i).balance ∧ (t.account i).used = (s.account i).used

section
variable {s t u : State} {n : Nat}

theorem Background.refl (s : State) : Background s s := ⟨fun _ => rfl, fun _ _ => rfl, fun _ => ⟨rfl, rfl⟩⟩

theorem Background.trans (h : Background s t) (h' : Background t u) : Background s u where
  printer m := (h'.printer m).trans (h.printer m)
  lane m l := (h'.lane m l).trans (h.lane m l)
  account i := ⟨(h'.account i).1.trans (h.account i).1, (h'.account i).2.trans (h.account i).2⟩

/-- Operations on the stock, and on nothing else but lanes' claims. -/
theorem Background.of_stock (au : t.au = s.au) (ft : t.ft = s.ft)
    (lane : ∀ m l, (t.lane m l).map LaneRecord.figures = (s.lane m l).map LaneRecord.figures) : Background s t where
  printer m := by rw [printer_congr ft]
  lane := lane
  account i := by rw [account_congr au]; exact ⟨rfl, rfl⟩

theorem FleetMove.figures (h : FleetMove s t) (m : Nat) (l : Lane) :
    (t.lane m l).map LaneRecord.figures = (s.lane m l).map LaneRecord.figures := by
  cases h with
  | raise p k => rw [lane_congr (raise_frame _ _ _).2.2.2.2.1]
  | printer queue => rfl
  | callouts c => rfl
  | commands a q => rfl
  | active queued => rfl
  | @sendBack n k _ queued =>
    obtain ⟨-, -, -, -, -, -, lane⟩ := outOfQueue_frame n k (s.job k.index) (returnReservation (s.job k.index) s)
    rw [requeueJob_eq, lane_congr (returnToHeld_frame _ _).2.1, lane, lane_congr (returnReservation_adjusted _ s).se,
      Option.map_map]
    refine Option.map_congr fun x _ => ?_
    dsimp only [Function.comp]
    split <;> rfl

theorem FleetMoves.figures (h : FleetMoves s t) (m : Nat) (l : Lane) :
    (t.lane m l).map LaneRecord.figures = (s.lane m l).map LaneRecord.figures := by
  induction h with
  | refl => rfl
  | tail _ last ih => exact (last.figures m l).trans ih

theorem FleetMoves.background (h : FleetMoves s t) (printer : ∀ m, (t.printer m).background = (s.printer m).background) :
    Background s t where
  printer := printer
  lane := h.figures
  account := by
    obtain ⟨-, -, -, -, -, -, -, -, -, -, -, account⟩ := h.apart
    exact account

/-! ### Printers: the records behind conditions, commands and promotions (R93, R95, R160) -/

theorem AnyQueue.background (h : AnyQueue s t) (m : Nat) : (t.printer m).background = (s.printer m).background := by
  obtain ⟨q, a, record⟩ := h.printer m
  rw [record]
  rfl

theorem OnlyQueue.background (h : OnlyQueue n s t) (m : Nat) : (t.printer m).background = (s.printer m).background := by
  by_cases own : m = n
  · obtain ⟨-, q, a, record⟩ := h
    rw [own, record]
    rfl
  · rw [h.others m own]

/-- A printer's record replaced by one of the same background. -/
theorem background_setPrinter {p : Printer} (same : p.background = (s.printer n).background) (m : Nat) :
    ((s.setPrinter n p).printer m).background = (s.printer m).background := by
  rw [State.printer_setPrinter]
  split
  · next own => rw [same, own]
  · rfl

theorem addCondition_background (n : Nat) (k : ConditionKind) (s : State) (m : Nat) :
    ((addCondition n k s).printer m).background = (s.printer m).background := by
  cases held : (s.printer n).holds k with
  | true => rw [addCondition_held held]
  | false =>
    rw [addCondition_new held]
    refine Eq.trans ?_ (background_setPrinter (n := n) (p := (s.printer n).withCondition k s.now) rfl m)
    by_cases graced : k = .supplyOut
    · rw [tellOnset, if_pos graced]
      rfl
    · exact (tellOnset_onlyQueue n _ graced).background m

theorem issue_background (n : Nat) (c : Command) (s : State) (m : Nat) :
    ((issue n c s).printer m).background = (s.printer m).background := by
  by_cases room : (s.commands n).length < 8
  · rw [issue_room room]
    rfl
  · rw [issue_full (not_lt.1 room)]
    exact (addCondition_background n .unreachable (countStopped n s) m).trans (background_setPrinter (by rfl) m)

theorem promotionCheck_background (n : Nat) (s : State) (m : Nat) :
    ((promotionCheck n s).printer m).background = (s.printer m).background := by
  unfold promotionCheck
  split
  · rfl
  · split
    · rw [promote, printer_congr (raiseTenant_frame _ _ _).2.2.2.1, issue_background]
      exact background_setPrinter (s := s.setJob _ _) (by rfl) m
    · rfl

theorem removeCondition_background (n : Nat) (k : ConditionKind) (s : State) (m : Nat) :
    ((removeCondition n k s).printer m).background = (s.printer m).background := by
  cases held : (s.printer n).holds k with
  | false => rw [removeCondition_absent n k s held]
  | true =>
    have cleared : ((clearedAt n k s).printer m).background = (s.printer m).background := by
      refine Eq.trans ?_ (background_setPrinter (n := n) (p := (s.printer n).withoutCondition k) rfl m)
      unfold clearedAt tellCleared
      split
      · rfl
      · exact (dropItem_anyQueue n .service (.condition k) _).background m
    rw [removeCondition_held held]
    split
    · exact (promotionCheck_background n _ m).trans cleared
    · exact cleared

theorem setSupplyOut_background (n : Nat) (l : Lane) (out : Bool) (s : State) (m : Nat) :
    ((setSupplyOut n l out s).printer m).background = (s.printer m).background := by
  unfold setSupplyOut
  dsimp only
  rw [promotionCheck_background]
  refine Eq.trans ?_ (background_setPrinter (n := n)
    (p := { s.printer n with supplyOut := withLane (s.printer n).supplyOut l out }) rfl m)
  split
  · exact removeCondition_background n _ _ m
  · exact addCondition_background n _ _ m

end

/-! ### Claims: asked for, served and given back (R126 to R128) -/

section
variable {s : State} {n : Nat} {l : Lane}

theorem figures_setLane {z : Option LaneRecord} (same : z.map LaneRecord.figures = (s.lane n l).map LaneRecord.figures)
    (m : Nat) (l' : Lane) :
    ((s.setLane n l z).lane m l').map LaneRecord.figures = (s.lane m l').map LaneRecord.figures := by
  rw [State.lane_setLane]
  split
  · next own => rw [same, own.1, own.2]
  · rfl

theorem figures_serveWaitersN (u fuel : Nat) (s : State) (m : Nat) (l : Lane) :
    ((serveWaitersN u fuel s).lane m l).map LaneRecord.figures = (s.lane m l).map LaneRecord.figures := by
  induction fuel generalizing s with
  | zero => rfl
  | succ fuel ih =>
    rw [serveWaitersN_succ]
    split
    · rfl
    · next w rest _ =>
      split
      · refine (ih _).trans (figures_setLane (s := s.setType u _) ?_ m l)
        rw [Option.map_map]
        rfl
      · rfl

theorem requestCartridge_background (n : Nat) (l : Lane) (s : State) : Background s (requestCartridge n l s) := by
  obtain ⟨au, -, -, ft, -⟩ := requestCartridge_frame n l s
  refine .of_stock au ft fun m l' => ?_
  unfold requestCartridge
  split
  · rfl
  · next x present =>
    rw [lane_congr (trigger_frame _ _).2.2.2.2.1]
    split
    · exact figures_setLane (s := s.setType x.type _) (by rw [show (s.setType x.type _).lane n l = _ from present]; rfl) m l'
    · exact figures_setLane (s := s.setType x.type _) (by rw [show (s.setType x.type _).lane n l = _ from present]; rfl) m l'

theorem returnClaim_background (n : Nat) (l : Lane) (s : State) : Background s (returnClaim n l s) := by
  obtain ⟨au, -, -, ft, -⟩ := returnClaim_frame n l s
  refine .of_stock au ft fun m l' => ?_
  unfold returnClaim
  split
  · rfl
  · next x present =>
    split
    · rw [lane_congr (trigger_frame _ _).2.2.2.2.1]
      refine (figures_serveWaitersN _ _ _ m l').trans ?_
      exact figures_setLane (s := s.setType x.type _) (by rw [show (s.setType x.type _).lane n l = _ from present]; rfl) m l'
    · rfl

/-! ### A lane's change of state, and a deduction (R110, R111, R115) -/

theorem laneEffects_background (n : Nat) (l : Lane) (old new : LaneState) (s : State) :
    Background s (laneEffects n l old new s) := by
  have supply : ∀ s, Background s (supplyOutEffect n l old new s) := fun s => by
    have moved := fun out => (setSupplyOut_moves n l out s).background (setSupplyOut_background n l out s)
    unfold supplyOutEffect
    split
    · exact moved true
    · split
      · exact moved false
      · exact .refl s
  have callout : ∀ s, Background s (calloutEffect n l old new s) := fun s => by
    unfold calloutEffect
    split
    · exact (raiseItems_moves n .supply [.lane l] s).background (raiseItems_onlyQueue _ _ s).background
    · split
      · exact (dropItem_moves n .supply (.lane l) s).background (dropItem_anyQueue n .supply (.lane l) s).background
      · exact .refl s
  have claim : ∀ s, Background s (claimEffect n l old new s) := fun s => by
    unfold claimEffect
    split
    · exact returnClaim_background n l s
    · split
      · exact requestCartridge_background n l s
      · exact .refl s
  exact (supply s).trans ((callout _).trans (claim _))

theorem recompute_background (n : Nat) (l : Lane) (s : State) : Background s (recompute n l s) := by
  unfold recompute
  split
  · exact .refl s
  · next x present =>
    dsimp only
    split
    · exact .refl s
    · refine Background.trans ?_ (laneEffects_background n l _ _ _)
      exact .of_stock rfl rfl (figures_setLane (by rw [present]; rfl))

/-- R115: the state with a lane's record as a deduction leaves it. -/
def withDeduction (n : Nat) (l : Lane) (pages weight : Nat) (s : State) : State :=
  s.setLane n l ((s.lane n l).map (deductedLane · pages weight))

/-- R115: beside the lane deducted from, a deduction leaves every background. -/
theorem deduct_background (n : Nat) (l : Lane) (pages weight : Nat) (s : State) :
    (∀ m, ((deduct n l pages weight s).printer m).background = (s.printer m).background) ∧
    (∀ m l', ((deduct n l pages weight s).lane m l').map LaneRecord.figures =
      ((withDeduction n l pages weight s).lane m l').map LaneRecord.figures) ∧
    (∀ i, ((deduct n l pages weight s).account i).balance = (s.account i).balance ∧
      ((deduct n l pages weight s).account i).used = (s.account i).used) := by
  unfold deduct withDeduction
  split
  · next absent =>
    refine ⟨fun _ => rfl, fun m l' => ?_, fun _ => ⟨rfl, rfl⟩⟩
    rw [absent, figures_setLane (by rw [absent]; rfl)]
  · next x present =>
    rw [present]
    dsimp only
    split
    · exact ⟨fun _ => rfl, fun _ _ => rfl, fun _ => ⟨rfl, rfl⟩⟩
    · obtain ⟨printer, lane, account⟩ := recompute_background n l (s.setLane n l (some (deductedLane x pages weight)))
      exact ⟨printer, lane, account⟩

/-- R115: the figures after a deduction. -/
theorem deducted_of_figures {x y : LaneRecord} {pages weight : Nat}
    (same : y.figures = (deductedLane x pages weight).figures) : Deducted x y pages weight := by
  obtain ⟨estimate, fraction, -⟩ := LaneRecord.figures_level same
  rw [deductedLane] at estimate fraction
  refine ⟨fun none => ?_, fun some => ?_⟩
  · rw [if_pos none] at estimate fraction
    exact ⟨estimate, fraction⟩
  · rw [if_neg some] at estimate fraction
    exact ⟨estimate, fraction⟩

end

/-! ### STATUS (R104) -/

section
variable {l : LinkFrame} {m : Nat} {s : State}

theorem exec_status (heard : HeardPlainly l s) (fits : m < 4294967296) :
    exec (.status l m) s = .next (takeStatus l.address m (restarted l.address s)) := by
  have ok : decide (m ≤ 4294967295) = true := decide_eq_true (by omega)
  show Host.Outcome.next (takeReport l .status (decide (m ≤ 4294967295)) _ s) = _
  rw [ok, takeReport_plain l .status _ s (by decide) heard]

end

section
variable {n m old : Nat} {s : State}

/-- R104, step 3: the meter stored, its rise taken into the surplus. -/
def metered (n m old : Nat) (s : State) : State := s.setPrinter n { s.printer n with
  surplus := min 65535 ((s.printer n).surplus + ((m - old : Nat) : Int)), meter := some m }

theorem takeStatus_rose (meter : (s.printer n).meter = some old) (rose : old ≤ m) :
    takeStatus n m s = takeWalkup n (metered n m old s) := by
  unfold takeStatus
  simp only [meter]
  exact if_neg (not_lt.2 rose)

theorem takeStatus_fell (meter : (s.printer n).meter = some old) (fell : m < old) : takeStatus n m s =
    (addCondition n .meterFault s).setPrinter n { (addCondition n .meterFault s).printer n with meter := some m } := by
  unfold takeStatus
  simp only [meter]
  exact if_pos fell

theorem printingHead_eq_none (unprinting : ¬∃ h rest, (s.printer n).queue = h :: rest ∧
    (s.job h.index).state ∈ [.active, .cancelling]) : printingHead s n = none := by
  rw [Option.eq_none_iff_forall_ne_some]
  intro h head
  obtain ⟨⟨rest, queue⟩, printing⟩ := printingHead_eq_some.1 head
  exact unprinting ⟨h, rest, queue, (printing_iff _).1 printing⟩

/-- R104, step 4: no walk-up pages within the margin, or while a job prints. -/
theorem takeWalkup_none (stays : (s.printer n).surplus ≤ (s.ft.walkupMargin : Int) ∨ ∃ h rest,
    (s.printer n).queue = h :: rest ∧ (s.job h.index).state ∈ [.active, .cancelling]) : takeWalkup n s = s := by
  refine if_neg fun ⟨above, idle⟩ => ?_
  rcases stays with within | ⟨h, rest, queue, printing⟩
  · exact absurd above (not_lt.2 within)
  · have head : printingHead s n = some h := printingHead_eq_some.2 ⟨⟨rest, queue⟩, (printing_iff _).2 printing⟩
    rw [idle] at head
    cases head

/-- R104, step 4: the surplus above the margin is deducted from lane K and counted as walk-up pages. -/
theorem takeWalkup_some (above : (s.ft.walkupMargin : Int) < (s.printer n).surplus) (idle : printingHead s n = none) :
    let pages := (s.printer n).surplus.toNat
    let d := deduct n .k pages (kWeight s s.ft.walkupClass) s
    takeWalkup n s = d.setPrinter n { d.printer n with walkup := min 4294967295 ((d.printer n).walkup + pages), surplus := 0 } :=
  if_pos ⟨above, idle⟩

end

/-- R104: what the taking of walk-up pages leaves. -/
theorem walkupTaken {n : Nat} {s : State} (above : (s.ft.walkupMargin : Int) < (s.printer n).surplus)
    (idle : printingHead s n = none) :
    let pages := (s.printer n).surplus.toNat
    let t := takeWalkup n s
    (t.printer n).meter = (s.printer n).meter ∧ (t.printer n).surplus = 0 ∧
      (t.printer n).walkup = min 4294967295 ((s.printer n).walkup + pages) ∧
      (∀ x, s.lane n .k = some x → ∃ y, t.lane n .k = some y ∧
        Deducted x y pages (s.se.kWeights.getD s.ft.walkupClass 0)) ∧
      (∀ lane x, lane ≠ .k → s.lane n lane = some x →
        ∃ y, t.lane n lane = some y ∧ y.estimate = x.estimate ∧ y.fraction = x.fraction) ∧
      (∀ i, (t.account i).balance = (s.account i).balance ∧ (t.account i).used = (s.account i).used) := by
  intro pages t
  obtain ⟨printer, lane, account⟩ := deduct_background n .k pages (kWeight s s.ft.walkupClass) s
  have taken : t = _ := takeWalkup_some above idle
  set d := deduct n .k pages (kWeight s s.ft.walkupClass) s
  have own : t.printer n =
      { d.printer n with walkup := min 4294967295 ((d.printer n).walkup + pages), surplus := 0 } := by
    rw [taken]
    exact (State.printer_setPrinter ..).trans (if_pos rfl)
  obtain ⟨meter, -, walkup, -⟩ := Printer.background_meter (printer n)
  have lanes : ∀ l, t.lane n l = d.lane n l := fun l => by rw [taken]; rfl
  have figures : ∀ l y, (withDeduction n .k pages (kWeight s s.ft.walkupClass) s).lane n l = some y →
      ∃ z, t.lane n l = some z ∧ z.figures = y.figures := fun l y present => by
    have same := lane n l
    rw [present] at same
    obtain ⟨z, found, kept⟩ := Option.map_eq_some_iff.1 same
    exact ⟨z, (lanes l).trans found, kept⟩
  refine ⟨by rw [own]; exact meter, by rw [own], by rw [own]; exact congrArg (fun w => min 4294967295 (w + pages)) walkup,
    fun x present => ?_, fun l x other present => ?_, fun i => ?_⟩
  · obtain ⟨z, found, kept⟩ := figures .k (deductedLane x pages (kWeight s s.ft.walkupClass)) (by
      rw [withDeduction, State.lane_setLane, if_pos ⟨rfl, rfl⟩, present]; rfl)
    exact ⟨z, found, deducted_of_figures kept⟩
  · obtain ⟨z, found, kept⟩ := figures l x (by
      rw [withDeduction, State.lane_setLane, if_neg fun c => other c.2, present])
    obtain ⟨estimate, fraction, -⟩ := LaneRecord.figures_level kept
    exact ⟨z, found, estimate, fraction⟩
  · rw [taken]
    exact account i

/-- R104, R93: METER_FAULT is added where it is not held, and noted; meter and surplus stand. -/
theorem meterFaultAdded {n : Nat} {s : State} (new : (s.printer n).holds .meterFault = false) :
    ((addCondition n .meterFault s).printer n).holds .meterFault = true ∧
      ((addCondition n .meterFault s).printer n).surplus = (s.printer n).surplus ∧
      hasKind ((addCondition n .meterFault s).history n) .meterFault = true := by
  set u := s.setPrinter n ((s.printer n).withCondition .meterFault s.now)
  have own : u.printer n = (s.printer n).withCondition .meterFault s.now := (State.printer_setPrinter ..).trans (if_pos rfl)
  have graced : ConditionKind.meterFault ≠ .supplyOut := by decide
  obtain ⟨-, surplus, -⟩ := Printer.background_meter (addCondition_background n .meterFault s n)
  rw [addCondition_new new] at surplus ⊢
  refine ⟨?_, surplus, ?_⟩
  · rw [Printer.holds, (tellOnset_onlyQueue n u graced).conditions, own, get_withCondition, if_pos rfl]
    rfl
  · rw [(tellOnset_records n u graced).1]
    simp [hasKind, ConditionKind.only, ConditionKind.code]

/-- Settles O51: `takeWalkup_none`, `walkupTaken` and `meterFaultAdded`, by the meter and the surplus. -/
theorem statusCountsTheMeter : Obligations.StatusCountsTheMeter := by
  intro l m s _ heard fits n p printing
  have taken := exec_status heard fits
  have enrolled : p.enrolled = true := by
    have own := printer_restarted n n s
    rw [if_pos rfl] at own
    exact (congrArg Printer.enrolled own).trans heard.1.2.2.2.1
  refine ⟨fun first => ?_, fun old meter rose => ?_, fun old meter fell => ⟨fun held => ?_, fun new => ?_⟩⟩
  · rw [taken, takeStatus, show ((restarted n s).printer n).meter = none from first]
  · intro surplus
    have counted := takeStatus_rose (n := n) (s := restarted n s) meter rose
    have own : (metered n m old (restarted n s)).printer n = { p with surplus := surplus, meter := some m } :=
      (State.printer_setPrinter ..).trans (if_pos rfl)
    refine ⟨fun stays => ?_, fun above idle => ?_⟩
    · rw [taken, counted, takeWalkup_none]
      · rfl
      · rw [own]
        exact stays
    · have idle : printingHead (metered n m old (restarted n s)) n = none :=
        printingHead_eq_none (by rw [own]; exact idle)
      have left := walkupTaken (n := n) (s := metered n m old (restarted n s)) (by rw [own]; exact above) idle
      rw [own] at left
      exact ⟨_, taken.trans (congrArg Host.Outcome.next counted), left⟩
  · rw [taken, takeStatus_fell meter fell, addCondition_held held]
  · obtain ⟨held, surplus, history⟩ := meterFaultAdded (n := n) (s := restarted n s) new
    refine ⟨_, taken.trans (congrArg Host.Outcome.next (takeStatus_fell meter fell)), ?_⟩
    rw [State.printer_setPrinter, if_pos rfl]
    exact ⟨held, rfl, surplus, history⟩

end Sys2Proof.Machine

/-! SET_ADMIN (R88, R89, R146): the admin state a change leaves, and the SERVICE raise of a printer put in service. -/

namespace Sys2Proof.Machine

/-! ### A number that is not in use (R139) -/

theorem nextNumber_pos (c : Nat) : 1 ≤ nextNumber c ∧ nextNumber c ≤ 65535 := by
  rw [nextNumber_eq]
  split <;> omega

/-- The numbers 1 to 65535 come round in a circle. -/
theorem nextNumber_iterate {c : Nat} (low : 1 ≤ c) (high : c ≤ 65535) (i : Nat) :
    nextNumber^[i] c = (c - 1 + i) % 65535 + 1 := by
  induction i with
  | zero => rw [Function.iterate_zero, id]; omega
  | succ i ih =>
    rw [Function.iterate_succ_apply', ih, nextNumber_eq]
    split <;> omega

/-- The first 65535 numbers from a counter on differ. -/
theorem nextNumber_distinct {c i j : Nat} (before : i < j) (near : j < 65535) : nextNumber^[i] c ≠ nextNumber^[j] c := by
  obtain ⟨low, high⟩ := nextNumber_pos c
  have later : ∀ k, nextNumber^[k + 1] c = (nextNumber c - 1 + k) % 65535 + 1 := fun k => by
    rw [Function.iterate_succ_apply, nextNumber_iterate low high]
  obtain ⟨j, rfl⟩ : ∃ k, j = k + 1 := ⟨j - 1, by omega⟩
  cases i with
  | zero =>
    by_cases inRange : 1 ≤ c ∧ c ≤ 65535
    · rw [nextNumber_iterate inRange.1 inRange.2, nextNumber_iterate inRange.1 inRange.2]
      omega
    · rw [later, Function.iterate_zero, id]
      omega
  | succ i =>
    rw [later, later]
    omega

theorem iterates_used {used : List Nat} {fuel c : Nat} (h : freeNumber used fuel c ∈ used) :
    ∀ i, i < fuel → nextNumber^[i] c ∈ used := by
  induction fuel generalizing c with
  | zero => simp
  | succ fuel ih =>
    rw [freeNumber] at h
    split at h
    · next taken =>
      intro i hi
      cases i with
      | zero => exact taken
      | succ i => exact ih h i (by omega)
    · next free => exact absurd h free

/-- R139: more numbers are looked at than are in use, so one of them is free. -/
theorem freeNumber_free {used : List Nat} {fuel c : Nat} (enough : used.length < fuel) (short : fuel ≤ 65535) :
    freeNumber used fuel c ∉ used := by
  intro taken
  have distinct : ((List.range fuel).map (fun i => nextNumber^[i] c)).Nodup := by
    refine List.Nodup.map_on (fun i hi j hj same => ?_) List.nodup_range
    rw [List.mem_range] at hi hj
    by_contra apart
    rcases Nat.lt_or_gt_of_ne apart with lt | gt
    · exact nextNumber_distinct lt (by omega) same
    · exact nextNumber_distinct gt (by omega) same.symm
  have within : (List.range fuel).map (fun i => nextNumber^[i] c) ⊆ used := by
    intro x hx
    obtain ⟨i, hi, rfl⟩ := List.mem_map.1 hx
    exact iterates_used taken i (List.mem_range.1 hi)
  have few := (List.subperm_of_subset distinct within).length_le
  rw [List.length_map, List.length_range] at few
  omega

theorem freeNumber_counter {used : List Nat} {fuel c : Nat} (free : c ∉ used) : freeNumber used (fuel + 1) c = c :=
  if_neg free

/-! ### The admin state through a promotion check (R89, R95) -/

/-- Moves of a promotion check, after which the admin state stands, or the draining test has ended with an empty queue. -/
structure Drains (n : Nat) (s t : State) : Prop where
  moves : FleetMoves s t
  admin : (t.printer n).admin = (s.printer n).admin ∨ ((s.printer n).admin = .draining ∧ (t.printer n).queue = [])

section
variable {n : Nat} {s t u : State}

theorem Drains.of_admin (moves : FleetMoves s t) (admin : (t.printer n).admin = (s.printer n).admin) : Drains n s t :=
  ⟨moves, .inl admin⟩

theorem Drains.refl (s : State) : Drains n s s := .of_admin .refl rfl

theorem Drains.trans (h : Drains n s t) (h' : Drains n t u) : Drains n s u where
  moves := h.moves.trans h'.moves
  admin := by
    rcases h.admin with kept | ⟨draining, empty⟩
    · rw [← kept]
      exact h'.admin
    · refine .inr ⟨draining, List.eq_nil_iff_forall_not_mem.2 fun k hk => ?_⟩
      have member := h'.moves.queue n hk
      rw [empty] at member
      cases member

theorem requeueJob_admin (n : Nat) (k : Handle) (s : State) (m : Nat) :
    ((requeueJob n k s).printer m).admin = (s.printer m).admin := by
  obtain ⟨-, -, -, -, -, printer, -⟩ := outOfQueue_frame n k (s.job k.index) (returnReservation (s.job k.index) s)
  have ft := (returnReservation_adjusted (s.job k.index) s).ft
  rw [requeueJob_eq, printer_congr (returnToHeld_frame _ _).1, printer]
  split
  · next own => rw [printer_congr ft, own]
  · rw [printer_congr ft]

theorem requeueJobs_admin (n : Nat) (which : Job → Bool) (s : State) (m : Nat) :
    ((requeueJobs n which s).printer m).admin = (s.printer m).admin := by
  refine foldl_keeps (requeueStep n which) (fun a b => (b.printer m).admin = (a.printer m).admin) (fun _ => rfl)
    (fun _ _ _ h h' => h'.trans h) (fun a k => ?_) _ s
  unfold requeueStep
  split
  · exact requeueJob_admin n k a m
  · rfl

theorem drainingTest_drains (n : Nat) (s : State) : Drains n s (drainingTest n s) where
  moves := drainingTest_moves n s
  admin := by
    unfold drainingTest
    dsimp only
    split
    · next c =>
      refine .inr ⟨c.1, ?_⟩
      rw [printer_congr (raise_frame _ _ _).2.2.2.1, State.printer_setPrinter, if_pos rfl]
      exact c.2
    · exact .inl rfl

theorem raise_drains (p : PortName) (k : NoticeKind) (s : State) : Drains n s (raise p k s) :=
  .of_admin (FleetMove.raise p k s).once (by rw [printer_congr (raise_frame _ _ _).2.2.2.1])

theorem announceCallout_drains (n : Nat) (k : CalloutKind) (s : State) : Drains n s (announceCallout n k s) := by
  cases k with
  | service =>
    refine (raise_drains .f .callout s).trans (.trans (t := requeueJobs n (fun _ => true) (raise .f .callout s)) ?_
      (drainingTest_drains n _))
    exact .of_admin (requeueJobs_moves n _ _) (requeueJobs_admin n _ _ n)
  | supply => exact raise_drains .f .callout s

theorem callouts_drains (c : CalloutUnit) (s : State) : Drains n s { s with cu := c } :=
  .of_admin (FleetMove.callouts c s).once rfl

theorem raiseItems_drains (n : Nat) (k : CalloutKind) (items : List CalloutItem) (s : State) :
    Drains n s (raiseItems n k items s) := by
  unfold raiseItems
  split
  · dsimp only
    split
    · exact .refl s
    · exact (callouts_drains _ s).trans (announceCallout_drains n k _)
  · split
    · exact .refl s
    · split
      · exact (callouts_drains _ s).trans (announceCallout_drains n k _)
      · unfold deferRaise
        split <;> exact callouts_drains _ s

theorem serviceRaise_drains (n : Nat) (kinds : List ConditionKind) (s : State) : Drains n s (serviceRaise n kinds s) := by
  unfold serviceRaise
  split
  · exact .refl s
  · exact raiseItems_drains n _ _ s

theorem tellOnset_drains (n : Nat) (k : ConditionKind) (s : State) : Drains n s (tellOnset n k s) := by
  have noted : Drains n s (s.setHistory n (s.history n ||| k.only)) := callouts_drains _ s
  unfold tellOnset
  dsimp only
  split
  · exact noted
  · split
    · exact noted.trans (callouts_drains _ _)
    · exact noted.trans ((callouts_drains _ _).trans (serviceRaise_drains n _ _))

/-- A record replaced by one of the same queue and admin state. -/
theorem setPrinter_drains {p : Printer} (queue : p.queue = (s.printer n).queue) (admin : p.admin = (s.printer n).admin) :
    Drains n s (s.setPrinter n p) :=
  .of_admin (FleetMove.printer queue).once (by rw [State.printer_setPrinter, if_pos rfl, admin])

theorem addCondition_drains (n : Nat) (k : ConditionKind) (s : State) : Drains n s (addCondition n k s) := by
  cases held : (s.printer n).holds k with
  | true => rw [addCondition_held held]; exact .refl s
  | false =>
    rw [addCondition_new held]
    exact (setPrinter_drains (by rfl) (by rfl)).trans (tellOnset_drains n k _)

theorem issue_drains (n : Nat) (c : Command) (s : State) : Drains n s (issue n c s) := by
  have told : ∀ (u : State) (q : List Command), Drains n u (u.setCommands n q) := fun u q =>
    .of_admin (FleetMove.commands n q u).once rfl
  by_cases room : (s.commands n).length < 8
  · rw [issue_room room]
    exact told s _
  · rw [issue_full (not_lt.1 room)]
    exact (setPrinter_drains (by rfl) (by rfl)).trans ((addCondition_drains n .unreachable _).trans (told _ []))

/-- A job that prints keeps its entry and its place at the head of the queue. -/
theorem FleetMove.printingHead (h : FleetMove s t) {k : Handle} (head : printingHead s n = some k) :
    printingHead t n = some k ∧ t.job k.index = s.job k.index := by
  obtain ⟨⟨rest, queue⟩, printing⟩ := printingHead_eq_some.1 head
  have other : ∀ {i}, (s.job i).state = .queued → k.index ≠ i := by
    rintro i queued rfl
    rw [queued] at printing
    cases printing
  suffices kept : (∃ rest', (t.printer n).queue = k :: rest') ∧ t.job k.index = s.job k.index from
    ⟨printingHead_eq_some.2 ⟨kept.1, by rw [kept.2]; exact printing⟩, kept.2⟩
  cases h with
  | raise p k' =>
    rw [printer_congr (raise_frame _ _ _).2.2.2.1, job_congr (raise_frame _ _ _).2.1]
    exact ⟨⟨rest, queue⟩, rfl⟩
  | @printer m p _ same =>
    refine ⟨⟨rest, ?_⟩, rfl⟩
    rw [State.printer_setPrinter]
    split
    · next own => rw [same, ← own, queue]
    · exact queue
  | callouts c => exact ⟨⟨rest, queue⟩, rfl⟩
  | commands a q => exact ⟨⟨rest, queue⟩, rfl⟩
  | active queued => exact ⟨⟨rest, queue⟩, (State.job_setJob ..).trans (if_neg (other queued))⟩
  | @sendBack m k' _ queued =>
    obtain ⟨still, -⟩ := requeueJob_still (n := m) queued
    refine ⟨?_, still.jobs k.index fun waits => other waits rfl⟩
    obtain ⟨-, -, -, -, -, printer, -⟩ := outOfQueue_frame m k' (s.job k'.index) (returnReservation (s.job k'.index) s)
    have ft := (returnReservation_adjusted (s.job k'.index) s).ft
    rw [requeueJob_eq, printer_congr (returnToHeld_frame _ _).1, printer, printer_congr ft, printer_congr ft]
    split
    · next own =>
      have kept : k ≠ k' := fun same => other queued (by rw [same])
      have stays : (k :: rest).filter (· ≠ k') = k :: rest.filter (· ≠ k') :=
        List.filter_cons_of_pos (by simpa using kept)
      exact ⟨rest.filter (· ≠ k'), by rw [← own, queue]; exact stays⟩
    · exact ⟨rest, queue⟩

theorem FleetMoves.printingHead (h : FleetMoves s t) {k : Handle} (head : printingHead s n = some k) :
    printingHead t n = some k ∧ t.job k.index = s.job k.index := by
  induction h with
  | refl => exact ⟨head, rfl⟩
  | tail _ last ih =>
    obtain ⟨kept, same⟩ := ih
    obtain ⟨kept', same'⟩ := last.printingHead kept
    exact ⟨kept', same'.trans same⟩

/-- While a job prints, the draining test does not end. -/
theorem Drains.admin_of_printing (h : Drains n s t) {k : Handle} (head : printingHead s n = some k) :
    (t.printer n).admin = (s.printer n).admin := by
  obtain ⟨⟨rest, queue⟩, -⟩ := printingHead_eq_some.1 (h.moves.printingHead head).1
  refine h.admin.resolve_right fun ⟨_, empty⟩ => ?_
  rw [queue] at empty
  cases empty

/-- R95: the head made ACTIVE, the stall count running. -/
def headActive (n : Nat) (k : Handle) (s : State) : State :=
  (s.setJob k.index { s.job k.index with state := .active }).setPrinter n
    { s.printer n with stall := some (s.printer n).stallLimit }

theorem promote_drains (n : Nat) (k : Handle) (s : State) : Drains n (headActive n k s) (promote n k s) :=
  (issue_drains n _ (headActive n k s)).trans (raise_drains _ _ _)

theorem printingHead_headActive {k : Handle} {rest : List Handle} (queue : (s.printer n).queue = k :: rest) :
    printingHead (headActive n k s) n = some k := by
  have active : ((headActive n k s).job k.index).state = .active :=
    congrArg Job.state ((State.job_setJob ..).trans (if_pos rfl))
  refine printingHead_eq_some.2 ⟨⟨rest, ?_⟩, by rw [active]; rfl⟩
  rw [headActive, State.printer_setPrinter, if_pos rfl]
  exact queue

/-- R95: the promotion check leaves the admin state, and some job in the queue where there was one: a job it promotes prints
before a full command queue is emptied. -/
theorem promotionCheck_keeps (n : Nat) (s : State) : ((promotionCheck n s).printer n).admin = (s.printer n).admin ∧
    ((s.printer n).queue ≠ [] → ((promotionCheck n s).printer n).queue ≠ []) := by
  unfold promotionCheck
  split
  · exact ⟨rfl, id⟩
  · next k rest queue =>
    split
    · have head := printingHead_headActive queue
      have drains := promote_drains n k s
      refine ⟨(drains.admin_of_printing head).trans ?_, fun _ empty => ?_⟩
      · rw [headActive, State.printer_setPrinter, if_pos rfl]
      · obtain ⟨⟨rest', stays⟩, -⟩ := printingHead_eq_some.1 (drains.moves.printingHead head).1
        rw [empty] at stays
        cases stays
    · exact ⟨rfl, id⟩

end

/-! ### The change of admin state (R88, R146) -/

section
variable {n : Nat} {target : AdminState} {s : State}

/-- R88: the printer's record with the admin state asked for. -/
def administered (n : Nat) (target : AdminState) (s : State) : State := s.setPrinter n { s.printer n with admin := target }

/-- R146: what the Callout Unit is told of the change. -/
def adminTold (n : Nat) (target : AdminState) (s : State) : State :=
  if (s.printer n).admin = .outOfService ∧ target = .inService
    then serviceRaise n (spentKinds s n) (administered n target s) else administered n target s

theorem changeAdmin_eq : changeAdmin n target s = drainingTest n (promotionCheck n (adminTold n target s)) := rfl

theorem printer_administered : (administered n target s).printer n = { s.printer n with admin := target } :=
  (State.printer_setPrinter ..).trans (if_pos rfl)

theorem adminTold_drains : Drains n (administered n target s) (adminTold n target s) := by
  unfold adminTold
  split
  · exact serviceRaise_drains n _ _
  · exact .refl _

theorem changeAdmin_moves : FleetMoves s (changeAdmin n target s) := by
  have administering : FleetMoves s (administered n target s) := FleetMove.once (.printer (by rfl))
  exact administering.trans (adminTold_drains.moves.trans (afterEnd_moves n _))

theorem adminTold_idle (other : ¬((s.printer n).admin = .outOfService ∧ target = .inService)) :
    adminTold n target s = administered n target s := if_neg other

theorem drainingTest_other (other : (s.printer n).admin ≠ .draining) : drainingTest n s = s :=
  if_neg fun c => other c.1

/-- R89: the draining test of an empty queue raises FLEET. -/
theorem fleet_drainingTest (draining : (s.printer n).admin = .draining) (empty : (s.printer n).queue = []) :
    hasNotice ((drainingTest n s).port .f).flags .fleet = true := by
  have ends : drainingTest n s = raise .f .fleet (s.setPrinter n { s.printer n with admin := .outOfService }) :=
    if_pos ⟨draining, empty⟩
  rw [ends]
  exact hasNotice_raise _ _ _

theorem drainingTest_waits (waits : (s.printer n).queue ≠ []) : drainingTest n s = s := if_neg fun c => waits c.2

theorem promotionCheck_empty (empty : (s.printer n).queue = []) : promotionCheck n s = s := by
  rw [promotionCheck, empty]

/-- R88, R89: the admin state asked for, or OUT_OF_SERVICE where DRAINING finds the queue empty. -/
theorem admin_changeAdmin : ((changeAdmin n target s).printer n).admin =
    if target = .draining ∧ (s.printer n).queue = [] then .outOfService else target := by
  have own : (administered n target s).printer n = { s.printer n with admin := target } := printer_administered
  rw [changeAdmin_eq]
  by_cases draining : target = .draining
  · have plain : adminTold n target s = administered n target s :=
      adminTold_idle fun ⟨_, service⟩ => by rw [draining] at service; cases service
    obtain ⟨admin, stays⟩ := promotionCheck_keeps n (administered n target s)
    rw [own] at admin stays
    rw [plain]
    by_cases empty : (s.printer n).queue = []
    · have empty' : ((administered n target s).printer n).queue = [] := by rw [own]; exact empty
      rw [promotionCheck_empty empty', printer_drainingTest_empty empty', own]
      dsimp only
      rw [if_pos draining, if_pos (And.intro draining empty)]
    · rw [drainingTest_waits (stays empty), admin, if_neg fun c => empty c.2]
  · have told : ((adminTold n target s).printer n).admin = target := by
      have kept := (adminTold_drains (n := n) (target := target) (s := s)).admin
      rw [own] at kept
      exact kept.resolve_right fun c => draining c.1
    have admin := (promotionCheck_keeps n (adminTold n target s)).1.trans told
    rw [drainingTest_other (by rw [admin]; exact draining), admin, if_neg fun c => draining c.1]

theorem fleet_changeAdmin (draining : target = .draining) (empty : (s.printer n).queue = []) :
    hasNotice ((changeAdmin n target s).port .f).flags .fleet = true := by
  have own : (administered n target s).printer n = { s.printer n with admin := target } := printer_administered
  have plain : adminTold n target s = administered n target s :=
    adminTold_idle fun ⟨_, service⟩ => by rw [draining] at service; cases service
  have empty' : ((administered n target s).printer n).queue = [] := by rw [own]; exact empty
  rw [changeAdmin_eq, plain, promotionCheck_empty empty']
  exact fleet_drainingTest (by rw [own]; exact draining) empty'

/-- R146: a raise of no kinds changes nothing. -/
theorem serviceRaise_nil (n : Nat) (s : State) : serviceRaise n [] s = s := by
  unfold serviceRaise
  split
  · rfl
  · unfold raiseItems
    split <;> simp

/-- R139, R145: a callout is made with a number from the counter on, RAISED now. -/
theorem makeCallout_entry (n : Nat) (k : CalloutKind) (items : List CalloutItem) (s : State) :
    (makeCallout n k items s).cu.callouts = s.cu.callouts ++
      [⟨freeNumber (s.cu.callouts.map Callout.number) 33 s.cu.calloutCounter, n, k, items, 1, false, s.now, deadlineNow s⟩] := by
  rw [makeCallout, (announceCallout_frame _ _ _).2.1]
  rfl

/-- R146: a printer put in service with an empty queue: nothing is promoted or drained, and the raise alone has been made. -/
theorem changeAdmin_service (out : (s.printer n).admin = .outOfService) (empty : (s.printer n).queue = []) :
    changeAdmin n .inService s = serviceRaise n (spentKinds s n) (administered n .inService s) := by
  have told : adminTold n .inService s = serviceRaise n (spentKinds s n) (administered n .inService s) := if_pos ⟨out, rfl⟩
  have own : (administered n .inService s).printer n = { s.printer n with admin := .inService } := printer_administered
  have drains := adminTold_drains (n := n) (target := .inService) (s := s)
  have empty' : ((adminTold n .inService s).printer n).queue = [] := by
    have fewer := drains.moves.queue n
    rw [own] at fewer
    exact List.eq_nil_iff_forall_not_mem.2 fun k hk => by
      have member := fewer hk
      rw [show ({ s.printer n with admin := AdminState.inService } : Printer).queue = [] from empty] at member
      cases member
  have admin : ((adminTold n .inService s).printer n).admin ≠ .draining := by
    rcases drains.admin with kept | ⟨draining, -⟩
    · rw [kept, own]
      exact nofun
    · rw [own] at draining
      cases draining
  rw [changeAdmin_eq, promotionCheck_empty empty', drainingTest_other admin, told]

end

/-! ### SET_ADMIN (R88) -/

section
variable {h : Head} {n : Nat} {target : AdminState} {s : State} (rd : Ready h (.setAdmin n target) s) (hn : n < 64)
  (enrolled : (s.printer n).enrolled = true)
include rd hn enrolled

theorem exec_setAdmin_same (same : (s.printer n).admin = target) :
    exec (.setAdmin h n target) s = .next (answered h (.setAdmin n target) (.accepted (.admin target)) s) := by
  refine request_answers h _ _ s _ rd ?_
  rw [onPrinter_enrolled hn rfl (by exact enrolled), if_pos (by exact same)]
  rfl

theorem exec_setAdmin_refused (other : (s.printer n).admin ≠ target) (out : target = .outOfService)
    (waits : (s.printer n).queue ≠ []) :
    exec (.setAdmin h n target) s = .next (answered h (.setAdmin n target) (.refused .badState) s) := by
  refine request_answers h _ _ s _ rd ?_
  rw [onPrinter_enrolled hn rfl (by exact enrolled), if_neg (by exact other), if_pos ⟨out, by exact waits⟩]
  rfl

theorem exec_setAdmin_changes (other : (s.printer n).admin ≠ target)
    (allowed : target = .outOfService → (s.printer n).queue = []) :
    let t := changeAdmin n target (atOwner h (.setAdmin n target) s)
    exec (.setAdmin h n target) s = .next (issueAnswer h (.setAdmin n target) (.accepted (.admin (t.printer n).admin)) t) := by
  intro t
  refine (request_ready h _ _ s rd).trans ?_
  rw [onPrinter_enrolled hn rfl (by exact enrolled), if_neg (by exact other), if_neg fun c => c.2 (allowed c.1)]
  rfl

end

/-- R146: the Callout Unit after a printer with an empty queue is put in service. -/
theorem serviceTold {n : Nat} {s : State} (out : (s.printer n).admin = .outOfService) (empty : (s.printer n).queue = []) :
    let t := changeAdmin n .inService s
    let spent := spentKinds s n
    (spent = [] → t.cu = s.cu) ∧ (∀ k ∈ spent, InService t n k) ∧
      (spent ≠ [] → (∀ c ∈ s.cu.callouts, c.key ≠ (n, .service)) → s.cu.callouts.length < 32 →
        hasNotice (t.port .f).flags .callout = true ∧
        ∃ number, number ∉ s.cu.callouts.map Callout.number ∧
          (s.cu.calloutCounter ∉ s.cu.callouts.map Callout.number → number = s.cu.calloutCounter) ∧
          t.cu.callouts = s.cu.callouts ++ [⟨number, n, .service, spent.map .condition, 1, false, s.now,
            s.now.map (fun u => minutesAfter u s.cu.escalation)⟩]) := by
  intro t spent
  set u := administered n .inService s
  have own : u.printer n = { s.printer n with admin := .inService } := printer_administered
  have inUse : (u.printer n).admin ≠ .outOfService := by rw [own]; exact nofun
  have raised : t = serviceRaise n spent u := changeAdmin_service out empty
  refine ⟨fun none => ?_, fun k hk => ?_, fun some absent room => ?_⟩
  · rw [raised, none, serviceRaise_nil]
    rfl
  · rw [raised, serviceRaise, if_neg inUse]
    exact mem_raiseItems n .service _ u (List.mem_map_of_mem hk)
  · have made := serviceRaise_makes (s := u) some inUse (by exact absent) (by exact room)
    rw [raised, made]
    refine ⟨(makeService_told _ u).1, _, freeNumber_free (fuel := 33) (c := s.cu.calloutCounter) ?_ (by omega),
      freeNumber_counter, makeCallout_entry n .service _ u⟩
    rw [List.length_map]
    omega

/-- Settles O36: `admin_changeAdmin` gives the admin state, `serviceTold` the raise, `changeAdmin_moves` what stands. -/
theorem setAdminMovesThePrinter : Obligations.SetAdminMovesThePrinter := by
  intro h n target s _ rd hn enrolled
  refine ⟨exec_setAdmin_same rd hn enrolled, exec_setAdmin_refused rd hn enrolled, fun other allowed => ?_⟩
  set s₀ := atOwner h (.setAdmin n target) s
  have moves : FleetMoves s₀ (changeAdmin n target s₀) := changeAdmin_moves
  refine ⟨_, exec_setAdmin_changes rd hn enrolled other allowed, admin_changeAdmin, rfl, fun draining empty => ?_, fun m => ?_,
    .answered _ moves.apart, fun laws out service => ?_, fun idle room => ?_⟩
  · rw [issueAnswer_flags]
    exact fleet_changeAdmin draining empty
  · exact session_congr moves.ru m
  · subst service
    obtain ⟨-, -, ⟨-, -, -, -, queue, -⟩, -⟩ := laws
    obtain ⟨unspent, listed, made⟩ := serviceTold (s := s₀) out (queue n out)
    refine ⟨unspent, listed, fun some absent room => ?_⟩
    rw [issueAnswer_flags]
    exact made some absent room
  · rw [show (issueAnswer h (.setAdmin n target) _ (changeAdmin n target s₀)).cu = (changeAdmin n target s₀).cu from rfl,
      changeAdmin_eq, (drainingTest_frame _ _).2.2.2.2.2.1, adminTold_idle (s := s₀) idle]
    obtain ⟨-, -, -, -, cu, -⟩ := promotionCheck_room (n := n) (s := administered n target s₀) room
    exact cu

end Sys2Proof.Machine

/-! What a job's end charges and deducts (R21, R22, R98, R111, R115, R116): where every lane's state fits its figures, a
deduction makes a lane's state worse or leaves it, and so sends no job back and gives no claim back. -/

namespace Sys2Proof.Machine

/-! ### The charge (R21, R22) -/

section
variable (i : Nat) (c : PageClass) (actual reservation : Nat) (s : State)

theorem account_charge (m : Nat) : (charge i c actual reservation s).account m =
    if m = i then chargedAccount (s.account i) c actual reservation else s.account m := by
  have charged : ∀ m, (withOwner i (fun t => chargedTenant t c actual reservation)
      (s.setAccount i (chargedAccount (s.account i) c actual reservation))).account m =
      if m = i then chargedAccount (s.account i) c actual reservation else s.account m := fun m => by
    rw [account_withOwner, State.account_setAccount]
  unfold charge
  dsimp only
  split
  · split
    · rw [account_congr (raiseTenant_frame _ _ _).1, charged]
    · exact charged m
  · exact charged m

end

theorem overruns_iff (a : Account) (c : PageClass) (actual : Nat) : overruns a c actual = true ↔
    0 < actual ∧ a.balance.get c - (actual : Int) < -((a.overdraft.get c : Nat) : Int) := by
  simp [overruns]

/-- R21, R22: the record of the account charged, and no other. -/
theorem chargeBoth_charged (i : Nat) (actual reservation : PerClass Nat) (s : State) :
    ChargedTo (s.account i) ((chargeBoth i actual reservation s).account i) actual reservation ∧
      ∀ m, m ≠ i → (chargeBoth i actual reservation s).account m = s.account m := by
  have first := account_charge i .mono actual.mono reservation.mono s
  have second := account_charge i .colour actual.colour reservation.colour (charge i .mono actual.mono reservation.mono s)
  refine ⟨?_, fun m other => ?_⟩
  · rw [chargeBoth, second, if_pos rfl, first, if_pos rfl]
    refine ⟨?_, fun c => ?_⟩
    · simp only [chargedAccount, Bool.or_eq_true, overruns_iff, PageClass.exists_iff]
      simp [PerClass.get, PerClass.set, bump, or_assoc]
    · cases c <;> simp [chargedAccount, PerClass.get, PerClass.set, bump, clamp, Config.balanceMin,
        Config.balanceMax, Config.usedMax]
  · rw [chargeBoth, second, if_neg other, first, if_neg other]

/-! ### A lane's state after a deduction (R110, R115) -/

theorem stateFits_iff (y : LaneRecord) (ty : CartridgeType) : StateFits y ty ↔ y.state = laneState y ty := Iff.rfl

/-- The states of a lane from OK to EMPTY. -/
def LaneState.severity : LaneState → Nat
  | .ok => 0
  | .low => 1
  | .critical => 2
  | .empty => 3

/-- R109, R110: a lower estimate gives a lane no better state. -/
theorem laneState_worsens {x y : LaneRecord} {ty : CartridgeType} (flag : y.emptyFlag = x.emptyFlag)
    (confirmed : y.confirmed = x.confirmed) (lower : y.estimate ≤ x.estimate) :
    (laneState x ty).severity ≤ (laneState y ty).severity := by
  have level : effectiveLevel y ty.capacity ≤ effectiveLevel x ty.capacity := by
    unfold effectiveLevel
    rw [confirmed]
    split
    · exact lower
    · exact min_le_min_right _ lower
  have percent : percentOf (effectiveLevel y ty.capacity) ty.capacity ≤ percentOf (effectiveLevel x ty.capacity) ty.capacity :=
    Nat.div_le_div_right (Nat.mul_le_mul_right 100 level)
  unfold laneState
  dsimp only
  rw [flag]
  cases x.emptyFlag with
  | true => exact le_refl _
  | false =>
    simp only [Bool.false_eq_true, false_or]
    split_ifs <;> simp only [LaneState.severity] <;> omega

theorem deductedLane_lower (x : LaneRecord) (pages weight : Nat) : (deductedLane x pages weight).emptyFlag = x.emptyFlag ∧
    (deductedLane x pages weight).confirmed = x.confirmed ∧ (deductedLane x pages weight).estimate ≤ x.estimate ∧
    (deductedLane x pages weight).type = x.type ∧ (deductedLane x pages weight).state = x.state := by
  unfold deductedLane
  split
  · exact ⟨rfl, rfl, le_refl _, rfl, rfl⟩
  · exact ⟨rfl, rfl, Nat.sub_le _ _, rfl, rfl⟩

/-! ### What a deduction leaves -/

/-- Every type's capacity and percentages stand. -/
def SettingsKept (s t : State) : Prop := ∀ u, (t.ctype u).capacity = (s.ctype u).capacity ∧
  (t.ctype u).critical = (s.ctype u).critical ∧ (t.ctype u).reorder = (s.ctype u).reorder

theorem SettingsKept.trans {s t u : State} (h : SettingsKept s t) (h' : SettingsKept t u) : SettingsKept s u := fun x => by
  obtain ⟨a1, a2, a3⟩ := h x
  obtain ⟨b1, b2, b3⟩ := h' x
  exact ⟨b1.trans a1, b2.trans a2, b3.trans a3⟩

theorem SettingsKept.of_su {s t : State} (h : t.su = s.su) : SettingsKept s t := fun x => by
  rw [ctype_congr h]
  exact ⟨rfl, rfl, rfl⟩

theorem SettingsKept.refl (s : State) : SettingsKept s s := .of_su rfl

theorem SettingsKept.laneState {s t : State} (h : SettingsKept s t) (x : LaneRecord) (u : Nat) :
    laneState x (t.ctype u) = laneState x (s.ctype u) := by
  obtain ⟨capacity, critical, reorder⟩ := h u
  unfold Machine.laneState
  rw [capacity, critical, reorder]

theorem setType_settingsKept {s : State} {u : Nat} {r : CartridgeType} (capacity : r.capacity = (s.ctype u).capacity)
    (critical : r.critical = (s.ctype u).critical) (reorder : r.reorder = (s.ctype u).reorder) :
    SettingsKept s (s.setType u r) := fun x => by
  rw [State.ctype_setType]
  split
  · next own => rw [own]; exact ⟨capacity, critical, reorder⟩
  · exact ⟨rfl, rfl, rfl⟩

theorem trigger_settingsKept (u : Nat) (s : State) : SettingsKept s (trigger u s) := by
  unfold trigger
  dsimp only
  split
  · split
    · unfold raiseOrder
      refine SettingsKept.trans ?_ (.of_su (raise_frame _ _ _).2.2.2.2.2.1)
      exact setType_settingsKept (s := { s with su := { s.su with
        orders := _, orderCounter := _ } }) rfl rfl rfl
    · split <;> exact .refl s
  · split <;> exact .refl s

/-- A promotion check at the printer finds no QUEUED head, or room for the command it may issue. -/
def Steady (n : Nat) (s : State) : Prop :=
  (s.commands n).length < 8 ∨ ∀ k rest, (s.printer n).queue = k :: rest → (s.job k.index).state ≠ .queued

/-- Beside lanes, types and callouts, at most the printer's conditions have changed, and its head may have been promoted where
no job was printing. -/
structure Deducting (n : Nat) (s t : State) : Prop where
  au : t.au = s.au
  ru : t.ru = s.ru
  tb : t.tb = s.tb
  kWeights : t.se.kWeights = s.se.kWeights
  colourWeights : t.se.colourWeights = s.se.colourWeights
  types : SettingsKept s t
  others : ∀ m, m ≠ n → t.printer m = s.printer m
  own : ∃ c o st, t.printer n = { s.printer n with conditions := c, supplyOut := o, stall := st }
  quiet : (printingHead s n).isSome = true → t.jt = s.jt ∧ t.flc = s.flc ∧ (t.printer n).stall = (s.printer n).stall
  steady : Steady n s → Steady n t

section
variable {n : Nat} {s t u : State}

theorem Deducting.queue (h : Deducting n s t) : (t.printer n).queue = (s.printer n).queue := by
  obtain ⟨c, o, st, own⟩ := h.own
  rw [own]

theorem printingHead_congr (queue : (t.printer n).queue = (s.printer n).queue) (jt : t.jt = s.jt) :
    printingHead t n = printingHead s n := by
  unfold printingHead
  rw [queue]
  split
  · rfl
  · rw [job_congr jt]

theorem Deducting.trans (h : Deducting n s t) (h' : Deducting n t u) : Deducting n s u where
  au := h'.au.trans h.au
  ru := h'.ru.trans h.ru
  tb := h'.tb.trans h.tb
  kWeights := h'.kWeights.trans h.kWeights
  colourWeights := h'.colourWeights.trans h.colourWeights
  types := h.types.trans h'.types
  others m hm := (h'.others m hm).trans (h.others m hm)
  own := by
    obtain ⟨_, _, _, first⟩ := h.own
    obtain ⟨c, o, st, second⟩ := h'.own
    exact ⟨c, o, st, by rw [second, first]⟩
  quiet printing := by
    obtain ⟨jt, flc, stall⟩ := h.quiet printing
    obtain ⟨jt', flc', stall'⟩ := h'.quiet (by rw [printingHead_congr h.queue jt]; exact printing)
    exact ⟨jt'.trans jt, flc'.trans flc, stall'.trans stall⟩
  steady := h'.steady ∘ h.steady

theorem steady_congr (queue : (t.printer n).queue = (s.printer n).queue) (jt : t.jt = s.jt) (flc : t.flc = s.flc) :
    Steady n s → Steady n t := by
  unfold Steady
  rw [queue, commands_congr flc]
  exact Or.imp_right fun unqueued k rest head => by rw [job_congr jt]; exact unqueued k rest head

/-- Operations on lanes' records, types, callouts and flags. -/
theorem Deducting.of_groups (au : t.au = s.au) (jt : t.jt = s.jt) (ru : t.ru = s.ru) (flc : t.flc = s.flc) (tb : t.tb = s.tb)
    (kWeights : t.se.kWeights = s.se.kWeights) (colourWeights : t.se.colourWeights = s.se.colourWeights)
    (types : SettingsKept s t)
    (others : ∀ m, m ≠ n → t.printer m = s.printer m)
    (own : ∃ c o, t.printer n = { s.printer n with conditions := c, supplyOut := o }) : Deducting n s t := by
  obtain ⟨c, o, own⟩ := own
  have queue : (t.printer n).queue = (s.printer n).queue := by rw [own]
  exact ⟨au, ru, tb, kWeights, colourWeights, types, others, ⟨c, o, _, own⟩, fun _ => ⟨jt, flc, by rw [own]⟩,
    steady_congr queue jt flc⟩

theorem Deducting.of_ft (au : t.au = s.au) (jt : t.jt = s.jt) (ru : t.ru = s.ru) (ft : t.ft = s.ft) (se : t.se = s.se)
    (su : t.su = s.su) (flc : t.flc = s.flc) (tb : t.tb = s.tb) : Deducting n s t :=
  .of_groups au jt ru flc tb (by rw [se]) (by rw [se]) (.of_su su)
    (fun m _ => printer_congr ft m) ⟨_, _, printer_congr ft n⟩

theorem Deducting.refl (s : State) : Deducting n s s := .of_ft rfl rfl rfl rfl rfl rfl rfl rfl

/-- R95: a promotion check that finds the queue steady leaves it steady. -/
theorem promotionCheck_deducting (steady : Steady n s) : Deducting n s (promotionCheck n s) := by
  cases queue : (s.printer n).queue with
  | nil => rw [promotionCheck_empty queue]; exact .refl s
  | cons k rest =>
    by_cases may : mayPromote s n k = true
    · have queued : (s.job k.index).state = .queued := by
        by_contra other
        rw [mayPromote_of_state other] at may
        cases may
      have room : (s.commands n).length < 8 := steady.resolve_right fun unqueued => unqueued k rest queue queued
      rw [promotionCheck_cons queue room, if_pos may]
      obtain ⟨au, ru, se, su, cu, tb⟩ := promoted_frame n k s
      refine ⟨au, ru, tb, by rw [se], by rw [se], .of_su su,
        fun m other => (printer_promoted n k s m).trans (if_neg other),
        ⟨_, _, _, (printer_promoted n k s n).trans (if_pos rfl)⟩, fun printing => ?_, fun _ => .inr fun k' rest' head => ?_⟩
      · obtain ⟨k', head⟩ := Option.isSome_iff_exists.1 printing
        obtain ⟨⟨rest', queue'⟩, prints⟩ := printingHead_eq_some.1 head
        rw [queue, List.cons.injEq] at queue'
        rw [← queue'.1, queued] at prints
        cases prints
      · rw [queue_promoted, queue, List.cons.injEq] at head
        rw [job_promoted, if_pos (by rw [head.1])]
        exact nofun
    · have stays : promotionCheck n s = s := by
        rw [promotionCheck, queue]
        exact if_neg may
      rw [stays]
      exact .refl s

/-- A job that prints stays, so no command is issued. -/
theorem steady_of_printing {k : Handle} (head : printingHead s n = some k) : Steady n s := by
  obtain ⟨⟨rest, queue⟩, printing⟩ := printingHead_eq_some.1 head
  refine .inr fun k' rest' queue' => ?_
  rw [queue, List.cons.injEq] at queue'
  rw [← queue'.1]
  exact printing_ne_queued printing

/-! ### The effects of a lane's worse state (R111) -/

theorem setPrinter_deducting (c : Table (Option Onset)) (o : LaneSet) (s : State) :
    Deducting n s (s.setPrinter n { s.printer n with conditions := c, supplyOut := o }) :=
  .of_groups rfl rfl rfl rfl rfl rfl rfl (.of_su rfl)
    (fun _ other => (State.printer_setPrinter ..).trans (if_neg other))
    ⟨c, o, (State.printer_setPrinter ..).trans (if_pos rfl)⟩

/-- R93: SUPPLY_OUT is added without a word to the Callout Unit. -/
theorem addSupplyOut_deducting (s : State) : Deducting n s (addCondition n .supplyOut s) := by
  cases held : (s.printer n).holds .supplyOut with
  | true => rw [addCondition_held held]; exact .refl s
  | false =>
    rw [addCondition_new held, tellOnset, if_pos rfl]
    refine (setPrinter_deducting (n := n) ((s.printer n).withCondition .supplyOut s.now).conditions
      (s.printer n).supplyOut s).trans ?_
    exact .of_ft rfl rfl rfl rfl rfl rfl rfl rfl

theorem withLane_ne_zero (o : LaneSet) (l : Lane) : withLane o l true ≠ 0 := by
  intro empty
  have bit : (withLane o l true).getLsbD l.code = true := by
    cases l <;> simp [withLane, Lane.code]
  rw [empty] at bit
  simp at bit

/-- R111, row 1: a lane run empty joins the SUPPLY_OUT list. -/
theorem setSupplyOut_deducting (l : Lane) (steady : Steady n s) : Deducting n s (setSupplyOut n l true s) := by
  unfold setSupplyOut
  dsimp only
  rw [if_neg (withLane_ne_zero _ l)]
  have listed := setPrinter_deducting (n := n) (s.printer n).conditions (withLane (s.printer n).supplyOut l true) s
  have added := listed.trans (addSupplyOut_deducting _)
  exact added.trans (promotionCheck_deducting (added.steady steady))

/-- R147: a SUPPLY raise sends no job back. -/
theorem supplyRaise_deducting (l : Lane) (s : State) : Deducting n s (supplyRaise n l s) := by
  have told : ∀ (c : CalloutUnit), Deducting n s (raise .f .callout { s with cu := c }) := fun c => by
    obtain ⟨au, jt, ru, ft, se, su, -, flc, tb, -⟩ := raise_frame .f .callout { s with cu := c }
    exact .of_ft au jt ru ft se su flc tb
  unfold supplyRaise raiseItems
  split
  · dsimp only
    split
    · exact .refl s
    · exact told _
  · split
    · exact .refl s
    · split
      · exact told _
      · unfold deferRaise
        split <;> exact .of_ft rfl rfl rfl rfl rfl rfl rfl rfl

theorem se_addSupplyOut (s : State) : (addCondition n .supplyOut s).se = s.se := by
  cases held : (s.printer n).holds .supplyOut with
  | true => rw [addCondition_held held]
  | false => rw [addCondition_new held, tellOnset, if_pos rfl]; rfl

theorem se_promotionCheck (steady : Steady n s) : (promotionCheck n s).se = s.se := by
  cases queue : (s.printer n).queue with
  | nil => rw [promotionCheck_empty queue]
  | cons k rest =>
    rcases steady with room | unqueued
    · obtain ⟨-, -, se, -⟩ := promotionCheck_room room
      exact se
    · have stays : promotionCheck n s = s := by
        rw [promotionCheck, queue]
        exact if_neg (by rw [mayPromote_of_state (unqueued k rest queue)]; decide)
      rw [stays]

theorem se_setSupplyOut (l : Lane) (steady : Steady n s) : (setSupplyOut n l true s).se = s.se := by
  have listed := setPrinter_deducting (n := n) (s.printer n).conditions (withLane (s.printer n).supplyOut l true) s
  unfold setSupplyOut
  dsimp only
  rw [if_neg (withLane_ne_zero _ l), se_promotionCheck ((listed.trans (addSupplyOut_deducting _)).steady steady),
    se_addSupplyOut]
  rfl

theorem se_supplyRaise (l : Lane) (s : State) : (supplyRaise n l s).se = s.se := by
  have told : ∀ (c : CalloutUnit), (raise .f .callout { s with cu := c }).se = s.se := fun c =>
    (raise_frame .f .callout { s with cu := c }).2.2.2.2.1
  unfold supplyRaise raiseItems
  split
  · dsimp only
    split
    · rfl
    · exact told _
  · split
    · rfl
    · split
      · exact told _
      · unfold deferRaise
        split <;> rfl

/-- R126: a lane asks for a cartridge: its own record and its type's figures alone change. -/
theorem requestCartridge_deducting (l : Lane) (s : State) : Deducting n s (requestCartridge n l s) ∧
    OnlyLane n l s (requestCartridge n l s) := by
  obtain ⟨au, jt, ru, ft, -, flc, tb, -⟩ := requestCartridge_frame n l s
  suffices parts : (requestCartridge n l s).se.kWeights = s.se.kWeights ∧
      (requestCartridge n l s).se.colourWeights = s.se.colourWeights ∧ SettingsKept s (requestCartridge n l s) ∧
      OnlyLane n l s (requestCartridge n l s) by
    obtain ⟨kWeights, colourWeights, types, lane⟩ := parts
    exact ⟨.of_groups au jt ru flc tb kWeights colourWeights types (fun m _ => printer_congr ft m)
      ⟨_, _, printer_congr ft n⟩, lane⟩
  unfold requestCartridge
  split
  · exact ⟨rfl, rfl, .of_su rfl, fun _ _ _ => rfl⟩
  · next x present =>
    dsimp only
    have asked : ∀ (r : CartridgeType) (z : Option LaneRecord), SettingsKept s (s.setType x.type r) →
        let u := trigger x.type ((s.setType x.type r).setLane n l z)
        u.se.kWeights = s.se.kWeights ∧ u.se.colourWeights = s.se.colourWeights ∧ SettingsKept s u ∧ OnlyLane n l s u := by
      intro r z kept u
      have se : u.se = ((s.setType x.type r).setLane n l z).se := (trigger_frame _ _).2.2.2.2.1
      refine ⟨by rw [se]; rfl, by rw [se]; rfl, kept.trans (.trans (.of_su rfl) (trigger_settingsKept _ _)),
        fun m l' other => ?_⟩
      rw [lane_congr se, State.lane_setLane, if_neg other]
      rfl
    split
    · exact asked _ _ (setType_settingsKept rfl rfl rfl)
    · exact asked _ _ (setType_settingsKept rfl rfl rfl)

theorem OnlyLane.trans {l : Lane} (h : OnlyLane n l s t) (h' : OnlyLane n l t u) : OnlyLane n l s u :=
  fun m l' other => (h' m l' other).trans (h m l' other)

theorem OnlyLane.of_se {l : Lane} (h : t.se = s.se) : OnlyLane n l s t := fun m l' _ => lane_congr h m l'

/-- R111: the effects of a lane's change to a worse state. -/
theorem laneEffects_deducting {l : Lane} {old new : LaneState} (worse : old.severity ≤ new.severity) (changed : new ≠ old)
    (steady : Steady n s) : Deducting n s (laneEffects n l old new s) ∧ OnlyLane n l s (laneEffects n l old new s) := by
  have supply : Deducting n s (supplyOutEffect n l old new s) ∧ OnlyLane n l s (supplyOutEffect n l old new s) := by
    unfold supplyOutEffect
    split
    · exact ⟨setSupplyOut_deducting l steady, .of_se (se_setSupplyOut l steady)⟩
    · split
      · next c =>
        rw [c.1] at worse
        cases new <;> simp_all [LaneState.severity]
      · exact ⟨.refl s, .of_se rfl⟩
  have callout : ∀ s, Deducting n s (calloutEffect n l old new s) ∧ OnlyLane n l s (calloutEffect n l old new s) := by
    intro s
    unfold calloutEffect
    split
    · exact ⟨supplyRaise_deducting l s, .of_se (se_supplyRaise l s)⟩
    · split
      · next c => cases old <;> cases new <;> simp_all [LaneState.severity, LaneState.callsOut]
      · exact ⟨.refl s, .of_se rfl⟩
  have claim : ∀ s, Deducting n s (claimEffect n l old new s) ∧ OnlyLane n l s (claimEffect n l old new s) := by
    intro s
    unfold claimEffect
    split
    · next ok =>
      rw [ok] at worse changed
      cases old <;> simp_all [LaneState.severity]
    · split
      · exact requestCartridge_deducting l s
      · exact ⟨.refl s, .of_se rfl⟩
  obtain ⟨supplied, supplyLane⟩ := supply
  obtain ⟨called, calloutLane⟩ := callout (supplyOutEffect n l old new s)
  obtain ⟨claimed, claimLane⟩ := claim (calloutEffect n l old new (supplyOutEffect n l old new s))
  exact ⟨supplied.trans (called.trans claimed), supplyLane.trans (calloutLane.trans claimLane)⟩

theorem setLane_deducting (l : Lane) (z : Option LaneRecord) (s : State) : Deducting n s (s.setLane n l z) ∧
    OnlyLane n l s (s.setLane n l z) :=
  ⟨.of_groups rfl rfl rfl rfl rfl rfl rfl (.of_su rfl) (fun _ _ => rfl) ⟨_, _, rfl⟩,
    fun _ _ other => (State.lane_setLane ..).trans (if_neg other)⟩

/-- R110: a state computed again from figures that can only have fallen. -/
theorem recompute_deducting {l : Lane} (worse : ∀ x, s.lane n l = some x →
    x.state.severity ≤ (laneState x (s.ctype x.type)).severity) (steady : Steady n s) :
    Deducting n s (recompute n l s) ∧ OnlyLane n l s (recompute n l s) := by
  unfold recompute
  split
  · exact ⟨.refl s, .of_se rfl⟩
  · next x present =>
    dsimp only
    split
    · exact ⟨.refl s, .of_se rfl⟩
    · next changed =>
      obtain ⟨written, only⟩ := setLane_deducting (n := n) l (some { x with state := laneState x (s.ctype x.type) }) s
      obtain ⟨taken, only'⟩ := laneEffects_deducting (l := l) (worse x present) changed (written.steady steady)
      exact ⟨written.trans taken, only.trans only'⟩

/-! ### Deductions (R115, R116) -/

/-- R115: a deduction from a lane whose state fits its figures. -/
theorem deduct_deducting {l : Lane} (pages weight : Nat) (fits : ∀ x, s.lane n l = some x → StateFits x (s.ctype x.type))
    (steady : Steady n s) :
    Deducting n s (deduct n l pages weight s) ∧ OnlyLane n l s (deduct n l pages weight s) := by
  unfold deduct
  split
  · exact ⟨.refl s, .of_se rfl⟩
  · next x present =>
    dsimp only
    obtain ⟨written, only⟩ := setLane_deducting (n := n) l (some (deductedLane x pages weight)) s
    split
    · exact ⟨written, only⟩
    · obtain ⟨flag, confirmed, lower, type, state⟩ := deductedLane_lower x pages weight
      have worse : ∀ y, (s.setLane n l (some (deductedLane x pages weight))).lane n l = some y →
          y.state.severity ≤ (laneState y (s.ctype y.type)).severity := by
        intro y now
        rw [State.lane_setLane, if_pos ⟨rfl, rfl⟩, Option.some.injEq] at now
        rw [← now, state, type, (stateFits_iff x _).1 (fits x present)]
        exact laneState_worsens flag confirmed lower
      obtain ⟨taken, only'⟩ := recompute_deducting (l := l) worse (written.steady steady)
      exact ⟨written.trans taken, only.trans only'⟩

end

/-- R116: the load of a job's pages on each lane, deducted lane by lane. -/
def deductEach (n : Nat) (pages : PerClass Nat) (kClass : Nat) (colourClass : Option Nat) (L : List Lane) (s : State) : State :=
  L.foldl (fun s l =>
    let load := laneLoad s l pages kClass colourClass
    deduct n l load.1 load.2 s) s

theorem laneLoad_congr {s t : State} (k : t.se.kWeights = s.se.kWeights) (c : t.se.colourWeights = s.se.colourWeights)
    (l : Lane) (pages : PerClass Nat) (kClass : Nat) (colourClass : Option Nat) :
    laneLoad t l pages kClass colourClass = laneLoad s l pages kClass colourClass := by
  cases l <;> simp [laneLoad, kWeight, colourWeight, k, c]

theorem deductEach_deducting {n : Nat} (pages : PerClass Nat) (kClass : Nat) (colourClass : Option Nat) {L : List Lane}
    (nodup : L.Nodup) (s : State) (fits : ∀ l ∈ L, ∀ x, s.lane n l = some x → StateFits x (s.ctype x.type))
    (steady : Steady n s) :
    let t := deductEach n pages kClass colourClass L s
    Deducting n s t ∧ (∀ l, l ∉ L → t.lane n l = s.lane n l) ∧
      ∀ l ∈ L, (t.lane n l).map LaneRecord.figures = (s.lane n l).map (fun x =>
        (deductedLane x (laneLoad s l pages kClass colourClass).1 (laneLoad s l pages kClass colourClass).2).figures) := by
  induction L generalizing s with
  | nil => exact ⟨.refl s, fun _ _ => rfl, nofun⟩
  | cons l L ih =>
    obtain ⟨fresh, nodup⟩ := List.nodup_cons.1 nodup
    set load := laneLoad s l pages kClass colourClass
    obtain ⟨first, only⟩ := deduct_deducting load.1 load.2 (fits l List.mem_cons_self) steady
    obtain ⟨-, figures, -⟩ := deduct_background n l load.1 load.2 s
    have kept : ∀ l', l' ≠ l → (deduct n l load.1 load.2 s).lane n l' = s.lane n l' := fun l' other =>
      only n l' fun c => other c.2
    obtain ⟨rest, others, each⟩ := ih nodup (deduct n l load.1 load.2 s) (fun l' hl x now => by
      have other : l' ≠ l := fun same => fresh (same ▸ hl)
      rw [kept l' other] at now
      rw [stateFits_iff, first.types.laneState]
      exact (stateFits_iff _ _).1 (fits l' (List.mem_cons_of_mem _ hl) x now)) (first.steady steady)
    refine ⟨first.trans rest, fun l' hl => ?_, fun l' hl => ?_⟩
    · obtain ⟨other, out⟩ := not_or.1 (fun c => hl (List.mem_cons.2 c))
      exact (others l' out).trans (kept l' other)
    · rcases List.mem_cons.1 hl with rfl | hl
      · refine (congrArg _ (others l' fresh)).trans ((figures n l').trans ?_)
        rw [withDeduction, State.lane_setLane, if_pos ⟨rfl, rfl⟩, Option.map_map]
        rfl
      · have other : l' ≠ l := fun same => fresh (same ▸ hl)
        refine (each l' hl).trans ?_
        rw [kept l' other, laneLoad_congr first.kWeights first.colourWeights]

theorem deductPages_eq (n : Nat) (pages : PerClass Nat) (kClass : Nat) (colourClass : Option Nat) (s : State) :
    deductPages n pages kClass colourClass s = deductEach n pages kClass colourClass Lane.all s := rfl

/-- The figures of a printer's lanes after a deduction are as `LanesDeducted` asks. -/
theorem lanesDeducted_of_figures {n : Nat} {pages : PerClass Nat} {kClass : Nat} {colourClass : Option Nat} {s t : State}
    (figures : ∀ l, (t.lane n l).map LaneRecord.figures = (s.lane n l).map (fun x =>
      (deductedLane x (laneLoad s l pages kClass colourClass).1 (laneLoad s l pages kClass colourClass).2).figures)) :
    LanesDeducted s t n pages kClass colourClass := by
  intro l x present
  have same := figures l
  rw [present] at same
  obtain ⟨y, found, kept⟩ := Option.map_eq_some_iff.1 same
  have deducted := deducted_of_figures kept
  refine ⟨y, found, fun k => ?_, fun colour => ?_⟩
  · subst k
    exact deducted
  · cases l with
    | k => exact absurd rfl colour
    | c => exact deducted
    | m => exact deducted
    | y => exact deducted

/-- R116: the deduction of a job's pages where the states of the printer's lanes fit their figures. -/
theorem deductPages_deducting {n : Nat} (pages : PerClass Nat) (kClass : Nat) (colourClass : Option Nat) {s : State}
    (law : LaneLaw s) (hn : n < 64) (steady : Steady n s) :
    Deducting n s (deductPages n pages kClass colourClass s) ∧
      ∀ l, ((deductPages n pages kClass colourClass s).lane n l).map LaneRecord.figures = (s.lane n l).map (fun x =>
        (deductedLane x (laneLoad s l pages kClass colourClass).1 (laneLoad s l pages kClass colourClass).2).figures) := by
  obtain ⟨deducting, -, figures⟩ := deductEach_deducting pages kClass colourClass (L := Lane.all) (by decide) s
    (fun l _ x present => law n l x hn present) steady
  exact ⟨deducting, fun l => figures l (by cases l <;> decide)⟩

end Sys2Proof.Machine

/-! A job's end (R50, R51, R97 to R101): JOB_END and the expiry of a stall count. -/

namespace Sys2Proof.Machine

/-! ### R98, steps 1 to 4 -/

/-- What steps 1 to 4 leave of a state in which the job prints at the head of the printer's queue. -/
structure Settled (n : Nat) (k : Handle) (s t : State) : Prop where
  jt : t.jt = s.jt
  flc : t.flc = s.flc
  tb : t.tb = s.tb
  own : ∃ c o, t.printer n = { s.printer n with
    conditions := c, supplyOut := o, stall := none, queue := (s.printer n).queue.filter (· ≠ k) }
  others : ∀ m, m ≠ n → t.printer m = s.printer m
  charged : ChargedTo (s.account (s.job k.index).owner) (t.account (s.job k.index).owner) (pagesPrinted (s.job k.index))
    ((s.job k.index).reservation.getD ⟨0, 0⟩)
  lanes : LanesDeducted s t n (pagesPrinted (s.job k.index)) (s.job k.index).kClass (s.job k.index).colourClass

section
variable {n : Nat} {k : Handle} {s t : State}

theorem LanesDeducted.congr {s' t' : State} {pages : PerClass Nat} {kClass : Nat} {colourClass : Option Nat}
    (h : LanesDeducted s t n pages kClass colourClass) (se : s'.se = s.se) (se' : t'.se = t.se) :
    LanesDeducted s' t' n pages kClass colourClass := by
  intro l x present
  rw [lane_congr se] at present
  rw [se, lane_congr se']
  exact h l x present

theorem laneLaw_congr (se : t.se = s.se) (su : t.su = s.su) (law : LaneLaw s) : LaneLaw t := by
  intro m l x hm present
  rw [lane_congr se] at present
  rw [ctype_congr su]
  exact law m l x hm present

theorem figures_returnNeeds (n : Nat) (j : Job) (s : State) (m : Nat) (l : Lane) :
    ((returnNeeds n j s).lane m l).map LaneRecord.figures = (s.lane m l).map LaneRecord.figures := by
  rw [lane_returnNeeds, Option.map_map]
  refine Option.map_congr fun x _ => ?_
  dsimp only [Function.comp]
  split <;> rfl

/-- R21, R98: the account has been charged, the stall count stopped, and nothing else has changed. -/
structure Paid (n : Nat) (j : Job) (s t : State) : Prop where
  jt : t.jt = s.jt
  se : t.se = s.se
  su : t.su = s.su
  flc : t.flc = s.flc
  tb : t.tb = s.tb
  printer : ∀ m, t.printer m = if m = n then { s.printer n with stall := none } else s.printer m
  charged : ChargedTo (s.account j.owner) (t.account j.owner) (pagesPrinted j) (j.reservation.getD ⟨0, 0⟩)

theorem chargeBoth_paid (n : Nat) (j : Job) (s : State) :
    Paid n j s (chargeBoth j.owner j.printed (j.reservation.getD (.both 0)) (stopStall n s)) := by
  obtain ⟨jt, -, ft, se, su, -, flc, tb, -⟩ :=
    chargeBoth_frame j.owner j.printed (j.reservation.getD (.both 0)) (stopStall n s)
  obtain ⟨charged, -⟩ := chargeBoth_charged j.owner j.printed (j.reservation.getD (.both 0)) (stopStall n s)
  refine ⟨jt, se, su, flc, tb, fun m => ?_, charged⟩
  rw [printer_congr ft, stopStall, State.printer_setPrinter]

/-- R98, steps 2 to 4. -/
theorem Paid.settled {paid spent : State} (h : Paid n (s.job k.index) s paid) (deducting : Deducting n paid spent)
    (printing : (printingHead paid n).isSome = true)
    (figures : ∀ l, (spent.lane n l).map LaneRecord.figures = (paid.lane n l).map (fun x => (deductedLane x
      (laneLoad paid l (s.job k.index).printed (s.job k.index).kClass (s.job k.index).colourClass).1
      (laneLoad paid l (s.job k.index).printed (s.job k.index).kClass (s.job k.index).colourClass).2).figures)) :
    Settled n k s (outOfQueue n k (s.job k.index) spent) := by
  obtain ⟨jt, flc, stall⟩ := deducting.quiet printing
  obtain ⟨c, o, st, own⟩ := deducting.own
  obtain ⟨oau, ojt, -, -, otb, oprinter, -⟩ := outOfQueue_frame n k (s.job k.index) spent
  have oflc : (outOfQueue n k (s.job k.index) spent).flc = spent.flc := by simp [outOfQueue]
  rw [h.printer, if_pos rfl] at own
  have stopped : st = none := by
    rw [own, h.printer, if_pos rfl] at stall
    exact stall
  refine ⟨ojt.trans (jt.trans h.jt), oflc.trans (flc.trans h.flc), otb.trans (deducting.tb.trans h.tb), ⟨c, o, ?_⟩,
    fun m other => ?_, ?_, lanesDeducted_of_figures fun l => ?_⟩
  · rw [oprinter, if_pos rfl, own, stopped]
  · rw [oprinter, if_neg other, deducting.others m other, h.printer, if_neg other]
  · rw [account_congr oau, account_congr deducting.au]
    exact h.charged
  · rw [outOfQueue, lane_congr (leaveQueue_frame _ _ _).2.2.2.2.1, figures_returnNeeds, figures l, lane_congr h.se,
      laneLoad_congr (s := s) (by rw [h.se]) (by rw [h.se])]
    rfl

/-- R98: the account charged, the pages deducted, the needs returned, the job out of the queue. -/
theorem settleEnd_settled (head : printingHead s n = some k) (law : LaneLaw s) (hn : n < 64) :
    Settled n k s (settleEnd n k s) := by
  have paid := chargeBoth_paid n (s.job k.index) s
  have printing := (printingHead_congr (by rw [paid.printer, if_pos rfl]) paid.jt).trans head
  obtain ⟨deducting, figures⟩ := deductPages_deducting (s.job k.index).printed (s.job k.index).kClass
    (s.job k.index).colourClass (laneLaw_congr paid.se paid.su law) hn (steady_of_printing printing)
  exact paid.settled deducting (by rw [printing]; rfl) figures

/-! ### The Job Table's part (R50, R51, R99) -/

/-- Only jobs, finished lists, sessions, accounts' live jobs and flags have changed. -/
structure EntryMove (s t : State) : Prop where
  ft : t.ft = s.ft
  se : t.se = s.se
  flc : t.flc = s.flc
  tb : t.tb = s.tb
  accounts : ∀ i, t.account i = { s.account i with liveJobs := (t.account i).liveJobs }

theorem EntryMove.trans {u : State} (h : EntryMove s t) (h' : EntryMove t u) : EntryMove s u where
  ft := h'.ft.trans h.ft
  se := h'.se.trans h.se
  flc := h'.flc.trans h.flc
  tb := h'.tb.trans h.tb
  accounts i := by
    have second := h'.accounts i
    rw [h.accounts i] at second
    exact second

theorem enterFinal_entryMove (i : Nat) (f : JobState) (r : EndReason) (s : State) : EntryMove s (enterFinal i f r s) := by
  obtain ⟨ft, se, -, -, flc, tb, -⟩ := enterFinal_frame i f r s
  refine ⟨ft, se, flc, tb, fun o => ?_⟩
  rw [account_enterFinal]
  split
  · next own => rw [own]
  · rfl

theorem returnToHeld_entryMove (i : Nat) (s : State) : EntryMove s (returnToHeld i s) := by
  obtain ⟨ft, se, -, -, flc, tb, -⟩ := returnToHeld_frame i s
  refine ⟨ft, se, flc, tb, fun o => ?_⟩
  unfold returnToHeld
  dsimp only
  split
  · exact (enterFinal_entryMove i _ _ s).accounts o
  · rw [account_congr (raiseTenant_frame _ _ _).1]
    rfl

theorem interruptEntry_entryMove (i : Nat) (s : State) : EntryMove s (interruptEntry i s) := by
  have counted : EntryMove s (s.setJob i { s.job i with interrupts := (s.job i).interrupts + 1 }) :=
    ⟨rfl, rfl, rfl, rfl, fun _ => rfl⟩
  unfold interruptEntry
  dsimp only
  split
  · exact counted.trans (enterFinal_entryMove i _ _ _)
  · exact counted.trans (returnToHeld_entryMove i _)

/-- R50: the entry that enters a final state. -/
theorem entry_enterFinal (i : Nat) (f : JobState) (r : EndReason) (s : State) : (enterFinal i f r s).job i =
    { s.job i with state := f, endReason := some r, finished := s.now, reservation := none, needs := none } := by
  rw [job_enterFinal, if_pos rfl]

/-- R51: the entry that returns to HELD, or is DONE with nothing left to print. -/
theorem entry_returnToHeld (i : Nat) (s : State) : (returnToHeld i s).job i =
    if pagesToPrint (s.job i) = ⟨0, 0⟩ then
      { s.job i with state := .done, endReason := some .complete, finished := s.now, reservation := none, needs := none }
    else
      { s.job i with
        pages := pagesToPrint (s.job i)
        colourClass := if (pagesToPrint (s.job i)).colour = 0 then none else (s.job i).colourClass
        state := .held, reservation := none, needs := none
        expiry := expiryNow (s.job i).tenant (s.job i).expiry s } := by
  have left : (s.job i).pagesLeft = pagesToPrint (s.job i) := rfl
  have zero : (PerClass.both 0 : PerClass Nat) = ⟨0, 0⟩ := rfl
  unfold returnToHeld
  dsimp only
  rw [left, zero]
  split
  · exact entry_enterFinal i _ _ s
  · rw [job_congr (raiseTenant_frame _ _ _).2.1, State.job_setJob, if_pos rfl]

/-- R99: the entry an interruption leaves. -/
theorem entry_interruptEntry (i : Nat) (s : State) : EndedShort (s.job i) ((interruptEntry i s).job i) ∧
    ((interruptEntry i s).job i).state ≠ .queued := by
  set u := s.setJob i { s.job i with interrupts := (s.job i).interrupts + 1 }
  have counted : u.job i = { s.job i with interrupts := (s.job i).interrupts + 1 } := (State.job_setJob ..).trans (if_pos rfl)
  have left : pagesToPrint (u.job i) = pagesToPrint (s.job i) := by rw [counted]; rfl
  have limit : interruptEntry i s = if 3 ≤ (s.job i).interrupts + 1 ∧ pagesToPrint (s.job i) ≠ ⟨0, 0⟩ then
      enterFinal i .failed .interruptLimit u else returnToHeld i u := rfl
  rw [limit]
  by_cases failed : 3 ≤ (s.job i).interrupts + 1 ∧ pagesToPrint (s.job i) ≠ ⟨0, 0⟩
  · obtain ⟨many, some⟩ := failed
    rw [if_pos ⟨many, some⟩, entry_enterFinal, counted]
    exact ⟨⟨rfl, rfl, rfl, rfl, rfl, rfl, fun none => absurd none some, fun _ _ => ⟨rfl, rfl⟩,
      fun _ few => absurd many (not_le.2 few)⟩, nofun⟩
  · rw [if_neg failed, entry_returnToHeld, left, counted]
    split
    · next none =>
      exact ⟨⟨rfl, rfl, rfl, rfl, rfl, rfl, fun _ => ⟨rfl, rfl, rfl, rfl⟩, fun some => absurd none some,
        fun some => absurd none some⟩, nofun⟩
    · next some =>
      exact ⟨⟨rfl, rfl, rfl, rfl, rfl, rfl, fun none => absurd none some, fun _ many => absurd ⟨many, some⟩ failed,
        fun _ _ => ⟨rfl, rfl, rfl⟩⟩, nofun⟩

/-! ### The end behind it (R98, step 6) -/

theorem queue_drainingTest (n : Nat) (s : State) (m : Nat) :
    ((drainingTest n s).printer m).queue = (s.printer m).queue := by
  unfold drainingTest
  dsimp only
  split
  · rw [printer_congr (raise_frame _ _ _).2.2.2.1, State.printer_setPrinter]
    split
    · next own => rw [own]
    · rfl
  · rfl

theorem finishedList_promoted (n : Nat) (k : Handle) (s : State) (m : Nat) :
    (promoted n k s).finishedList m = s.finishedList m := by
  rw [promoted, finishedList_congr (raiseTenant_frame _ _ _).2.1]
  rfl

/-- What the end of a job leaves, the commands of the printer having room. -/
structure HeadEnded (n : Nat) (k : Handle) (s t : State) : Prop where
  queue : (t.printer n).queue = (s.printer n).queue.filter (· ≠ k)
  background : (t.printer n).background = (s.printer n).background
  charged : ChargedTo (s.account (s.job k.index).owner) (t.account (s.job k.index).owner) (pagesPrinted (s.job k.index))
    ((s.job k.index).reservation.getD ⟨0, 0⟩)
  lanes : LanesDeducted s t n (pagesPrinted (s.job k.index)) (s.job k.index).kClass (s.job k.index).colourClass
  commands : ∃ mid, t.commands n = s.commands n ++ mid

/-- R98: the promotion check and the draining test behind the Job Table's part. -/
theorem Settled.afterEnd {u : State} (settled : Settled n k s t) (entry : EntryMove t u) (room : (s.commands n).length < 8) :
    HeadEnded n k s (afterEnd n u) ∧ (∀ m, (afterEnd n u).finishedList m = u.finishedList m) ∧
      ((u.job k.index).state ≠ .queued → (afterEnd n u).job k.index = u.job k.index) ∧ FlagsStay u (afterEnd n u) := by
  obtain ⟨c, o, own⟩ := settled.own
  have flc : u.flc = s.flc := entry.flc.trans settled.flc
  have room' : (u.commands n).length < 8 := by rw [commands_congr flc]; exact room
  obtain ⟨au, ru, se, su, cu, tb, queue, mid, commands, one⟩ := promotionCheck_room room'
  obtain ⟨dau, djt, -, dse, -, -, dflc, -⟩ := drainingTest_frame n (promotionCheck n u)
  refine ⟨⟨?_, ?_, ?_, ?_, mid, ?_⟩, fun m => ?_, (afterEnd_calm n u).jobs k.index, (afterEnd_moves n u).flagsStay⟩
  · rw [Machine.afterEnd, queue_drainingTest, queue, printer_congr entry.ft, own]
  · rw [Machine.afterEnd, (drainingTest_onlyQueue _).background, promotionCheck_background, printer_congr entry.ft, own]
    rfl
  · rw [Machine.afterEnd, account_congr dau, account_congr au, entry.accounts]
    exact settled.charged
  · exact settled.lanes.congr rfl (dse.trans (se.trans entry.se))
  · rw [Machine.afterEnd, commands_congr dflc, commands, commands_congr flc]
  · rw [Machine.afterEnd, finishedList_congr djt]
    rcases promotionCheck_cases room' with e | ⟨k', e⟩ <;> rw [e]
    exact finishedList_promoted n k' u m

variable (head : printingHead s n = some k) (law : LaneLaw s) (hn : n < 64) (room : (s.commands n).length < 8)
include head law hn room

/-- R98: the head is ended in a final state. -/
theorem endFinal_ends (f : JobState) (r : EndReason) (final : f ≠ .queued) :
    HeadEnded n k s (endFinal n k f r s) ∧
      (endFinal n k f r s).job k.index = { s.job k.index with
        state := f, endReason := some r, finished := s.now, reservation := none, needs := none } ∧
      (endFinal n k f r s).finishedList (s.job k.index).tenant =
        s.finishedList (s.job k.index).tenant ++ [⟨k.index, (s.job k.index).generation⟩] ∧
      hasNotice ((endFinal n k f r s).port (PortName.ofTenant (s.job k.index).tenant)).flags .finished = true := by
  have settled := settleEnd_settled head law hn
  have job : (settleEnd n k s).job k.index = s.job k.index := job_congr settled.jt _
  have now : (settleEnd n k s).now = s.now := by rw [State.now, settled.tb, State.now]
  have entry := entry_enterFinal k.index f r (settleEnd n k s)
  obtain ⟨-, told⟩ := flags_enterFinal k.index f r (settleEnd n k s)
  obtain ⟨ended, lists, kept, flags⟩ := settled.afterEnd (enterFinal_entryMove k.index f r _) room
  rw [job] at told
  rw [job, now] at entry
  refine ⟨ended, (kept (by rw [entry]; exact final)).trans entry, ?_, flags _ _ told⟩
  rw [endFinal, lists, finishedList_enterFinal, job, if_pos rfl, finishedList_congr settled.jt]

/-- R99: the head is interrupted. -/
theorem endInterrupted_ends : HeadEnded n k s (endInterrupted n k s) ∧
    EndedShort (s.job k.index) ((endInterrupted n k s).job k.index) := by
  have settled := settleEnd_settled head law hn
  have job : (settleEnd n k s).job k.index = s.job k.index := job_congr settled.jt _
  obtain ⟨short, unqueued⟩ := entry_interruptEntry k.index (settleEnd n k s)
  obtain ⟨ended, -, kept, -⟩ := settled.afterEnd (interruptEntry_entryMove k.index _) room
  rw [job] at short
  refine ⟨ended, ?_⟩
  rw [endInterrupted, kept unqueued]
  exact short

/-- R100, R92: the head is ended with the pages last reported. -/
theorem endUnfinished_ends : HeadEnded n k s (endUnfinished n k s) ∧
    ((s.job k.index).state = .cancelling → EndedCancelled (s.job k.index) ((endUnfinished n k s).job k.index)) ∧
    ((s.job k.index).state = .active → EndedShort (s.job k.index) ((endUnfinished n k s).job k.index)) := by
  unfold endUnfinished
  split
  · next cancelling =>
    obtain ⟨ended, entry, -⟩ := endFinal_ends head law hn room .cancelled .cancelledByTenant nofun
    refine ⟨ended, fun _ => ?_, fun active => by rw [cancelling] at active; cases active⟩
    rw [entry]
    exact ⟨rfl, rfl, rfl, rfl, rfl⟩
  · next other =>
    obtain ⟨ended, short⟩ := endInterrupted_ends head law hn room
    exact ⟨ended, fun cancelling => absurd cancelling other, fun _ => short⟩

end

/-! ### A stall that has expired (R100) -/

/-- The head taken out of a queue that names it once. -/
theorem filter_head {k : Handle} {rest : List Handle} (nodup : (k :: rest).Nodup) : (k :: rest).filter (· ≠ k) = rest := by
  obtain ⟨fresh, -⟩ := List.nodup_cons.1 nodup
  rw [List.filter_cons_of_neg (by simp)]
  refine List.filter_eq_self.2 fun x hx => decide_eq_true ?_
  rintro rfl
  exact fresh hx

/-- R100, R90: the grant that a head leaves stalled. -/
def stalledGrant (j : Job) : StalledGrant := ⟨j.grant.getD 0, j.owner, j.kClass, j.colourClass, pagesPrinted j⟩

/-- R100, R90: ABORT issued and the head's grant recorded. -/
def headAborted (n : Nat) (k : Handle) (s : State) : State :=
  recordStalled n k (issue n (.abort ((s.job k.index).grant.getD 0)) s)

section
variable {n : Nat} {k : Handle} {s : State} (room : (s.commands n).length < 8)
include room

theorem headAborted_eq : headAborted n k s = (s.setCommands n (s.commands n ++ [.abort ((s.job k.index).grant.getD 0)])).setPrinter n
    { s.printer n with stalled := some (stalledGrant (s.job k.index)) } := by
  rw [headAborted, issue_room room]
  rfl

theorem printer_headAborted : (headAborted n k s).printer n = { s.printer n with stalled := some (stalledGrant (s.job k.index)) } := by
  rw [headAborted_eq room]
  exact (State.printer_setPrinter ..).trans (if_pos rfl)

theorem commands_headAborted : (headAborted n k s).commands n = s.commands n ++ [.abort ((s.job k.index).grant.getD 0)] := by
  rw [headAborted_eq room]
  exact (State.commands_setCommands ..).trans (if_pos rfl)

theorem headAborted_frame : (headAborted n k s).au = s.au ∧ (headAborted n k s).jt = s.jt ∧ (headAborted n k s).se = s.se ∧
    (headAborted n k s).su = s.su ∧ (headAborted n k s).tb = s.tb := by
  rw [headAborted_eq room]
  exact ⟨rfl, rfl, rfl, rfl, rfl⟩

theorem printingHead_headAborted : printingHead (headAborted n k s) n = printingHead s n :=
  printingHead_congr (by rw [printer_headAborted room]) (headAborted_frame room).2.1

end

theorem exec_stallExpiry {n : Nat} {k : Handle} {s : State} (on : s.phase ≠ .off) (due : (s.printer n).stall = some 0)
    (head : printingHead s n = some k) : exec (.stallExpiry n) s =
    .next (endUnfinished n k (headAborted n k { s with phase := .running, out := [] })) := by
  have head' : printingHead { s with phase := .running, out := [] } n = some k := head
  show Host.Outcome.next (takeEvent (takeStallExpiry n) s) = _
  rw [takeEvent_on _ s on, takeStallExpiry, if_pos (by exact due), expireStall, head']
  rfl

/-- Settles O59: ABORT and the stalled grant (`headAborted`), then the end of the head (`endUnfinished_ends`). -/
theorem stallExpiryEndsTheHead : Obligations.StallExpiryEndsTheHead := by
  intro n h rest s laws law hn on due queue printing short j
  obtain ⟨-, -, ⟨nodup, -⟩, -⟩ := laws
  obtain ⟨-, nodup⟩ := nodup n
  have head : printingHead s n = some h := printingHead_eq_some.2 ⟨⟨rest, queue⟩, (printing_iff _).2 printing⟩
  have room : (({ s with phase := .running, out := [] } : State).commands n).length < 8 := Nat.lt_of_le_of_lt short (by omega)
  set s₀ : State := { s with phase := .running, out := [] }
  set u := headAborted n h s₀
  have own : u.printer n = { s.printer n with stalled := some (stalledGrant j) } := printer_headAborted room
  have commands : u.commands n = s.commands n ++ [.abort (j.grant.getD 0)] := commands_headAborted room
  obtain ⟨au, jt, se, su, -⟩ := headAborted_frame (k := h) room
  have job : u.job h.index = j := job_congr jt _
  have law' : LaneLaw u := laneLaw_congr (s := s₀) se su law
  have head' : printingHead u n = some h := (printingHead_headAborted room).trans head
  obtain ⟨ended, cancelled, interrupted⟩ := endUnfinished_ends head' law' hn
    (by rw [commands, List.length_append]; exact Nat.lt_of_le_of_lt (Nat.add_le_add_right short 1) (by omega))
  obtain ⟨left, background, charged, lanes, mid, issued⟩ := ended
  rw [job] at charged lanes cancelled interrupted
  rw [account_congr au] at charged
  obtain ⟨-, -, -, stalled⟩ := Printer.background_meter background
  refine ⟨_, mid, exec_stallExpiry on due head, ?_, ?_, ?_, charged, lanes.congr (by rw [se]) rfl, cancelled, interrupted⟩
  · rw [issued, commands, List.append_assoc]
    rfl
  · rw [stalled, own]
    rfl
  · rw [left, own]
    rw [queue] at nodup
    exact (congrArg (List.filter (· ≠ h)) queue).trans (filter_head nodup)

/-! ### JOB_END (R97) -/

theorem exec_jobEnd {l : LinkFrame} {g : Nat} {pages : PerClass Nat} {outcome : JobOutcome} {s : State}
    (heard : HeardPlainly l s) (ok : countsOk g pages = true) : exec (.jobEnd l g pages outcome) s =
    .next (takeJobEnd l.address g pages outcome (restarted l.address s)) := by
  show Host.Outcome.next (takeReport l .jobEnd (countsOk g pages) _ s) = _
  rw [ok, takeReport_plain l .jobEnd _ s (by decide) heard]

theorem completes_iff (j : Job) (outcome : JobOutcome) : completes j outcome = true ↔
    outcome = .complete ∧ j.pages.mono ≤ (pagesPrinted j).mono ∧ j.pages.colour ≤ (pagesPrinted j).colour := by
  have printed : j.printed = pagesPrinted j := rfl
  simp [completes, printed, and_assoc]

/-- R96, R97: the counts of the head's JOB_END taken, and a stalled grant of the same number made absent. -/
def countedEnd (n : Nat) (k : Handle) (g : Nat) (pages : PerClass Nat) (s : State) : State :=
  let u := takeCounts n k pages s
  if (u.printer n).stalled.any (fun x => x.grant == g) then u.setPrinter n { u.printer n with stalled := none } else u

section
variable {n g : Nat} {k : Handle} {pages : PerClass Nat} {s : State}

/-- R97: what the counting of a JOB_END leaves. -/
theorem countedEnd_records : let u := countedEnd n k g pages s
    u.au = s.au ∧ u.se = s.se ∧ u.su = s.su ∧ u.flc = s.flc ∧ u.tb = s.tb ∧ u.jt.finished = s.jt.finished ∧
      u.job k.index = countTaken (s.job k.index) pages ∧ (u.printer n).queue = (s.printer n).queue ∧
      (u.printer n).surplus = max (-65535) (min 65535 ((s.printer n).surplus -
        (((pages.mono - (pagesPrinted (s.job k.index)).mono) +
          (pages.colour - (pagesPrinted (s.job k.index)).colour) : Nat) : Int))) ∧
      ((s.printer n).stalled.any (fun x => x.grant == g) = true → (u.printer n).stalled = none) := by
  have own : (takeCounts n k pages s).printer n = { s.printer n with
      surplus := max (-65535) (min 65535 ((s.printer n).surplus -
        (((pages.mono - (pagesPrinted (s.job k.index)).mono) +
          (pages.colour - (pagesPrinted (s.job k.index)).colour) : Nat) : Int))) } := by
    rw [takeCounts_eq]
    exact (State.printer_setPrinter ..).trans (if_pos rfl)
  have job : (takeCounts n k pages s).job k.index = countTaken (s.job k.index) pages := by
    rw [takeCounts_eq]
    exact (State.job_setJob ..).trans (if_pos rfl)
  intro u
  by_cases stalled : ((takeCounts n k pages s).printer n).stalled.any (fun x => x.grant == g) = true
  · have e : u = (takeCounts n k pages s).setPrinter n { (takeCounts n k pages s).printer n with stalled := none } :=
      if_pos stalled
    rw [e, State.printer_setPrinter, if_pos rfl, own]
    exact ⟨rfl, rfl, rfl, rfl, rfl, rfl, job, rfl, rfl, fun _ => rfl⟩
  · have e : u = takeCounts n k pages s := if_neg stalled
    rw [e, own]
    refine ⟨rfl, rfl, rfl, rfl, rfl, rfl, job, rfl, rfl, fun same => absurd ?_ stalled⟩
    rw [own]
    exact same

/-- R97: the JOB_END of the printing head, by the state its entry has. -/
theorem takeJobEnd_head {outcome : JobOutcome} (head : headWithGrant s n g = some k) :
    takeJobEnd n g pages outcome s =
      if (countTaken (s.job k.index) pages).state = .cancelling then
        endFinal n k .cancelled .cancelledByTenant (countedEnd n k g pages s)
      else if completes (countTaken (s.job k.index) pages) outcome then endFinal n k .done .complete (countedEnd n k g pages s)
      else endInterrupted n k (countedEnd n k g pages s) := by
  obtain ⟨-, -, -, -, -, -, job, -⟩ := countedEnd_records (n := n) (g := g) (k := k) (pages := pages) (s := s)
  rw [← job]
  unfold takeJobEnd
  rw [head]
  rfl

end

/-- R97, R98: the JOB_END of the printing head. -/
theorem jobEndOfHead {n g : Nat} {pages : PerClass Nat} {outcome : JobOutcome} {h : Handle} {rest : List Handle} {s : State}
    (dispatch : DispatchLaw s) (law : LaneLaw s) (hn : n < 64) (room : (s.commands n).length < 8)
    (queue : (s.printer n).queue = h :: rest) (printing : (s.job h.index).state ∈ [.active, .cancelling])
    (grant : (s.job h.index).grant = some g) :
    let j := countTaken (s.job h.index) pages
    let t := takeJobEnd n g pages outcome s
    (t.printer n).queue = rest ∧
      (t.printer n).surplus = max (-65535) (min 65535 ((s.printer n).surplus -
        (((pages.mono - (pagesPrinted (s.job h.index)).mono) +
          (pages.colour - (pagesPrinted (s.job h.index)).colour) : Nat) : Int))) ∧
      ((s.printer n).stalled.any (fun x => x.grant == g) = true → (t.printer n).stalled = none) ∧
      ChargedTo (s.account j.owner) (t.account j.owner) (pagesPrinted j) (j.reservation.getD ⟨0, 0⟩) ∧
      LanesDeducted s t n (pagesPrinted j) j.kClass j.colourClass ∧
      (j.state = .cancelling → EndedCancelled j (t.job h.index)) ∧
      (j.state = .active → outcome = .complete → j.pages.mono ≤ (pagesPrinted j).mono →
        j.pages.colour ≤ (pagesPrinted j).colour →
        t.job h.index = { j with
          state := .done, endReason := some .complete, finished := s.now, reservation := none, needs := none } ∧
        t.finishedList j.tenant = s.finishedList j.tenant ++ [h] ∧
        hasNotice (t.port (PortName.ofTenant j.tenant)).flags .finished = true) ∧
      (j.state = .active →
        ¬(outcome = .complete ∧ j.pages.mono ≤ (pagesPrinted j).mono ∧ j.pages.colour ≤ (pagesPrinted j).colour) →
        EndedShort j (t.job h.index)) := by
  intro j t
  obtain ⟨nodup, named, -⟩ := dispatch
  obtain ⟨-, nodup⟩ := nodup n
  obtain ⟨generation, -⟩ := named n h (by rw [queue]; exact List.mem_cons_self)
  have taken := takeJobEnd_head (pages := pages) (outcome := outcome) (headWithGrant_some queue printing grant)
  obtain ⟨au, se, su, flc, tb, finished, job, queue', surplus, stalled⟩ :=
    countedEnd_records (n := n) (g := g) (k := h) (pages := pages) (s := s)
  set u := countedEnd n h g pages s
  have head : printingHead u n = some h :=
    printingHead_eq_some.2 ⟨⟨rest, queue'.trans queue⟩, by rw [job]; exact (printing_iff _).2 printing⟩
  have law' : LaneLaw u := laneLaw_congr se su law
  have room' : (u.commands n).length < 8 := by rw [commands_congr flc]; exact room
  have ended : ∀ {v}, HeadEnded n h u v → (v.printer n).queue = rest ∧
      (v.printer n).surplus = (u.printer n).surplus ∧ (v.printer n).stalled = (u.printer n).stalled ∧
      ChargedTo (s.account j.owner) (v.account j.owner) (pagesPrinted j) (j.reservation.getD ⟨0, 0⟩) ∧
      LanesDeducted s v n (pagesPrinted j) j.kClass j.colourClass := by
    rintro v ⟨left, background, charged, lanes, -⟩
    obtain ⟨-, surplus', -, stalled'⟩ := Printer.background_meter background
    rw [job] at charged lanes
    rw [account_congr au] at charged
    refine ⟨?_, surplus', stalled', charged, lanes.congr se.symm rfl⟩
    rw [queue] at nodup
    rw [left, queue', queue]
    exact filter_head nodup
  have final : ∀ (f : JobState) (r : EndReason), f ≠ .queued → t = endFinal n h f r u → HeadEnded n h u t ∧
      t.job h.index = { j with state := f, endReason := some r, finished := s.now, reservation := none, needs := none } ∧
      t.finishedList j.tenant = s.finishedList j.tenant ++ [h] ∧
      hasNotice (t.port (PortName.ofTenant j.tenant)).flags .finished = true := by
    intro f r unqueued e
    obtain ⟨left, entry, listed, told⟩ := endFinal_ends head law' hn room' f r unqueued
    have now : u.now = s.now := by rw [State.now, tb, State.now]
    have list : u.finishedList j.tenant = s.finishedList j.tenant := congrArg (fun x => Table.get [] x j.tenant) finished
    have handle : (⟨h.index, j.generation⟩ : Handle) = h := by
      rw [show j.generation = h.generation from generation]
    rw [job] at entry listed told
    rw [now] at entry
    rw [list, handle] at listed
    rw [e]
    exact ⟨left, entry, listed, told⟩
  by_cases cancelling : j.state = .cancelling
  · have idle : j.state ≠ .active := by rw [cancelling]; exact nofun
    obtain ⟨left, entry, -⟩ := final .cancelled .cancelledByTenant nofun (taken.trans (if_pos cancelling))
    obtain ⟨left, surplus', stalled', charged, lanes⟩ := ended left
    refine ⟨left, surplus'.trans surplus, fun same => stalled'.trans (stalled same), charged, lanes, fun _ => ?_,
      fun active => absurd active idle, fun active => absurd active idle⟩
    rw [entry]
    exact ⟨rfl, rfl, rfl, rfl, rfl⟩
  · by_cases complete : completes j outcome = true
    · obtain ⟨left, done⟩ := final .done .complete nofun (taken.trans ((if_neg cancelling).trans (if_pos complete)))
      obtain ⟨left, surplus', stalled', charged, lanes⟩ := ended left
      exact ⟨left, surplus'.trans surplus, fun same => stalled'.trans (stalled same), charged, lanes,
        fun same => absurd same cancelling, fun _ _ _ _ => done, fun _ not => absurd ((completes_iff j outcome).1 complete) not⟩
    · have e : t = endInterrupted n h u := taken.trans ((if_neg cancelling).trans (if_neg complete))
      obtain ⟨left, short⟩ := endInterrupted_ends head law' hn room'
      rw [← e] at left short
      rw [job] at short
      obtain ⟨left, surplus', stalled', charged, lanes⟩ := ended left
      exact ⟨left, surplus'.trans surplus, fun same => stalled'.trans (stalled same), charged, lanes,
        fun same => absurd same cancelling,
        fun _ whole mono colour => absurd ((completes_iff j outcome).2 ⟨whole, mono, colour⟩) complete, fun _ _ => short⟩

/-- R101: the charge of a late end; a FREE account is not charged. -/
def lateCharged (x : StalledGrant) (extra : PerClass Nat) (s : State) : State :=
  if (s.account x.account).state = .free then s else chargeBoth x.account extra ⟨0, 0⟩ s

/-- R101: the pages beyond those of the stall. -/
def extraPages (x : StalledGrant) (pages : PerClass Nat) : PerClass Nat :=
  ⟨pages.mono - x.pages.mono, pages.colour - x.pages.colour⟩

/-- R101: the charge and the deduction of a late end. -/
def lateSpent (n : Nat) (x : StalledGrant) (extra : PerClass Nat) (s : State) : State :=
  deductPages n extra x.kClass x.colourClass (lateCharged x extra s)

theorem lateEnd_eq (n : Nat) (x : StalledGrant) (pages : PerClass Nat) (s : State) : lateEnd n x pages s =
    (lateSpent n x (extraPages x pages) s).setPrinter n { (lateSpent n x (extraPages x pages) s).printer n with
      surplus := max (-65535) (min 65535 (((lateSpent n x (extraPages x pages) s).printer n).surplus -
        (((extraPages x pages).mono + (extraPages x pages).colour : Nat) : Int)))
      stalled := none } := rfl

theorem lane_lateEnd (n : Nat) (x : StalledGrant) (pages : PerClass Nat) (s : State) (m : Nat) (l : Lane) :
    (lateEnd n x pages s).lane m l = (lateSpent n x (extraPages x pages) s).lane m l := by
  rw [lateEnd_eq]
  simp only [State.setPrinter_frame]

theorem account_lateEnd (n : Nat) (x : StalledGrant) (pages : PerClass Nat) (s : State) (i : Nat) :
    (lateEnd n x pages s).account i = (lateSpent n x (extraPages x pages) s).account i := by
  rw [lateEnd_eq]
  simp only [State.setPrinter_frame]

theorem lateCharged_paid (x : StalledGrant) (extra : PerClass Nat) (s : State) :
    (lateCharged x extra s).ft = s.ft ∧ (lateCharged x extra s).se = s.se ∧ (lateCharged x extra s).su = s.su ∧
      (lateCharged x extra s).flc = s.flc ∧
      ((s.account x.account).state = .free → (lateCharged x extra s).account x.account = s.account x.account) ∧
      ((s.account x.account).state ≠ .free →
        ChargedTo (s.account x.account) ((lateCharged x extra s).account x.account) extra ⟨0, 0⟩) := by
  unfold lateCharged
  split
  · next free => exact ⟨rfl, rfl, rfl, rfl, fun _ => rfl, fun other => absurd free other⟩
  · next open' =>
    obtain ⟨-, -, ft, se, su, -, flc, -⟩ := chargeBoth_frame x.account extra ⟨0, 0⟩ s
    obtain ⟨charged, -⟩ := chargeBoth_charged x.account extra ⟨0, 0⟩ s
    exact ⟨ft, se, su, flc, fun free => absurd free open', fun _ => charged⟩

/-- R101: a late end charges and deducts the pages beyond those of the stall. -/
theorem lateEnd_ends {n : Nat} {x : StalledGrant} {pages : PerClass Nat} {s : State} (law : LaneLaw s) (hn : n < 64)
    (room : (s.commands n).length < 8) :
    let extra := extraPages x pages
    let t := lateEnd n x pages s
    (t.printer n).stalled = none ∧
      (t.printer n).surplus = max (-65535) (min 65535 ((s.printer n).surplus - ((extra.mono + extra.colour : Nat) : Int))) ∧
      ((s.account x.account).state = .free → t.account x.account = s.account x.account) ∧
      ((s.account x.account).state ≠ .free → ChargedTo (s.account x.account) (t.account x.account) extra ⟨0, 0⟩) ∧
      LanesDeducted s t n extra x.kClass x.colourClass := by
  intro extra t
  obtain ⟨ft, se, su, flc, free, charged⟩ := lateCharged_paid x extra s
  have room' : ((lateCharged x extra s).commands n).length < 8 := by rw [commands_congr flc]; exact room
  obtain ⟨deducting, figures⟩ := deductPages_deducting extra x.kClass x.colourClass (laneLaw_congr se su law) hn (.inl room')
  have e : t = _ := lateEnd_eq n x pages s
  obtain ⟨c, o, st, record⟩ := deducting.own
  have surplus : ((lateSpent n x extra s).printer n).surplus = (s.printer n).surplus := by
    rw [lateSpent, record, printer_congr ft]
  have account : ∀ i, t.account i = (lateCharged x extra s).account i := fun i =>
    (account_lateEnd n x pages s i).trans (account_congr deducting.au i)
  refine ⟨?_, ?_, fun none => (account _).trans (free none), fun some => ?_, lanesDeducted_of_figures fun l => ?_⟩
  · rw [e, State.printer_setPrinter, if_pos rfl]
  · rw [e, State.printer_setPrinter, if_pos rfl, ← surplus]
  · rw [account]
    exact charged some
  · have lane : t.lane n l = (lateSpent n x extra s).lane n l := lane_lateEnd n x pages s n l
    have load : ∀ l, laneLoad (lateCharged x extra s) l extra x.kClass x.colourClass =
        laneLoad s l extra x.kClass x.colourClass := fun l => laneLoad_congr (by rw [se]) (by rw [se]) l _ _ _
    rw [lane, lateSpent, figures l, lane_congr se, load]

/-- R97: a grant that is neither the head's nor the stalled one is a protocol error. -/
theorem takeJobEnd_neither {n g : Nat} {pages : PerClass Nat} {outcome : JobOutcome} {s : State}
    (none : headWithGrant s n g = none) (other : ∀ x, (s.printer n).stalled = some x → x.grant ≠ g) :
    takeJobEnd n g pages outcome s = protocolError n .jobEnd g s := by
  unfold takeJobEnd
  rw [none]
  dsimp only
  split
  · next x stalled => exact if_neg (other x stalled)
  · rfl

/-- Restarting a silence count leaves what the dispatch law reads. -/
theorem restarted_samePrinters (n : Nat) (s : State) : SamePrinters s (restarted n s) := by
  constructor <;> intro m <;> rw [printer_restarted] <;> split <;> simp [*]

/-- Settles O55: `jobEndOfHead` for the head's grant, `lateEnd_ends` for a stalled one. -/
theorem jobEndSettlesTheJob : Obligations.JobEndSettlesTheJob := by
  intro l g pages outcome s laws law heard low high mono colour room n p
  obtain ⟨-, -, dispatch, -⟩ := laws
  have hn : n < 64 := heard.1.2.2.1
  have taken := exec_jobEnd (outcome := outcome) heard (countsOk_of_le low high mono colour)
  have dispatch' : DispatchLaw (restarted n s) :=
    dispatch.congr (restarted_samePrinters n s) (.of_jobs rfl)
  refine ⟨fun h rest queue printing grant => ?_, fun unplaced => ⟨fun x stalled same => ?_, fun other => ?_⟩⟩
  · exact ⟨_, taken, jobEndOfHead dispatch' (by exact law) hn (by exact room) queue printing grant⟩
  · have late : takeJobEnd n g pages outcome (restarted n s) = lateEnd n x pages (restarted n s) := by
      unfold takeJobEnd
      rw [headWithGrant_none unplaced]
      simp only [show ((restarted n s).printer n).stalled = some x from stalled, same, if_true]
    exact ⟨_, taken.trans (congrArg _ late), lateEnd_ends (by exact law) hn (by exact room)⟩
  · rw [taken, takeJobEnd_neither (headWithGrant_none unplaced) other]
    rfl

end Sys2Proof.Machine

/-! FLUSH_PRINTER (R90): every job of the queue ended FAILED, the printing head's grant recorded, the printer drained. -/

namespace Sys2Proof.Machine

/-- R90: a job's entry j, and the entry k that a flush leaves. -/
def FlushedEntry (j k : Job) : Prop :=
  k.state = .failed ∧ k.endReason = some .printerRemoved ∧ k.reservation = none ∧ k.needs = none ∧ k.interrupts = j.interrupts

/-- What the flush of one job leaves. -/
structure FlushedOne (n : Nat) (h : Handle) (s t : State) : Prop where
  queue : (t.printer n).queue = (s.printer n).queue.filter (· ≠ h)
  entry : FlushedEntry (s.job h.index) (t.job h.index)
  others : OnlyJob h.index s t
  drained : (s.printer n).admin = .draining → (t.printer n).queue = [] →
    (t.printer n).admin = .outOfService ∧ hasNotice (t.port .f).flags .fleet = true
  draining : (s.printer n).admin = .draining → (t.printer n).queue ≠ [] → (t.printer n).admin = .draining

section
variable {n : Nat} {h : Handle} {s t u : State}

/-- R89, R90: the job out of the queue, its entry final, and the draining test. -/
theorem FlushedOne.of_left (jt : t.jt = s.jt) (queue : (t.printer n).queue = (s.printer n).queue.filter (· ≠ h))
    (admin : (t.printer n).admin = (s.printer n).admin) :
    FlushedOne n h s (drainingTest n (enterFinal h.index .failed .printerRemoved t)) := by
  set e := enterFinal h.index .failed .printerRemoved t
  have ft : e.ft = t.ft := (enterFinal_frame _ _ _ _).1
  have job : ∀ i, (drainingTest n e).job i = e.job i := job_congr (drainingTest_frame n e).2.1
  have left : ((drainingTest n e).printer n).queue = (e.printer n).queue := queue_drainingTest n e n
  have state : (s.printer n).admin = .draining → (e.printer n).admin = .draining := fun drains => by
    rw [printer_congr ft, admin, drains]
  refine ⟨?_, ?_, fun i other => ?_, fun drains empty => ?_, fun drains some => ?_⟩
  · rw [left, printer_congr ft, queue]
  · rw [job, entry_enterFinal, job_congr jt]
    exact ⟨rfl, rfl, rfl, rfl, rfl⟩
  · rw [job, job_enterFinal, if_neg other, job_congr jt]
  · rw [left] at empty
    refine ⟨?_, fleet_drainingTest (state drains) empty⟩
    rw [printer_drainingTest_empty empty, state drains]
    rfl
  · rw [left] at some
    rw [drainingTest_waits some, state drains]

/-- R90: a QUEUED job flushed leaves the printer's stalled grant and its commands. -/
theorem flushQueued_flushes (n : Nat) (h : Handle) (s : State) : FlushedOne n h s (flushQueued n h s) ∧
    ((flushQueued n h s).printer n).stalled = (s.printer n).stalled ∧ (flushQueued n h s).commands n = s.commands n := by
  set left := returnNeeds n (s.job h.index) (returnReservation (s.job h.index) (leaveQueue n h s))
  obtain ⟨-, rjt, -, rft, -, -, -, rflc, -⟩ := returnReservation_frame (s.job h.index) (leaveQueue n h s)
  obtain ⟨-, -, njt, -, nft, -, -, nflc, -⟩ :=
    returnNeeds_frame n (s.job h.index) (returnReservation (s.job h.index) (leaveQueue n h s))
  have own : left.printer n = { s.printer n with queue := (s.printer n).queue.filter (· ≠ h) } := by
    rw [printer_congr nft, printer_congr rft, printer_leaveQueue, if_pos rfl]
  have flc : (flushQueued n h s).flc = s.flc := by
    rw [flushQueued, (drainingTest_frame _ _).2.2.2.2.2.2.1, (enterFinal_frame _ _ _ _).2.2.2.2.1]
    exact nflc.trans rflc
  refine ⟨.of_left (njt.trans rjt) (by rw [own]) (by rw [own]), ?_, commands_congr flc n⟩
  obtain ⟨-, -, -, stalled⟩ := Printer.background_meter
    ((drainingTest_onlyQueue (n := n) (enterFinal h.index .failed .printerRemoved left)).background n)
  refine stalled.trans ?_
  rw [printer_congr (enterFinal_frame _ _ _ _).1, own]

/-- R90: a printing head flushed: ABORT, its grant recorded, the end of R98. -/
theorem flushHead_flushes (head : printingHead s n = some h) (law : LaneLaw s) (hn : n < 64)
    (room : (s.commands n).length < 8) : FlushedOne n h s (flushHead n h s) ∧
    ((flushHead n h s).printer n).stalled = some (stalledGrant (s.job h.index)) ∧
    (flushHead n h s).commands n = s.commands n ++ [.abort ((s.job h.index).grant.getD 0)] := by
  obtain ⟨-, jt, se, su, -⟩ := headAborted_frame (k := h) room
  have own := printer_headAborted (k := h) room
  have settled := settleEnd_settled ((printingHead_headAborted room).trans head) (laneLaw_congr se su law) hn
  obtain ⟨c, o, record⟩ := settled.own
  rw [own] at record
  have flushed : flushHead n h s = drainingTest n (enterFinal h.index .failed .printerRemoved
      (settleEnd n h (headAborted n h s))) := rfl
  have flc : (flushHead n h s).flc = (headAborted n h s).flc := by
    rw [flushed, (drainingTest_frame _ _).2.2.2.2.2.2.1, (enterFinal_frame _ _ _ _).2.2.2.2.1, settled.flc]
  rw [commands_congr flc, commands_headAborted room, flushed]
  refine ⟨.of_left (settled.jt.trans jt) (by rw [record]) (by rw [record]), ?_, rfl⟩
  obtain ⟨-, -, -, stalled⟩ := Printer.background_meter
    ((drainingTest_onlyQueue (n := n) (enterFinal h.index .failed .printerRemoved
      (settleEnd n h (headAborted n h s)))).background n)
  refine stalled.trans ?_
  rw [printer_congr (enterFinal_frame _ _ _ _).1, record]

end

/-! ### The queue flushed from head to tail -/

/-- What the flush of a queue's jobs leaves. -/
structure FlushedAll (n : Nat) (l : List Handle) (s t : State) : Prop where
  queue : (t.printer n).queue = []
  entries : ∀ h ∈ l, FlushedEntry (s.job h.index) (t.job h.index)
  others : ∀ i, i ∉ l.map Handle.index → t.job i = s.job i
  drained : (s.printer n).admin = .draining → l ≠ [] →
    (t.printer n).admin = .outOfService ∧ hasNotice (t.port .f).flags .fleet = true

theorem flushQueue_cons {n fuel : Nat} {h : Handle} {rest : List Handle} {s : State} (queue : (s.printer n).queue = h :: rest) :
    flushQueue n (fuel + 1) s = ((flushQueue n fuel (flushOne n h s)).1, (flushQueue n fuel (flushOne n h s)).2 + 1) := by
  rw [flushQueue, queue]

/-- The flush of one job, and then of those behind it. -/
theorem FlushedAll.cons {n : Nat} {h : Handle} {l : List Handle} {s t u : State} (queue : (s.printer n).queue = h :: l)
    (nodup : ((h :: l).map Handle.index).Nodup) (one : FlushedOne n h s t) (all : FlushedAll n l t u)
    (stays : l = [] → u = t) : FlushedAll n (h :: l) s u := by
  rw [List.map_cons] at nodup
  obtain ⟨fresh, -⟩ := List.nodup_cons.1 nodup
  have left : (t.printer n).queue = l := by
    rw [one.queue, queue]
    exact filter_head (List.Nodup.of_map _ (by rw [List.map_cons]; exact nodup))
  refine ⟨all.queue, fun k hk => ?_, fun i hi => ?_, fun draining _ => ?_⟩
  · rcases List.mem_cons.1 hk with rfl | hk
    · rw [all.others _ fresh]
      exact one.entry
    · have other : k.index ≠ h.index := fun same => fresh (same ▸ List.mem_map_of_mem hk)
      rw [← one.others _ other]
      exact all.entries k hk
  · rw [List.map_cons, List.mem_cons, not_or] at hi
    obtain ⟨other, out⟩ := hi
    rw [all.others i out, one.others i other]
  · by_cases last : l = []
    · rw [stays last]
      exact one.drained draining (left.trans last)
    · exact all.drained (one.draining draining (by rw [left]; exact last)) last

/-- R90: a queue whose jobs are all QUEUED. -/
theorem flushQueue_queued {n : Nat} {l : List Handle} {s : State} (queue : (s.printer n).queue = l)
    (nodup : (l.map Handle.index).Nodup) (queued : ∀ h ∈ l, (s.job h.index).state = .queued) :
    let x := flushQueue n l.length s
    FlushedAll n l s x.1 ∧ x.2 = l.length ∧ (x.1.printer n).stalled = (s.printer n).stalled ∧
      x.1.commands n = s.commands n ∧ (l = [] → x.1 = s) := by
  induction l generalizing s with
  | nil => exact ⟨⟨queue, nofun, fun _ _ => rfl, fun _ some => absurd rfl some⟩, rfl, rfl, rfl, fun _ => rfl⟩
  | cons h l ih =>
    obtain ⟨one, stalled, commands⟩ := flushQueued_flushes n h s
    have flushed : flushOne n h s = flushQueued n h s := if_neg (by rw [queued h List.mem_cons_self]; decide)
    have nodup' := nodup
    rw [List.map_cons] at nodup'
    obtain ⟨fresh, behind⟩ := List.nodup_cons.1 nodup'
    obtain ⟨all, count, stalled', commands', stays⟩ := ih (s := flushQueued n h s)
      (by rw [one.queue, queue]; exact filter_head (List.Nodup.of_map _ nodup)) behind
      (fun k hk => by
        rw [one.others k.index fun same => fresh (same ▸ List.mem_map_of_mem hk)]
        exact queued k (List.mem_cons_of_mem _ hk))
    rw [List.length_cons, flushQueue_cons queue, flushed]
    exact ⟨.cons queue nodup one all stays, by rw [count], stalled'.trans stalled, commands'.trans commands, nofun⟩

/-- R94: no two jobs of a queue share an entry. -/
theorem DispatchLaw.indices_nodup {s : State} (h : DispatchLaw s) (n : Nat) :
    ((s.printer n).queue.map Handle.index).Nodup :=
  List.Nodup.map_on (fun _ ha _ hb same => (h.queued_once ha hb same).1) (h.1 n).2

theorem queued_of_released {x : JobState} (released : x.released = true) (idle : ¬x.printing = true) : x = .queued := by
  cases x <;> simp_all [JobState.released, JobState.printing]

/-- R90: the whole queue of a DRAINING printer, the head of which may print. -/
theorem flushQueue_flushes {n : Nat} {s : State} (dispatch : DispatchLaw s) (law : LaneLaw s) (hn : n < 64)
    (room : (s.commands n).length < 8) :
    let l := (s.printer n).queue
    let x := flushQueue n l.length s
    FlushedAll n l s x.1 ∧ x.2 = l.length ∧ (l = [] → x.1 = s) ∧
      ∀ j ∈ l.head?, (s.job j.index).state ∈ [.active, .cancelling] →
        (x.1.printer n).stalled = some (stalledGrant (s.job j.index)) ∧
        x.1.commands n = s.commands n ++ [.abort ((s.job j.index).grant.getD 0)] := by
  intro l
  have nodup := dispatch.indices_nodup n
  obtain ⟨-, named, -, behind, -⟩ := dispatch
  have tail := behind n
  cases queue : (s.printer n).queue with
  | nil =>
    obtain ⟨all, count, -, -, stays⟩ := flushQueue_queued queue (by simp) nofun
    rw [show l = [] from queue]
    exact ⟨all, count, stays, nofun⟩
  | cons h rest =>
    have list : l = h :: rest := queue
    rw [queue] at nodup tail
    obtain ⟨-, released, -⟩ := named n h (by rw [queue]; exact List.mem_cons_self)
    rw [list]
    by_cases printing : (s.job h.index).state.printing = true
    · have head : printingHead s n = some h := printingHead_eq_some.2 ⟨⟨rest, queue⟩, printing⟩
      obtain ⟨one, stalled, commands⟩ := flushHead_flushes head law hn room
      have flushed : flushOne n h s = flushHead n h s := if_pos printing
      have nodup' := nodup
      rw [List.map_cons] at nodup'
      obtain ⟨fresh, after⟩ := List.nodup_cons.1 nodup'
      obtain ⟨all, count, stalled', commands', stays⟩ := flushQueue_queued (s := flushHead n h s)
        (by rw [one.queue, queue]; exact filter_head (List.Nodup.of_map _ nodup)) after
        (fun k hk => by
          rw [one.others k.index fun same => fresh (same ▸ List.mem_map_of_mem hk)]
          exact tail k hk)
      rw [List.length_cons, flushQueue_cons queue, flushed]
      refine ⟨.cons queue nodup one all stays, by rw [count], nofun, fun j hj _ => ?_⟩
      obtain rfl : h = j := by simpa using hj
      exact ⟨stalled'.trans stalled, commands'.trans commands⟩
    · have queued := queued_of_released released printing
      obtain ⟨all, count, -, -, stays⟩ := flushQueue_queued queue nodup (fun k hk => by
        rcases List.mem_cons.1 hk with rfl | hk
        · exact queued
        · exact tail k hk)
      refine ⟨all, count, stays, fun j hj active => ?_⟩
      obtain rfl : h = j := by simpa using hj
      rw [queued] at active
      simp at active

/-! ### FLUSH_PRINTER -/

section
variable {h : Head} {n : Nat} {s : State} (rd : Ready h (.flushPrinter n) s) (hn : n < 64)
  (enrolled : (s.printer n).enrolled = true)
include rd hn enrolled

theorem exec_flushPrinter_refused (other : (s.printer n).admin ≠ .draining) :
    exec (.flushPrinter h n) s = .next (answered h (.flushPrinter n) (.refused .badState) s) := by
  refine request_answers h _ _ s _ rd ?_
  rw [onPrinter_enrolled hn rfl (by exact enrolled), if_pos (by exact other)]
  rfl

theorem exec_flushPrinter (draining : (s.printer n).admin = .draining) :
    let x := flushQueue n (s.printer n).queue.length (atOwner h (.flushPrinter n) s)
    exec (.flushPrinter h n) s =
      .next (issueAnswer h (.flushPrinter n) (.accepted (.flushed x.2)) (drainingTest n x.1)) := by
  refine (request_ready h _ _ s rd).trans ?_
  rw [onPrinter_enrolled hn rfl (by exact enrolled), if_neg (not_not.2 (by exact draining))]
  rfl

end

/-- Settles O37: the queue flushed (`flushQueue_flushes`), and the draining test behind it. -/
theorem flushEndsEveryJob : Obligations.FlushEndsEveryJob := by
  intro h n s _ rd hn enrolled
  refine ⟨exec_flushPrinter_refused rd hn enrolled, fun draining laws law room => ?_⟩
  obtain ⟨-, -, dispatch, -⟩ := laws
  set s₀ := atOwner h (.flushPrinter n) s
  obtain ⟨all, count, stays, head⟩ := flushQueue_flushes (s := s₀) dispatch law hn room
  set x := flushQueue n (s₀.printer n).queue.length s₀
  have ended : ((drainingTest n x.1).printer n).admin = .outOfService ∧
      hasNotice ((drainingTest n x.1).port .f).flags .fleet = true := by
    by_cases none : (s₀.printer n).queue = []
    · rw [stays none, printer_drainingTest_empty none]
      exact ⟨if_pos draining, fleet_drainingTest draining none⟩
    · obtain ⟨out, told⟩ := all.drained draining none
      rw [drainingTest_other (by rw [out]; decide)]
      exact ⟨out, told⟩
  obtain ⟨-, jt, -, -, -, -, flc, -⟩ := drainingTest_frame n x.1
  obtain ⟨-, -, -, stalled⟩ := Printer.background_meter ((drainingTest_onlyQueue (n := n) x.1).background n)
  refine ⟨_, exec_flushPrinter rd hn enrolled draining, (queue_drainingTest n x.1 n).trans all.queue, ended.1,
    fun j hj => ?_, fun j hj printing => ?_, ?_, ?_⟩
  · have entry := all.entries j hj
    rw [← job_congr jt] at entry
    exact entry
  · obtain ⟨recorded, commands⟩ := head j hj printing
    exact ⟨_, stalled.trans recorded, rfl, rfl, rfl, (commands_congr flc n).trans commands⟩
  · rw [issueAnswer_flags]
    exact ended.2
  · exact congrArg (fun c => some (h.port, PortFrame.answer h.tag 67 (.accepted (.flushed c)))) count

end Sys2Proof.Machine

/-! HELLO (R92): the presence step, the capabilities compared, a printing head lost. -/

namespace Sys2Proof.Machine

/-! ### What the work behind a HELLO leaves of its printer -/

/-- Of the printer's record the queue, the admin state, the stall count, the SUPPLY_OUT list and conditions of the kinds
named may have changed, and at most so many EXPECTs have been issued to it. -/
structure Quiet (n : Nat) (kinds : List ConditionKind) (issued : Nat) (s t : State) : Prop where
  own : ∃ q a c o st, t.printer n =
    { s.printer n with queue := q, admin := a, conditions := c, supplyOut := o, stall := st }
  holds : ∀ k, k ∉ kinds → (t.printer n).holds k = (s.printer n).holds k
  commands : ∃ mid, t.commands n = s.commands n ++ mid ∧ mid.length ≤ issued ∧ ∀ c ∈ mid, c.IsExpect

section
variable {n : Nat} {K K' : List ConditionKind} {b c d : Nat} {s t u : State}

theorem Quiet.trans (h : Quiet n K b s t) (h' : Quiet n K c t u) (total : b + c ≤ d := by omega) : Quiet n K d s u where
  own := by
    obtain ⟨_, _, _, _, _, first⟩ := h.own
    obtain ⟨q, a, d, o, st, second⟩ := h'.own
    exact ⟨q, a, d, o, st, by rw [second, first]⟩
  holds k hk := (h'.holds k hk).trans (h.holds k hk)
  commands := by
    obtain ⟨mid, first, few, expects⟩ := h.commands
    obtain ⟨mid', second, few', expects'⟩ := h'.commands
    refine ⟨mid ++ mid', by rw [second, first, List.append_assoc], ?_,
      fun x hx => (List.mem_append.1 hx).elim (expects x) (expects' x)⟩
    rw [List.length_append]
    omega

theorem Quiet.mono (h : Quiet n K b s t) (kinds : K ⊆ K') (more : b ≤ c) : Quiet n K' c s t where
  own := h.own
  holds k hk := h.holds k fun named => hk (kinds named)
  commands := by
    obtain ⟨mid, issued, few, expects⟩ := h.commands
    exact ⟨mid, issued, few.trans more, expects⟩

/-- No command issued, no condition changed. -/
theorem Quiet.of_record (flc : t.flc = s.flc)
    (own : ∃ q a o st, t.printer n = { s.printer n with queue := q, admin := a, supplyOut := o, stall := st }) :
    Quiet n K 0 s t := by
  obtain ⟨q, a, o, st, own⟩ := own
  refine ⟨⟨q, a, _, o, st, own⟩, fun k _ => ?_, [], ?_, le_refl 0, nofun⟩
  · rw [own]
    rfl
  · rw [commands_congr flc, List.append_nil]

theorem Quiet.of_ft (flc : t.flc = s.flc) (ft : t.ft = s.ft) : Quiet n K 0 s t :=
  .of_record flc ⟨_, _, _, _, printer_congr ft n⟩

theorem Quiet.refl (s : State) : Quiet n K 0 s s := .of_ft rfl rfl

theorem AnyQueue.quiet (h : AnyQueue s t) (flc : t.flc = s.flc) : Quiet n K 0 s t := by
  obtain ⟨q, a, own⟩ := h.printer n
  exact .of_record flc ⟨q, a, _, _, own⟩

theorem OnlyQueue.quiet (h : OnlyQueue n s t) (flc : t.flc = s.flc) : Quiet n K 0 s t := by
  obtain ⟨-, q, a, own⟩ := h
  exact .of_record flc ⟨q, a, _, _, own⟩

/-- A condition's table replaced. -/
theorem quiet_setConditions {d : Table (Option Onset)} {k : ConditionKind} (named : k ∈ K)
    (others : ∀ l, l ≠ k → Table.get none d l.code = Table.get none (s.printer n).conditions l.code) :
    Quiet n K 0 s (s.setPrinter n { s.printer n with conditions := d }) := by
  have own : (s.setPrinter n { s.printer n with conditions := d }).printer n = { s.printer n with conditions := d } :=
    (State.printer_setPrinter ..).trans (if_pos rfl)
  refine ⟨⟨_, _, d, _, _, own⟩, fun l hl => ?_, [], (List.append_nil _).symm, le_refl 0, nofun⟩
  rw [own, Printer.holds, others l (fun same => hl (same ▸ named)), Printer.holds]

/-- R95, R159: a promotion check issues at most one EXPECT where the commands have room. -/
theorem promotionCheck_quiet (room : (s.commands n).length < 8) : Quiet n K 1 s (promotionCheck n s) := by
  rcases promotionCheck_cases room with e | ⟨k, e⟩ <;> rw [e]
  · exact (Quiet.refl s).mono (List.Subset.refl _) (by omega)
  · have own := printer_promoted n k s n
    rw [if_pos rfl] at own
    refine ⟨⟨_, _, _, _, _, own⟩, fun l _ => by rw [own]; rfl, _, commands_promoted n k s, le_refl 1, fun x hx => ?_⟩
    rw [List.mem_singleton.1 hx]
    exact ⟨_, _, _, _, rfl⟩

/-- R93: a kind added: a graced one is told to the Callout Unit. -/
theorem addCondition_quiet {k : ConditionKind} (named : k ∈ K) (s : State) : Quiet n K 0 s (addCondition n k s) := by
  have flc := (addCondition_frame n k s).2.1
  cases held : (s.printer n).holds k with
  | true => rw [addCondition_held held]; exact .refl s
  | false =>
    have added : Quiet n K 0 s (s.setPrinter n ((s.printer n).withCondition k s.now)) :=
      quiet_setConditions named fun l other => (get_withCondition _ k _ l).trans (if_neg other)
    rw [addCondition_new held] at flc ⊢
    refine added.trans (b := 0) (c := 0) ?_
    by_cases graced : k = .supplyOut
    · rw [tellOnset, if_pos graced]
      exact .of_ft rfl rfl
    · exact (tellOnset_onlyQueue n _ graced).quiet flc

/-- R93: a kind removed, told to the Callout Unit, its promotion check to come. -/
theorem clearedAt_quiet {k : ConditionKind} (named : k ∈ K) (s : State) : Quiet n K 0 s (clearedAt n k s) := by
  have removed : Quiet n K 0 s (s.setPrinter n ((s.printer n).withoutCondition k)) :=
    quiet_setConditions named fun l other => (get_withoutCondition _ k l).trans (if_neg other)
  by_cases graced : k = .supplyOut
  · rw [clearedAt, tellCleared, if_pos graced]
    exact removed
  · rw [clearedAt_eq n s graced]
    have told : Quiet n K 0 (s.setPrinter n ((s.printer n).withoutCondition k))
        ((s.setPrinter n ((s.printer n).withoutCondition k)).setGrace n k .idle) := .of_ft rfl rfl
    exact (removed.trans (d := 0) told).trans
      ((dropItem_anyQueue n .service (.condition k) _).quiet (dropItem_frame _ _ _ _).2.1)

theorem Quiet.room (h : Quiet n K c s t) (room : (s.commands n).length + c < 8) : (t.commands n).length < 8 := by
  obtain ⟨mid, issued, few, -⟩ := h.commands
  rw [issued, List.length_append]
  omega

theorem removeCondition_quiet {k : ConditionKind} (named : k ∈ K) (room : (s.commands n).length < 8) :
    Quiet n K 1 s (removeCondition n k s) := by
  cases held : (s.printer n).holds k with
  | false => rw [removeCondition_absent n k s held]; exact (Quiet.refl s).mono (List.Subset.refl _) (by omega)
  | true =>
    have cleared : Quiet n K 0 s (clearedAt n k s) := clearedAt_quiet named s
    rw [removeCondition_held held]
    split
    · exact cleared.trans (promotionCheck_quiet (cleared.room (by omega)))
    · exact cleared.mono (List.Subset.refl _) (by omega)

/-- R93: a kind removed is held no more. -/
theorem not_holds_removeCondition {k : ConditionKind} (graced : k ≠ .supplyOut) (room : (s.commands n).length < 8) :
    ((removeCondition n k s).printer n).holds k = false := by
  cases held : (s.printer n).holds k with
  | false => rw [removeCondition_absent n k s held, held]
  | true =>
    obtain ⟨holds, -⟩ := clearedAt_records n s graced
    have gone : ((clearedAt n k s).printer n).holds k = false := (holds k).trans (if_pos rfl)
    rw [removeCondition_held held]
    split
    · have cleared : Quiet n [k] 0 s (clearedAt n k s) := clearedAt_quiet List.mem_cons_self s
      exact ((promotionCheck_quiet (K := []) (cleared.room (by omega))).holds k List.not_mem_nil).trans gone
    · exact gone

/-- R93: a kind added is held. -/
theorem holds_addCondition {k : ConditionKind} (graced : k ≠ .supplyOut) (s : State) :
    ((addCondition n k s).printer n).holds k = true := by
  cases held : (s.printer n).holds k with
  | true => rw [addCondition_held held, held]
  | false =>
    have told := (tellOnset_onlyQueue n (s.setPrinter n ((s.printer n).withCondition k s.now)) graced).conditions
    rw [addCondition_new held, Printer.holds, told, State.printer_setPrinter, if_pos rfl, get_withCondition, if_pos rfl]
    rfl

end

/-! ### A printing head behind the effects of a lane's change (R111, R115) -/

/-- The job at the printer's head prints on, and no command is issued. -/
structure Busy (n : Nat) (k : Handle) (s t : State) : Prop where
  head : printingHead t n = some k
  job : t.job k.index = s.job k.index
  quiet : Quiet n [.supplyOut] 0 s t

section
variable {n : Nat} {k : Handle} {s t u : State}

theorem Busy.trans (h : Busy n k s t) (h' : Busy n k t u) : Busy n k s u :=
  ⟨h'.head, h'.job.trans h.job, h.quiet.trans h'.quiet⟩

variable (head : printingHead s n = some k)
include head

theorem Busy.of_moves (moves : FleetMoves s t) (quiet : Quiet n [.supplyOut] 0 s t) : Busy n k s t := by
  obtain ⟨kept, same⟩ := moves.printingHead head
  exact ⟨kept, same, quiet⟩

theorem Busy.of_ft (jt : t.jt = s.jt) (ft : t.ft = s.ft) (flc : t.flc = s.flc) : Busy n k s t :=
  ⟨(printingHead_congr (by rw [printer_congr ft]) jt).trans head, job_congr jt _, .of_ft flc ft⟩

theorem Busy.refl : Busy n k s s := .of_ft head rfl rfl rfl

/-- R95: a head that prints is not promoted. -/
theorem promotionCheck_printing : promotionCheck n s = s := by
  obtain ⟨⟨rest, queue⟩, printing⟩ := printingHead_eq_some.1 head
  rw [promotionCheck, queue]
  exact if_neg (by rw [mayPromote_of_state (printing_ne_queued printing)]; decide)

theorem removeSupplyOut_busy : Busy n k s (removeCondition n .supplyOut s) := by
  refine .of_moves head (removeCondition_moves n .supplyOut s) ?_
  cases held : (s.printer n).holds .supplyOut with
  | false => rw [removeCondition_absent n _ s held]; exact .refl s
  | true =>
    obtain ⟨kept, -⟩ := (clearedAt_moves (k := .supplyOut) n s).printingHead head
    rw [removeCondition_held held, promotionCheck_printing kept, ite_self]
    exact clearedAt_quiet List.mem_cons_self s

theorem setSupplyOut_busy (l : Lane) (out : Bool) : Busy n k s (setSupplyOut n l out s) := by
  unfold setSupplyOut
  dsimp only
  have listed : Busy n k s (s.setPrinter n { s.printer n with supplyOut := withLane (s.printer n).supplyOut l out }) := by
    refine .of_moves head (FleetMove.once (.printer (by rfl))) (.of_record rfl ⟨(s.printer n).queue, (s.printer n).admin,
      withLane (s.printer n).supplyOut l out, (s.printer n).stall, ?_⟩)
    exact (State.printer_setPrinter ..).trans (if_pos rfl)
  refine listed.trans ?_
  generalize s.setPrinter n _ = u at listed ⊢
  have changed : Busy n k u (if withLane (s.printer n).supplyOut l out = 0 then removeCondition n .supplyOut u
      else addCondition n .supplyOut u) := by
    split
    · exact removeSupplyOut_busy listed.head
    · exact .of_moves listed.head (addCondition_moves n .supplyOut u) (addCondition_quiet List.mem_cons_self u)
  rw [promotionCheck_printing changed.head]
  exact changed

theorem supplyOutEffect_busy (l : Lane) (old new : LaneState) : Busy n k s (supplyOutEffect n l old new s) := by
  unfold supplyOutEffect
  split
  · exact setSupplyOut_busy head l true
  · split
    · exact setSupplyOut_busy head l false
    · exact .refl head

theorem calloutEffect_busy (l : Lane) (old new : LaneState) : Busy n k s (calloutEffect n l old new s) := by
  unfold calloutEffect
  split
  · exact .of_moves head (raiseItems_moves n .supply [.lane l] s)
      ((raiseItems_onlyQueue .supply [.lane l] s).quiet (supplyRaise_frame n l s).2.1)
  · split
    · exact .of_moves head (dropItem_moves n .supply (.lane l) s)
        ((dropItem_anyQueue n .supply (.lane l) s).quiet (dropItem_frame _ _ _ _).2.1)
    · exact .refl head

theorem claimEffect_busy (l : Lane) (old new : LaneState) : Busy n k s (claimEffect n l old new s) := by
  unfold claimEffect
  split
  · obtain ⟨-, jt, -, ft, -, flc, -⟩ := returnClaim_frame n l s
    exact .of_ft head jt ft flc
  · split
    · obtain ⟨-, jt, -, ft, -, flc, -⟩ := requestCartridge_frame n l s
      exact .of_ft head jt ft flc
    · exact .refl head

theorem laneEffects_busy (l : Lane) (old new : LaneState) : Busy n k s (laneEffects n l old new s) := by
  have out := supplyOutEffect_busy head l old new
  have called := out.trans (calloutEffect_busy out.head l old new)
  exact called.trans (claimEffect_busy called.head l old new)

theorem setLane_busy (m : Nat) (l : Lane) (z : Option LaneRecord) : Busy n k s (s.setLane m l z) := .of_ft head rfl rfl rfl

theorem recompute_busy (l : Lane) : Busy n k s (recompute n l s) := by
  unfold recompute
  split
  · exact .refl head
  · dsimp only
    split
    · exact .refl head
    · have set := setLane_busy head n l
      exact (set _).trans (laneEffects_busy (set _).head l _ _)

theorem deduct_busy (l : Lane) (pages weight : Nat) : Busy n k s (deduct n l pages weight s) := by
  unfold deduct
  split
  · exact .refl head
  · dsimp only
    have set := setLane_busy head n l
    split
    · exact set _
    · exact (set _).trans (recompute_busy (set _).head l)

theorem deductPages_busy (pages : PerClass Nat) (kClass : Nat) (colourClass : Option Nat) :
    Busy n k s (deductPages n pages kClass colourClass s) := by
  unfold deductPages
  generalize Lane.all = lanes
  induction lanes generalizing s with
  | nil => exact .refl head
  | cons l lanes ih =>
    have first := deduct_busy head l (laneLoad s l pages kClass colourClass).1 (laneLoad s l pages kClass colourClass).2
    exact first.trans (ih first.head)

end

/-! ### The head lost (R92, step 5) -/

section
variable {n : Nat} {k : Handle} {s t : State}

/-- R98, steps 1 to 4. -/
theorem settleEnd_quiet (head : printingHead s n = some k) : Quiet n [.supplyOut] 0 s (settleEnd n k s) ∧
    (settleEnd n k s).job k.index = s.job k.index ∧ k ∉ ((settleEnd n k s).printer n).queue := by
  have paid := chargeBoth_paid n (s.job k.index) s
  have own := paid.printer n
  rw [if_pos rfl] at own
  have stopped : Quiet n [.supplyOut] 0 s (chargeBoth (s.job k.index).owner (s.job k.index).printed
      ((s.job k.index).reservation.getD (.both 0)) (stopStall n s)) := .of_record paid.flc ⟨_, _, _, _, own⟩
  have head' := (printingHead_congr (by rw [own]) paid.jt).trans head
  have spent := deductPages_busy head' (s.job k.index).printed (s.job k.index).kClass (s.job k.index).colourClass
  have job := spent.job.trans (job_congr paid.jt _)
  have quiet := stopped.trans (d := 0) spent.quiet
  have out : settleEnd n k s = outOfQueue n k (s.job k.index) (deductPages n (s.job k.index).printed (s.job k.index).kClass
      (s.job k.index).colourClass (chargeBoth (s.job k.index).owner (s.job k.index).printed
        ((s.job k.index).reservation.getD (.both 0)) (stopStall n s))) := rfl
  rw [out]
  generalize deductPages n _ _ _ _ = u at job quiet
  obtain ⟨-, ojt, -, -, -, oprinter, -⟩ := outOfQueue_frame n k (s.job k.index) u
  have own := (oprinter n).trans (if_pos rfl)
  refine ⟨quiet.trans (.of_record (by simp [outOfQueue]) ⟨_, _, _, _, own⟩), (job_congr ojt _).trans job, ?_⟩
  rw [own]
  exact fun listed => by simpa using List.of_mem_filter listed

/-- R92, step 5: what the loss of a printing head leaves. -/
structure HeadLost (n : Nat) (k : Handle) (s t : State) : Prop where
  quiet : Quiet n [.supplyOut] 1 s t
  left : k ∉ (t.printer n).queue
  unqueued : (t.job k.index).state ≠ .queued
  short : (s.job k.index).state = .active → EndedShort (s.job k.index) (t.job k.index)
  cancelled : (s.job k.index).state = .cancelling → EndedCancelled (s.job k.index) (t.job k.index)

/-- R98, step 6, behind the Job Table's part. -/
theorem HeadLost.afterEnd (quiet : Quiet n [.supplyOut] 0 s t) (left : k ∉ (t.printer n).queue)
    (unqueued : (t.job k.index).state ≠ .queued) (room : (s.commands n).length < 8)
    (short : (s.job k.index).state = .active → EndedShort (s.job k.index) (t.job k.index))
    (cancelled : (s.job k.index).state = .cancelling → EndedCancelled (s.job k.index) (t.job k.index)) :
    HeadLost n k s (afterEnd n t) := by
  have job := (afterEnd_calm n t).jobs k.index unqueued
  have checked := quiet.trans (d := 1) (promotionCheck_quiet (quiet.room (by omega)))
  refine ⟨checked.trans ((drainingTest_onlyQueue _).quiet (drainingTest_frame _ _).2.2.2.2.2.2.1),
    fun listed => left ((afterEnd_moves n t).queue n listed), ?_, ?_, ?_⟩ <;> rw [job]
  · exact unqueued
  · exact short
  · exact cancelled

theorem endUnfinished_loses (head : printingHead s n = some k) (room : (s.commands n).length < 8) :
    HeadLost n k s (endUnfinished n k s) := by
  obtain ⟨quiet, job, left⟩ := settleEnd_quiet head
  unfold endUnfinished
  split
  · next cancelling =>
    obtain ⟨ft, -, -, -, flc, -⟩ := enterFinal_frame k.index .cancelled .cancelledByTenant (settleEnd n k s)
    have entry := entry_enterFinal k.index .cancelled .cancelledByTenant (settleEnd n k s)
    rw [job] at entry
    refine .afterEnd (quiet.trans (.of_ft flc ft)) ?_ ?_ room (fun active => ?_) fun _ => ?_
    · rw [printer_congr ft]
      exact left
    · rw [entry]
      nofun
    · rw [cancelling] at active
      cases active
    · rw [entry]
      exact ⟨rfl, rfl, rfl, rfl, rfl⟩
  · next other =>
    obtain ⟨ft, -, flc, -⟩ := interruptEntry_entryMove k.index (settleEnd n k s)
    obtain ⟨short, unqueued⟩ := entry_interruptEntry k.index (settleEnd n k s)
    rw [job] at short
    refine .afterEnd (quiet.trans (.of_ft flc ft)) ?_ unqueued room (fun _ => short) fun cancelling => absurd cancelling other
    rw [printer_congr ft]
    exact left

theorem loseHead_quiet (room : (s.commands n).length < 8) : Quiet n [.supplyOut] 1 s (loseHead n s) := by
  unfold loseHead
  split
  · next k head => exact (endUnfinished_loses head room).quiet
  · exact (Quiet.refl s).mono (List.Subset.refl _) (by omega)

end

/-! ### HELLO -/

section
variable {n : Nat} {c : Capabilities} {s t : State}

theorem compareCapabilities_moves (n : Nat) (s : State) : FleetMoves s (compareCapabilities n s) := by
  unfold compareCapabilities
  dsimp only
  split
  · exact removeCondition_moves n .mismatch s
  · exact addCondition_moves n .mismatch s

theorem compareCapabilities_quiet (room : (s.commands n).length < 8) :
    Quiet n [.mismatch] 1 s (compareCapabilities n s) := by
  unfold compareCapabilities
  dsimp only
  split
  · exact removeCondition_quiet List.mem_cons_self room
  · exact (addCondition_quiet List.mem_cons_self s).mono (List.Subset.refl _) (by omega)

/-- R92: MISMATCH is held where the capabilities given do not match. -/
theorem holds_compareCapabilities (given : (s.printer n).capabilities = some c) (room : (s.commands n).length < 8) :
    ((compareCapabilities n s).printer n).holds .mismatch = !capabilitiesMatch (s.printer n) c := by
  have graced : ConditionKind.mismatch ≠ .supplyOut := by decide
  unfold compareCapabilities
  dsimp only
  rw [given, Option.all_some]
  split
  · next fits => rw [fits, not_holds_removeCondition graced room]; rfl
  · next unfit => rw [Bool.not_eq_true] at unfit; rw [unfit, holds_addCondition graced]; rfl

/-- R92, steps 1 to 4, and R91: the printer as a HELLO finds it before a printing head is lost. -/
def hailed (n : Nat) (c : Capabilities) (s : State) : State :=
  clearMeter n (compareCapabilities n (greet n c (heard n (s.begin.setCommands n []))))

theorem takeHello_eq : takeHello n c (heard n (s.begin.setCommands n [])) = promotionCheck n (loseHead n (hailed n c s)) := rfl

theorem hailed_moves (n : Nat) (c : Capabilities) (s : State) : FleetMoves s.begin (hailed n c s) := by
  have emptied : FleetMoves s.begin (s.begin.setCommands n []) := (FleetMove.commands n [] _).once
  have heard : FleetMoves s.begin (heard n (s.begin.setCommands n [])) :=
    (emptied.tail (.printer (by rfl))).trans (removeCondition_moves n .unreachable _)
  have compared : FleetMoves s.begin (compareCapabilities n (greet n c (Machine.heard n (s.begin.setCommands n [])))) :=
    (heard.tail (.printer (by rfl))).trans (compareCapabilities_moves n _)
  exact compared.tail (.printer (by rfl))

/-- R91, R92: what a HELLO leaves of the record of its printer, which was p. -/
structure Hailed (n : Nat) (c : Capabilities) (p : Printer) (t : State) : Prop where
  presence : (t.printer n).presence = .present
  capabilities : (t.printer n).capabilities = some c
  meter : (t.printer n).meter = none
  surplus : (t.printer n).surplus = 0
  stalled : (t.printer n).stalled = none
  silence : (t.printer n).silence = some p.silenceLimit
  unreachable : (t.printer n).holds .unreachable = false
  mismatch : (t.printer n).holds .mismatch = !capabilitiesMatch p c

theorem Hailed.of_quiet {p : Printer} {b : Nat} (h : Hailed n c p s) (quiet : Quiet n [.supplyOut] b s t) : Hailed n c p t := by
  obtain ⟨presence, capabilities, meter, surplus, stalled, silence, unreachable, mismatch⟩ := h
  obtain ⟨q, a, d, o, st, own⟩ := quiet.own
  have held := fun k hk => quiet.holds k hk
  refine ⟨?_, ?_, ?_, ?_, ?_, ?_, (held _ (by decide)).trans unreachable, (held _ (by decide)).trans mismatch⟩ <;> rw [own]
  exacts [presence, capabilities, meter, surplus, stalled, silence]

/-- At most so many commands stand for the printer, and each is an EXPECT. -/
def Expecting (n b : Nat) (s : State) : Prop := (s.commands n).length ≤ b ∧ ∀ x ∈ s.commands n, x.IsExpect

theorem Expecting.of_quiet {K : List ConditionKind} {a b : Nat} (h : Expecting n a s) (quiet : Quiet n K b s t) :
    Expecting n (a + b) t := by
  obtain ⟨few, expects⟩ := h
  obtain ⟨mid, issued, more, expects'⟩ := quiet.commands
  refine ⟨?_, fun x hx => ?_⟩
  · rw [issued, List.length_append]
    omega
  · rw [issued] at hx
    exact (List.mem_append.1 hx).elim (expects x) (expects' x)

theorem Expecting.congr {b : Nat} (h : Expecting n b s) (flc : t.flc = s.flc) : Expecting n b t := by
  rw [Expecting, commands_congr flc]
  exact h

/-- R91: the report heard. -/
theorem heard_hello (n : Nat) (s : State) : let t := heard n (s.begin.setCommands n [])
    (∃ q a d o st, t.printer n = { s.printer n with
      queue := q, admin := a, conditions := d, supplyOut := o, stall := st, silence := some (s.printer n).silenceLimit }) ∧
    (t.printer n).holds .unreachable = false ∧ Expecting n 1 t := by
  intro t
  set u := (s.begin.setCommands n []).setPrinter n { s.printer n with silence := some (s.printer n).silenceLimit }
  have own : u.printer n = { s.printer n with silence := some (s.printer n).silenceLimit } :=
    (State.printer_setPrinter ..).trans (if_pos rfl)
  have empty : u.commands n = [] := (State.commands_setCommands ..).trans (if_pos rfl)
  have room : (u.commands n).length < 8 := by rw [empty]; exact Nat.zero_lt_succ _
  have quiet : Quiet n [.unreachable] 1 u t := removeCondition_quiet List.mem_cons_self room
  have few : Expecting n 0 u := by rw [Expecting, empty]; exact ⟨le_refl 0, nofun⟩
  obtain ⟨q, a, d, o, st, kept⟩ := quiet.own
  rw [own] at kept
  exact ⟨⟨q, a, d, o, st, kept⟩, not_holds_removeCondition (by decide) room, few.of_quiet quiet⟩

theorem hailed_hails (n : Nat) (c : Capabilities) (s : State) :
    Hailed n c (s.printer n) (hailed n c s) ∧ Expecting n 2 (hailed n c s) := by
  obtain ⟨⟨q, a, d, o, st, first⟩, reached, few⟩ := heard_hello n s
  rw [hailed]
  generalize heard n (s.begin.setCommands n []) = u at first reached few
  set g := greet n c u
  have own : g.printer n = { u.printer n with presence := .present, capabilities := some c } :=
    (State.printer_setPrinter ..).trans (if_pos rfl)
  have few : Expecting n 1 g := few.congr rfl
  have room : (g.commands n).length < 8 := Nat.lt_of_le_of_lt few.1 (by omega)
  have compared := compareCapabilities_quiet room
  have mismatch := holds_compareCapabilities (c := c) (by rw [own]) room
  have reached : ((compareCapabilities n g).printer n).holds .unreachable = false := by
    rw [compared.holds _ (by decide), own]
    exact reached
  have few := few.of_quiet compared
  obtain ⟨q', a', d', o', st', kept⟩ := compared.own
  rw [own, first] at kept
  have matched : capabilitiesMatch (g.printer n) c = capabilitiesMatch (s.printer n) c := by rw [own, first]; rfl
  rw [matched] at mismatch
  generalize compareCapabilities n g = v at mismatch reached few kept
  have last : (clearMeter n v).printer n = { v.printer n with meter := none, surplus := 0, stalled := none } :=
    (State.printer_setPrinter ..).trans (if_pos rfl)
  refine ⟨⟨?_, ?_, ?_, ?_, ?_, ?_, ?_, ?_⟩, few.congr rfl⟩ <;> rw [last]
  exacts [by rw [kept], by rw [kept], by rw [kept], reached, mismatch]

theorem capabilitiesMatch_iff (p : Printer) (colour : Bool) (lanes meter : Nat) :
    capabilitiesMatch p ⟨colour, lanes, meter⟩ = true ↔ colour = p.colour ∧ lanes = if p.colour = true then 4 else 1 := by
  simp [capabilitiesMatch]

/-- R156, R160: a HELLO is taken whatever the presence of its printer, and empties its command queue first. -/
theorem exec_hello {l : LinkFrame} {colour : Bool} {lanes meter : Nat} (on : s.phase ≠ .off) (check : l.checkOk = true)
    (hn : l.address < 64) (enrolled : (s.printer l.address).enrolled = true) (low : 1 ≤ lanes) (high : lanes ≤ 4)
    (fits : meter < 4294967296) : exec (.hello l colour lanes meter) s = .next
      (promotionCheck l.address (loseHead l.address (hailed l.address ⟨colour, lanes, meter⟩ s))) := by
  have enrolled' : (s.begin.printer l.address).enrolled = true := enrolled
  have ok : helloOk lanes meter = true := by
    simp only [helloOk, inRange, Bool.and_eq_true, decide_eq_true_eq]
    omega
  have taken : l.checkOk = true ∧ l.address < Config.printers ∧ helloOk lanes meter = true := ⟨check, hn, ok⟩
  have hello : ¬((s.begin.printer l.address).presence = .unknown ∧ ReportKind.hello ≠ .hello) := fun h => h.2 rfl
  rw [← takeHello_eq]
  show Host.Outcome.next (takeReport l .hello (helloOk lanes meter) _ s) = _
  rw [takeReport, if_neg on]
  dsimp only
  rw [if_neg (not_not.2 taken), if_neg (not_not.2 enrolled'), if_neg hello, if_pos rfl]

/-- R92, step 5: the printing head lost at a HELLO. -/
theorem hello_loses {k : Handle} (head : printingHead s n = some k) : let t := promotionCheck n (loseHead n (hailed n c s))
    k ∉ (t.printer n).queue ∧ ((s.job k.index).state = .active → EndedShort (s.job k.index) (t.job k.index)) ∧
      ((s.job k.index).state = .cancelling → EndedCancelled (s.job k.index) (t.job k.index)) := by
  intro t
  obtain ⟨kept, same⟩ := (hailed_moves n c s).printingHead (show printingHead s.begin n = some k from head)
  obtain ⟨-, few, -⟩ := hailed_hails n c s
  have same : (hailed n c s).job k.index = s.job k.index := same
  have lost : HeadLost n k (hailed n c s) (loseHead n (hailed n c s)) := by
    rw [loseHead, kept]
    exact endUnfinished_loses kept (Nat.lt_of_le_of_lt few (by omega))
  have job : t.job k.index = (loseHead n (hailed n c s)).job k.index :=
    (promotionCheck_calm n _).jobs k.index lost.unqueued
  obtain ⟨-, left, -, short, cancelled⟩ := lost
  rw [same] at short cancelled
  rw [job]
  exact ⟨fun listed => left ((promotionCheck_moves n _).queue n listed), short, cancelled⟩

/-- R92: HELLO of a printer without jobs, whose capabilities match. -/
theorem hello_plain (fits : capabilitiesMatch (s.printer n) c = true) (queue : (s.printer n).queue = [])
    (reached : (s.printer n).holds .unreachable = false) (matched : (s.printer n).holds .mismatch = false)
    (enrolled : (s.printer n).enrolled = true) : promotionCheck n (loseHead n (hailed n c s)) =
      (s.begin.setCommands n []).setPrinter n { s.printer n with
        silence := some (s.printer n).silenceLimit, presence := .present, capabilities := some c, meter := none
        surplus := 0, stalled := none } := by
  have own : ∀ (u : State) (p : Printer), (u.setPrinter n p).printer n = p :=
    fun _ _ => (State.printer_setPrinter ..).trans (if_pos rfl)
  set s₀ := s.begin.setCommands n []
  have plain : hailed n c s = s₀.setPrinter n { s.printer n with
      silence := some (s.printer n).silenceLimit, presence := .present, capabilities := some c, meter := none
      surplus := 0, stalled := none } := by
    have compared : compareCapabilities n (greet n c (heard n s₀)) = greet n c (heard n s₀) := by
      rw [heard_plain n s₀ (by exact reached), compareCapabilities, greet, own, own]
      dsimp only
      rw [Option.all_some, if_pos (by exact fits), removeCondition_absent]
      rw [own]
      exact matched
    rw [hailed, compared, clearMeter, greet, heard_plain n s₀ (by exact reached), own, own]
    rw [setPrinter_setPrinter _ (by exact enrolled), setPrinter_setPrinter _ (by exact enrolled)]
    rfl
  have empty : ((hailed n c s).printer n).queue = [] := by rw [plain, own]; exact queue
  have headless : printingHead (hailed n c s) n = none := by rw [printingHead, empty]
  rw [loseHead, headless]
  exact (promotionCheck_empty empty).trans plain

end

/-- Settles O50: the presence step and the comparison (`hailed_hails`), the head lost (`hello_loses`), and at most one EXPECT
of each of the promotion checks. -/
theorem helloMakesPresent : Obligations.HelloMakesPresent := by
  intro l colour lanes meter s _ on check hn enrolled low high small n p fits
  have matching := capabilitiesMatch_iff p colour lanes meter
  have taken := exec_hello (colour := colour) on check hn enrolled low high small
  obtain ⟨hails, few⟩ := hailed_hails n ⟨colour, lanes, meter⟩ s
  have lost := loseHead_quiet (Nat.lt_of_le_of_lt few.1 (by omega))
  have few := few.of_quiet lost
  have checked : Quiet n [.supplyOut] 1 _ _ := promotionCheck_quiet (Nat.lt_of_le_of_lt few.1 (by omega))
  obtain ⟨presence, capabilities, noMeter, surplus, stalled, silence, reached, mismatch⟩ :=
    (hails.of_quiet lost).of_quiet checked
  obtain ⟨-, expects⟩ := few.of_quiet checked
  refine ⟨⟨_, taken, presence, capabilities, noMeter, surplus, stalled, silence, reached, ?_, expects,
    fun h rest queue printing _ => ?_⟩, fun fit queue reached matched => ?_⟩
  · rw [mismatch, Bool.not_eq_true', ← Bool.not_eq_true]
    exact not_congr matching
  · exact hello_loses (printingHead_eq_some.2 ⟨⟨rest, queue⟩, (printing_iff _).2 printing⟩)
  · rw [taken, hello_plain (matching.2 fit) queue reached matched enrolled]
    rfl

end Sys2Proof.Machine

/-! UNENROLL (R87): the session closed, the callouts dropped, the lanes removed, the record cleared. -/

namespace Sys2Proof.Machine

section
variable {n : Nat} {s : State}

/-! ### The session (step 1) -/

theorem closePrinterSession_none (closed : s.session n = none) : closePrinterSession n s = s := by
  rw [closePrinterSession, closed]
  rfl

theorem session_closePrinterSession (n : Nat) (s : State) : (closePrinterSession n s).session n = none := by
  cases opened : s.session n with
  | none => rw [closePrinterSession_none opened, opened]
  | some x => rw [closePrinterSession, if_pos (by rw [opened]; rfl), session_closeSession, if_pos rfl]

/-- R159: SESSION_CLOSE joins the tail of a queue that has room. -/
theorem commands_closePrinterSession (opened : (s.session n).isSome = true) (room : (s.commands n).length < 8) :
    (closePrinterSession n s).commands n = s.commands n ++ [.sessionClose .printer] := by
  have room' : ((endSession n s).commands n).length < 8 := room
  rw [closePrinterSession, if_pos opened, closeSession, issue_room room', State.commands_setCommands, if_pos rfl]
  rfl

/-! ### The callouts (step 2, R151) -/

/-- No callout and no deferral names the printer. -/
def Uncalled (n : Nat) (s : State) : Prop := (∀ c ∈ s.cu.callouts, c.printer ≠ n) ∧ ∀ d ∈ s.cu.deferrals, d.printer ≠ n

theorem uncalled_iff : Uncalled n s ↔ ∀ key ∈ (standing s).map Prod.fst, key.1 ≠ n := by
  simp only [Uncalled, standing, List.map_append, List.map_map, List.mem_append, List.mem_map]
  constructor
  · rintro ⟨callouts, deferrals⟩ key (⟨c, hc, rfl⟩ | ⟨d, hd, rfl⟩)
    · exact callouts c hc
    · exact deferrals d hd
  · exact fun all => ⟨fun c hc => all _ (.inl ⟨c, hc, rfl⟩), fun d hd => all _ (.inr ⟨d, hd, rfl⟩)⟩

theorem Narrower.uncalled {t : State} (h : Narrower s t) (none : Uncalled n s) : Uncalled n t :=
  uncalled_iff.2 fun key hk => uncalled_iff.1 none key (h.keys.subset hk)

theorem dropCallouts_uncalled (n : Nat) (s : State) : Uncalled n (dropCallouts n s) := by
  refine (serveDeferrals_narrower _).uncalled ⟨fun c hc => ?_, fun d hd => ?_⟩
  · have kept : c ∈ s.cu.callouts.filter (fun c => c.printer ≠ n) := hc
    exact of_decide_eq_true (List.mem_filter.1 kept).2
  · have kept : d ∈ s.cu.deferrals.filter (fun d => d.printer ≠ n) := hd
    exact of_decide_eq_true (List.mem_filter.1 kept).2

theorem history_dropCallouts (n : Nat) (s : State) : (dropCallouts n s).history n = 0 := by
  rw [dropCallouts, State.history, (serveDeferrals_anyQueue _).history]
  exact (State.history_setHistory ..).trans (if_pos rfl)

theorem session_dropCallouts (n : Nat) (s : State) : (dropCallouts n s).session n = s.session n := by
  rw [State.session, (dropCallouts_calm n s).sessions, State.session]

theorem flc_dropCallouts (n : Nat) (s : State) : (dropCallouts n s).flc = s.flc := (serveDeferrals_frame _).2.1

/-! ### The lanes (step 3) -/

theorem removeLane_frame (n : Nat) (l : Lane) (s : State) : (removeLane n l s).ru = s.ru ∧ (removeLane n l s).cu = s.cu ∧
    (removeLane n l s).flc = s.flc := by
  obtain ⟨-, -, ru, -, cu, flc, -⟩ := returnClaim_frame n l s
  exact ⟨ru, cu, flc⟩

theorem removeLanes_frame (n : Nat) (s : State) : (removeLanes n s).ru = s.ru ∧ (removeLanes n s).cu = s.cu ∧
    (removeLanes n s).flc = s.flc :=
  foldl_keeps _ (fun s t => t.ru = s.ru ∧ t.cu = s.cu ∧ t.flc = s.flc) (fun _ => ⟨rfl, rfl, rfl⟩)
    (fun _ _ _ ⟨a1, a2, a3⟩ ⟨b1, b2, b3⟩ => ⟨b1.trans a1, b2.trans a2, b3.trans a3⟩)
    (fun s l => removeLane_frame n l s) Lane.all s

theorem lane_removeLanes (n : Nat) (s : State) (l : Lane) : (removeLanes n s).lane n l = none := by
  simp only [removeLanes, Lane.all, List.foldl_cons, List.foldl_nil, removeLane_lanes]
  cases l <;> simp

/-! ### The record (step 4, R142) -/

/-- All but grace records stand. -/
def GraceAlone (s t : State) : Prop := t.ft = s.ft ∧ t.se = s.se ∧ t.ru = s.ru ∧ t.flc = s.flc ∧
  t.cu.callouts = s.cu.callouts ∧ t.cu.deferrals = s.cu.deferrals ∧ t.cu.history = s.cu.history

theorem clearPrinter_kept (n : Nat) (s : State) : GraceAlone (s.setPrinter n Printer.cold) (clearPrinter n s) :=
  foldl_keeps (fun (s : State) k => s.setGrace n k .idle) GraceAlone (fun _ => ⟨rfl, rfl, rfl, rfl, rfl, rfl, rfl⟩)
    (fun _ _ _ ⟨a1, a2, a3, a4, a5, a6, a7⟩ ⟨b1, b2, b3, b4, b5, b6, b7⟩ =>
      ⟨b1.trans a1, b2.trans a2, b3.trans a3, b4.trans a4, b5.trans a5, b6.trans a6, b7.trans a7⟩)
    (fun _ _ => ⟨rfl, rfl, rfl, rfl, rfl, rfl, rfl⟩) _ _

theorem grace_idled (n : Nat) (ks : List ConditionKind) (s : State) (k : ConditionKind) :
    (ks.foldl (fun s k => s.setGrace n k .idle) s).grace n k = if k ∈ ks then .idle else s.grace n k := by
  induction ks generalizing s with
  | nil => rfl
  | cons x ks ih =>
    rw [List.foldl_cons, ih, State.grace_setGrace]
    by_cases first : k = x <;> simp [first]

theorem grace_clearPrinter (n : Nat) (s : State) {k : ConditionKind} (graced : k ≠ .supplyOut) :
    (clearPrinter n s).grace n k = .idle := by
  have listed : k ∈ ConditionKind.graced := by cases k <;> simp_all [ConditionKind.graced]
  rw [clearPrinter, grace_idled, if_pos listed]

/-! ### UNENROLL -/

/-- R87: the four steps. -/
def unenrolled (n : Nat) (s : State) : State := clearPrinter n (removeLanes n (dropCallouts n (closePrinterSession n s)))

/-- What an UNENROLL leaves: nothing of the printer but its command queue. -/
structure Unenrolled (n : Nat) (commands : List Command) (t : State) : Prop where
  printer : t.printer n = Printer.cold
  lanes : ∀ l, t.lane n l = none
  session : t.session n = none
  uncalled : Uncalled n t
  history : t.history n = 0
  grace : ∀ k, k ≠ .supplyOut → t.grace n k = .idle
  commands : t.commands n = commands

theorem unenrolled_clears (n : Nat) (s : State) :
    Unenrolled n ((closePrinterSession n s).commands n) (unenrolled n s) := by
  have closed := session_closePrinterSession n s
  rw [unenrolled]
  generalize closePrinterSession n s = c at closed
  have dropped := dropCallouts_uncalled n c
  have history := history_dropCallouts n c
  have session := (session_dropCallouts n c).trans closed
  have commands := commands_congr (flc_dropCallouts n c) n
  generalize dropCallouts n c = d at dropped history session commands
  have bare := lane_removeLanes n d
  obtain ⟨ru, cu, flc⟩ := removeLanes_frame n d
  generalize removeLanes n d = b at bare ru cu flc
  have kept := clearPrinter_kept n b
  have grace : ∀ k, k ≠ .supplyOut → (clearPrinter n b).grace n k = .idle := fun _ => grace_clearPrinter n b
  generalize clearPrinter n b = t at kept grace
  obtain ⟨ft, se, ru', flc', callouts, deferrals, history'⟩ := kept
  simp only [State.setPrinter_frame] at se ru' flc' callouts deferrals history'
  rw [cu] at callouts deferrals history'
  refine ⟨?_, fun l => ?_, ?_, ?_, ?_, grace, ?_⟩
  · rw [printer_congr ft, State.printer_setPrinter, if_pos rfl]
  · rw [lane_congr se, bare]
  · rw [session_congr (ru'.trans ru), session]
  · rw [Uncalled, callouts, deferrals]
    exact dropped
  · rw [State.history, history']
    exact history
  · rw [commands_congr (flc'.trans flc), commands]

theorem exec_unenroll {h : Head} (rd : Ready h (.unenroll n) s) (hn : n < 64) (enrolled : (s.printer n).enrolled = true)
    (out : (s.printer n).admin = .outOfService) : exec (.unenroll h n) s =
    .next (issueAnswer h (.unenroll n) (.accepted .none) (unenrolled n (atOwner h (.unenroll n) s))) := by
  refine (request_ready h _ _ s rd).trans ?_
  rw [onPrinter_enrolled hn rfl (by exact enrolled), if_neg (not_not.2 (by exact out)), accept, unenrolled]

theorem unenrollClears (h : Head) (n : Nat) (s : State) (rd : Ready h (.unenroll n) s) (hn : n < 64)
    (enrolled : (s.printer n).enrolled = true) :
    ((s.printer n).admin ≠ .outOfService →
      exec (.unenroll h n) s = .next (answered h (.unenroll n) (.refused .badState) s)) ∧
    ((s.printer n).admin = .outOfService →
      ∃ t, exec (.unenroll h n) s = .next t ∧ t.printer n = Printer.cold ∧ (∀ l, t.lane n l = none) ∧
        t.session n = none ∧ (∀ c ∈ t.cu.callouts, c.printer ≠ n) ∧ (∀ d ∈ t.cu.deferrals, d.printer ≠ n) ∧
        t.history n = 0 ∧ (∀ k, k ≠ .supplyOut → t.grace n k = .idle) ∧
        ((s.session n).isSome = true → (s.commands n).length < 8 →
          t.commands n = s.commands n ++ [.sessionClose .printer]) ∧
        (s.session n = none → t.commands n = s.commands n)) := by
  set s₀ := atOwner h (.unenroll n) s
  refine ⟨fun serving => ?_, fun out => ?_⟩
  · refine request_answers h _ _ s _ rd ?_
    rw [onPrinter_enrolled hn rfl (by exact enrolled), if_pos (by exact serving)]
    rfl
  · have taken := exec_unenroll rd hn enrolled out
    obtain ⟨printer, lanes, session, ⟨callouts, deferrals⟩, history, grace, commands⟩ := unenrolled_clears n s₀
    generalize unenrolled n s₀ = t at *
    refine ⟨_, taken, printer, lanes, session, callouts, deferrals, history, grace, fun opened room => ?_, fun closed => ?_⟩
    · have issued := commands_closePrinterSession (s := s₀) opened room
      rw [← commands] at issued
      exact issued
    · rw [closePrinterSession_none (s := s₀) closed] at commands
      exact commands

end

end Sys2Proof.Machine

/-! Re-enrolment (R85, R137): the lanes retired, made and moved to other types at a printer taken OUT_OF_SERVICE, which
promotes nothing and raises no SERVICE callout. -/

namespace Sys2Proof.Machine

/-! ### The work on callouts leaves a printer out of service aside (R145 to R151) -/

/-- Every deferral is of SUPPLY, so that serving the deferrals sends no job back. -/
def SupplyDeferred (s : State) : Prop := ∀ d ∈ s.cu.deferrals, d.kind = .supply

/-- The printer's record stands, every printer's conditions stand, and where SUPPLY alone is deferred every record does. -/
structure Aside (n : Nat) (s t : State) : Prop where
  own : t.printer n = s.printer n
  conditions : ∀ m, (t.printer m).conditions = (s.printer m).conditions
  calm : SupplyDeferred s → SupplyDeferred t ∧ ∀ m, t.printer m = s.printer m

section
variable {n : Nat} {s t u : State}

theorem Aside.trans (h : Aside n s t) (h' : Aside n t u) : Aside n s u where
  own := h'.own.trans h.own
  conditions m := (h'.conditions m).trans (h.conditions m)
  calm supply := by
    obtain ⟨supply, kept⟩ := h.calm supply
    obtain ⟨supply, kept'⟩ := h'.calm supply
    exact ⟨supply, fun m => (kept' m).trans (kept m)⟩

theorem Aside.of_ft (ft : t.ft = s.ft) (deferrals : ∀ d ∈ t.cu.deferrals, d ∈ s.cu.deferrals ∨ d.kind = .supply) :
    Aside n s t :=
  ⟨printer_congr ft n, fun m => by rw [printer_congr ft],
    fun supply => ⟨fun d hd => (deferrals d hd).elim (supply d) id, printer_congr ft⟩⟩

theorem Aside.refl (s : State) : Aside n s s := .of_ft rfl fun _ => .inl

/-- R139: what follows a new or extended callout of SUPPLY. -/
theorem announced_aside {c : CalloutUnit} (deferrals : c.deferrals = s.cu.deferrals) :
    Aside n s (raise .f .callout { s with cu := c }) := by
  obtain ⟨-, -, -, ft, -, -, cu, -⟩ := raise_frame .f .callout { s with cu := c }
  refine .of_ft ft fun d hd => .inl ?_
  rw [cu] at hd
  rw [← deferrals]
  exact hd

theorem makeSupply_aside (m : Nat) (items : List CalloutItem) (s : State) : Aside n s (makeCallout m .supply items s) :=
  announced_aside rfl

/-- R148: the head of the deferral list is no SERVICE callout of a printer out of service. -/
theorem serveDeferral_aside {d : Deferral} {rest : List Deferral} (out : (s.printer n).admin = .outOfService)
    (first : s.cu.deferrals = d :: rest) : Aside n s (serveDeferral d s) := by
  have left : ∀ x ∈ (s.setDeferrals (s.cu.deferrals.drop 1)).cu.deferrals, x ∈ s.cu.deferrals := fun x =>
    List.mem_of_mem_drop
  have dropped : Aside n s (s.setDeferrals (s.cu.deferrals.drop 1)) := .of_ft rfl fun x hx => .inl (left x hx)
  unfold serveDeferral
  dsimp only
  split
  · exact dropped
  · next served =>
    generalize s.setDeferrals (s.cu.deferrals.drop 1) = u at dropped served
    cases kind : d.kind with
    | supply =>
      exact dropped.trans (makeSupply_aside d.printer d.items u)
    | service =>
      have away : n ≠ d.printer := fun same => served ⟨kind, by rw [← same, dropped.own]; exact out⟩
      have only : OnlyQueue d.printer u (makeCallout d.printer .service d.items u) := makeCallout_onlyQueue .service d.items u
      refine ⟨(only.others n away).trans dropped.own,
        fun m => ((makeCallout_anyQueue _ _ _ _).conditions m).trans (dropped.conditions m), fun supply => ?_⟩
      rw [supply d (by rw [first]; exact List.mem_cons_self)] at kind
      cases kind

theorem serveDeferrals_aside (out : (s.printer n).admin = .outOfService) : Aside n s (serveDeferrals s) :=
  serveDeferrals_induct (Aside n s) (fun u d rest first _ h => h.trans (serveDeferral_aside (by rw [h.own]; exact out) first))
    s (.refl s)

theorem dropItem_aside (out : (s.printer n).admin = .outOfService) (m : Nat) (k : CalloutKind) (item : CalloutItem) :
    Aside n s (dropItem m k item s) := by
  have left : Aside n s (dropCalloutItem m k item s) := by
    obtain ⟨e, -⟩ | ⟨e, -⟩ | ⟨e, -⟩ := dropCalloutItem_cases m k item s <;> rw [e]
    · exact .refl s
    · exact Aside.trans (t := withoutCallout m k s) (.of_ft rfl fun _ => .inl) (serveDeferrals_aside out)
    · exact .of_ft rfl fun _ => .inl
  refine left.trans ⟨rfl, fun _ => rfl, fun supply => ⟨fun d hd => ?_, fun _ => rfl⟩⟩
  obtain ⟨d', hd', rfl⟩ := List.mem_map.1 (List.mem_filter.1 hd).1
  have kind : d'.kind = .supply := supply d' hd'
  split <;> exact kind

theorem deferSupply_aside (m : Nat) (items : List CalloutItem) (s : State) : Aside n s (deferRaise m .supply items s) := by
  unfold deferRaise
  split
  · refine ⟨rfl, fun _ => rfl, fun supply => ⟨fun d hd => ?_, fun _ => rfl⟩⟩
    obtain ⟨d', hd', rfl⟩ := List.mem_map.1 hd
    have kind : d'.kind = .supply := supply d' hd'
    split <;> exact kind
  · refine .of_ft rfl fun d hd => (List.mem_append.1 hd).imp_right fun last => ?_
    rw [List.mem_singleton.1 last]

/-- R147, R148: a SUPPLY raise. -/
theorem supplyRaise_aside (m : Nat) (l : Lane) (s : State) : Aside n s (supplyRaise m l s) := by
  unfold supplyRaise raiseItems
  split
  · dsimp only
    split
    · exact .refl s
    · exact announced_aside rfl
  · split
    · exact .refl s
    · split
      · exact makeSupply_aside m [.lane l] s
      · exact deferSupply_aside m [.lane l] s

end

/-! ### What the work on a lane leaves (R85, R137) -/

/-- SUPPLY_OUT is held while the SUPPLY_OUT list names a lane. -/
def Listed (n : Nat) (s : State) : Prop := (s.printer n).holds .supplyOut = true ↔ (s.printer n).supplyOut ≠ 0

/-- Of the printer's record the lane types, the SUPPLY_OUT list and the conditions SUPPLY_OUT and MISMATCH may have changed;
other printers keep their conditions, and their whole records where SUPPLY alone is deferred. -/
structure Shelved (n : Nat) (s t : State) : Prop where
  own : ∃ types c o, t.printer n = { s.printer n with laneTypes := types, conditions := c, supplyOut := o }
  others : ∀ m, m ≠ n → (t.printer m).conditions = (s.printer m).conditions
  calm : SupplyDeferred s → SupplyDeferred t ∧ ∀ m, m ≠ n → t.printer m = s.printer m
  conditions : ∀ k : ConditionKind, k ≠ .mismatch → k ≠ .supplyOut →
    Table.get none (t.printer n).conditions k.code = Table.get none (s.printer n).conditions k.code
  listed : Listed n s → Listed n t

/-- The lane keeps its type and its place in or out of the SUPPLY_OUT list, and comes to stand in no callout or deferral. -/
structure Spared (n : Nat) (l : Lane) (s t : State) : Prop where
  type : (t.lane n l).map LaneRecord.type = (s.lane n l).map LaneRecord.type
  bit : hasLane (t.printer n).supplyOut l = hasLane (s.printer n).supplyOut l
  stands : Stands t (n, .supply) (.lane l) → Stands s (n, .supply) (.lane l)

/-- Work on one lane of a printer, which spares the others. -/
structure LaneWork (n : Nat) (l : Lane) (s t : State) : Prop extends Shelved n s t where
  spared : ∀ l', l' ≠ l → Spared n l' s t

section
variable {n : Nat} {l : Lane} {s t u : State}

theorem Shelved.admin (h : Shelved n s t) : (t.printer n).admin = (s.printer n).admin := by
  obtain ⟨types, c, o, own⟩ := h.own
  rw [own]

theorem Shelved.trans (h : Shelved n s t) (h' : Shelved n t u) : Shelved n s u where
  own := by
    obtain ⟨_, _, _, first⟩ := h.own
    obtain ⟨types, c, o, second⟩ := h'.own
    exact ⟨types, c, o, by rw [second, first]⟩
  others m hm := (h'.others m hm).trans (h.others m hm)
  calm supply := by
    obtain ⟨supply, kept⟩ := h.calm supply
    obtain ⟨supply, kept'⟩ := h'.calm supply
    exact ⟨supply, fun m hm => (kept' m hm).trans (kept m hm)⟩
  conditions k mismatch out := (h'.conditions k mismatch out).trans (h.conditions k mismatch out)
  listed := h'.listed ∘ h.listed

theorem Aside.shelved (h : Aside n s t) : Shelved n s t where
  own := ⟨_, _, _, h.own⟩
  others m _ := h.conditions m
  calm supply := (h.calm supply).imp_right fun kept m _ => kept m
  conditions _ _ _ := by rw [h.own]
  listed := by rw [Listed, Listed, h.own]; exact id

theorem Shelved.of_ft (ft : t.ft = s.ft) (cu : t.cu = s.cu) : Shelved n s t :=
  (Aside.of_ft ft fun _ hd => .inl (by rw [← cu]; exact hd)).shelved

theorem Shelved.refl (s : State) : Shelved n s s := .of_ft rfl rfl

/-- The printer's lane types replaced. -/
theorem setTypes_shelved (types : PerLane (Option Nat)) (s : State) :
    Shelved n s (s.setPrinter n { s.printer n with laneTypes := types }) := by
  have own : (s.setPrinter n { s.printer n with laneTypes := types }).printer n = { s.printer n with laneTypes := types } :=
    (State.printer_setPrinter ..).trans (if_pos rfl)
  have others : ∀ m, m ≠ n → (s.setPrinter n { s.printer n with laneTypes := types }).printer m = s.printer m :=
    fun m hm => (State.printer_setPrinter ..).trans (if_neg hm)
  refine ⟨⟨_, _, _, own⟩, fun m hm => by rw [others m hm], fun supply => ⟨supply, others⟩, fun _ _ _ => ?_, ?_⟩
  · rw [own]
  · rw [Listed, Listed, own]
    exact id

theorem Spared.trans (h : Spared n l s t) (h' : Spared n l t u) : Spared n l s u :=
  ⟨h'.type.trans h.type, h'.bit.trans h.bit, h.stands ∘ h'.stands⟩

theorem Spared.refl (s : State) : Spared n l s s := ⟨rfl, rfl, id⟩

/-- What leaves the SUPPLY_OUT list and the Callout Unit spares a lane whose type stands. -/
theorem Spared.of_printer (type : (t.lane n l).map LaneRecord.type = (s.lane n l).map LaneRecord.type)
    (supplyOut : (t.printer n).supplyOut = (s.printer n).supplyOut) (cu : t.cu = s.cu) : Spared n l s t :=
  ⟨type, by rw [supplyOut], (stands_congr cu).1⟩

theorem LaneWork.trans (h : LaneWork n l s t) (h' : LaneWork n l t u) : LaneWork n l s u :=
  ⟨h.toShelved.trans h'.toShelved, fun l' other => (h.spared l' other).trans (h'.spared l' other)⟩

theorem LaneWork.refl (s : State) : LaneWork n l s s := ⟨.refl s, fun _ _ => .refl s⟩

/-- The types of lanes whose figures stand. -/
theorem type_of_figures {x y : Option LaneRecord} (same : y.map LaneRecord.figures = x.map LaneRecord.figures) :
    y.map LaneRecord.type = x.map LaneRecord.type := by
  have types : ∀ z : Option LaneRecord, z.map LaneRecord.type = (z.map LaneRecord.figures).map LaneRecord.type :=
    fun z => by cases z <;> rfl
  rw [types y, types x, same]

/-- Operations on lanes and the stock. -/
theorem LaneWork.of_stock (ft : t.ft = s.ft) (cu : t.cu = s.cu)
    (types : ∀ l', l' ≠ l → (t.lane n l').map LaneRecord.type = (s.lane n l').map LaneRecord.type) : LaneWork n l s t :=
  ⟨.of_ft ft cu, fun l' other => .of_printer (types l' other) (by rw [printer_congr ft]) cu⟩

theorem setLane_work (z : Option LaneRecord) (s : State) : LaneWork n l s (s.setLane n l z) :=
  .of_stock rfl rfl fun _ other => congrArg _ ((State.lane_setLane ..).trans (if_neg fun h => other h.2))

theorem returnClaim_work (s : State) : LaneWork n l s (returnClaim n l s) := by
  obtain ⟨-, -, -, ft, cu, -⟩ := returnClaim_frame n l s
  exact .of_stock ft cu fun l' _ => type_of_figures ((returnClaim_background n l s).lane n l')

theorem requestCartridge_work (s : State) : LaneWork n l s (requestCartridge n l s) := by
  obtain ⟨-, -, -, ft, cu, -⟩ := requestCartridge_frame n l s
  exact .of_stock ft cu fun l' _ => type_of_figures ((requestCartridge_background n l s).lane n l')

theorem trigger_work (u : Nat) (s : State) : LaneWork n l s (trigger u s) := by
  obtain ⟨-, -, -, ft, se, cu, -⟩ := trigger_frame u s
  exact .of_stock ft cu fun _ _ => by rw [lane_congr se]

theorem dropItem_spared (out : (s.printer n).admin = .outOfService) (k : CalloutKind) (item : CalloutItem) :
    Spared n l s (dropItem n k item s) :=
  ⟨type_of_figures ((dropItem_moves n k item s).figures n l), by rw [(dropItem_aside out n k item).own],
    (dropItem_narrower n k item s).stands⟩

theorem dropItem_work (out : (s.printer n).admin = .outOfService) (k : CalloutKind) (item : CalloutItem) :
    LaneWork n l s (dropItem n k item s) :=
  ⟨(dropItem_aside out n k item).shelved, fun _ _ => dropItem_spared out k item⟩

theorem supplyRaise_work (s : State) : LaneWork n l s (supplyRaise n l s) := by
  have aside : Aside n s (supplyRaise n l s) := supplyRaise_aside n l s
  refine ⟨aside.shelved, fun l' other => ⟨type_of_figures ((raiseItems_moves n .supply [.lane l] s).figures n l'),
    by rw [aside.own], fun stands => (raiseItems_stands n .supply [.lane l] s stands).resolve_right ?_⟩⟩
  rintro ⟨-, raised⟩
  injection List.mem_singleton.1 raised with same
  exact other same

/-! ### The SUPPLY_OUT list (R93) -/

theorem hasLane_withLane (o : LaneSet) (l l' : Lane) (on : Bool) :
    hasLane (withLane o l on) l' = if l' = l then on else hasLane o l' := by
  cases on <;> cases l <;> cases l' <;> simp [hasLane, withLane, Lane.code]

theorem promotionCheck_outOfService (out : (s.printer n).admin = .outOfService) : promotionCheck n s = s := by
  unfold promotionCheck
  split
  · rfl
  · exact if_neg (by simp [mayPromote, out])

/-- The kind alone has changed among the conditions, and is held or not; what stands in the Callout Unit is left. -/
structure Marked (n : Nat) (k : ConditionKind) (held : Bool) (s t : State) : Prop where
  own : ∃ c, t.printer n = { s.printer n with conditions := c }
  others : ∀ m, m ≠ n → t.printer m = s.printer m
  conditions : ∀ l : ConditionKind, l ≠ k →
    Table.get none (t.printer n).conditions l.code = Table.get none (s.printer n).conditions l.code
  holds : (t.printer n).holds k = held
  se : t.se = s.se
  callouts : t.cu.callouts = s.cu.callouts
  deferrals : t.cu.deferrals = s.cu.deferrals

section
variable {k : ConditionKind} {held : Bool}

theorem Marked.refl (holds : (s.printer n).holds k = held) : Marked n k held s s :=
  ⟨⟨_, rfl⟩, fun _ _ => rfl, fun _ _ => rfl, holds, rfl, rfl, rfl⟩

/-- The Callout Unit told, its callouts and deferrals standing. -/
theorem Marked.told (h : Marked n k held s t) (ft : u.ft = t.ft) (se : u.se = t.se)
    (callouts : u.cu.callouts = t.cu.callouts) (deferrals : u.cu.deferrals = t.cu.deferrals) : Marked n k held s u := by
  obtain ⟨own, others, conditions, holds, se', callouts', deferrals'⟩ := h
  simp only [← printer_congr ft] at own others conditions holds
  exact ⟨own, others, conditions, holds, se.trans se', callouts.trans callouts', deferrals.trans deferrals'⟩

theorem Marked.admin (h : Marked n k held s t) : (t.printer n).admin = (s.printer n).admin := by
  obtain ⟨c, own⟩ := h.own
  rw [own]

/-- The conditions' table replaced. -/
theorem setConditions_marked {c : Table (Option Onset)} (others : ∀ l : ConditionKind, l ≠ k →
    Table.get none c l.code = Table.get none (s.printer n).conditions l.code) :
    Marked n k (Table.get none c k.code).isSome s (s.setPrinter n { s.printer n with conditions := c }) := by
  have own : (s.setPrinter n { s.printer n with conditions := c }).printer n = { s.printer n with conditions := c } :=
    (State.printer_setPrinter ..).trans (if_pos rfl)
  refine ⟨⟨_, own⟩, fun m hm => (State.printer_setPrinter ..).trans (if_neg hm), fun l other => ?_, ?_, rfl, rfl, rfl⟩
  · rw [own]
    exact others l other
  · rw [own]
    rfl

theorem withoutCondition_marked (k : ConditionKind) (s : State) :
    Marked n k false s (s.setPrinter n ((s.printer n).withoutCondition k)) := by
  have marked := setConditions_marked (n := n) (s := s) (c := ((s.printer n).withoutCondition k).conditions)
    fun l other => (get_withoutCondition _ k l).trans (if_neg other)
  rw [get_withoutCondition, if_pos rfl] at marked
  exact marked

/-- R93, R145: a kind added at a printer out of service raises nothing. -/
theorem addCondition_marked (out : (s.printer n).admin = .outOfService) (k : ConditionKind) :
    Marked n k true s (addCondition n k s) := by
  cases held : (s.printer n).holds k with
  | true => rw [addCondition_held held]; exact .refl held
  | false =>
    have marked := setConditions_marked (n := n) (s := s) (c := ((s.printer n).withCondition k s.now).conditions)
      fun l other => (get_withCondition _ _ _ l).trans (if_neg other)
    rw [get_withCondition, if_pos rfl] at marked
    rw [addCondition_new held]
    change Marked n k true s (s.setPrinter n ((s.printer n).withCondition k s.now)) at marked
    have out' := marked.admin.trans out
    generalize s.setPrinter n ((s.printer n).withCondition k s.now) = u at marked out'
    unfold tellOnset
    dsimp only
    split
    · exact marked.told rfl rfl rfl rfl
    · split
      · exact marked.told rfl rfl rfl rfl
      · rw [serviceRaise, if_pos (by exact out')]
        exact marked.told rfl rfl rfl rfl

/-- R93, R144: beside the record, a kind cleared leaves the SERVICE callout. -/
theorem clearedAt_marked (n : Nat) (k : ConditionKind) (s : State) : ∃ u, Marked n k false s u ∧ (clearedAt n k s = u ∨
    (k ≠ .supplyOut ∧ clearedAt n k s = dropItem n .service (.condition k) u)) := by
  have marked : Marked n k false s (s.setPrinter n ((s.printer n).withoutCondition k)) := withoutCondition_marked k s
  by_cases graced : k = .supplyOut
  · refine ⟨_, marked, .inl ?_⟩
    rw [clearedAt, tellCleared, if_pos graced]
  · have idled := marked.told (u := (s.setPrinter n ((s.printer n).withoutCondition k)).setGrace n k .idle) rfl rfl rfl rfl
    exact ⟨_, idled, .inr ⟨graced, clearedAt_eq n s graced⟩⟩

theorem removeCondition_marked (out : (s.printer n).admin = .outOfService) (k : ConditionKind) :
    ∃ u, Marked n k false s u ∧ (removeCondition n k s = u ∨
      (k ≠ .supplyOut ∧ removeCondition n k s = dropItem n .service (.condition k) u)) := by
  cases held : (s.printer n).holds k with
  | false => exact ⟨s, .refl held, .inl (removeCondition_absent n k s held)⟩
  | true =>
    obtain ⟨u, marked, cases⟩ := clearedAt_marked n k s
    have out' := marked.admin.trans out
    have stays : ((clearedAt n k s).printer n).admin = .outOfService := by
      rcases cases with e | ⟨-, e⟩ <;> rw [e]
      · exact out'
      · rw [(dropItem_aside out' n _ _).own, out']
    rw [removeCondition_held held, promotionCheck_outOfService stays, ite_self]
    exact ⟨u, marked, cases⟩

end

/-- R93: of a printer out of service a lane joins or leaves the SUPPLY_OUT list. -/
theorem setSupplyOut_listed (out : (s.printer n).admin = .outOfService) (l : Lane) (on : Bool) :
    let t := setSupplyOut n l on s
    Shelved n s t ∧ Listed n t ∧ (t.printer n).supplyOut = withLane (s.printer n).supplyOut l on ∧ t.se = s.se ∧
      t.cu.callouts = s.cu.callouts ∧ t.cu.deferrals = s.cu.deferrals := by
  intro t
  set lanes := withLane (s.printer n).supplyOut l on
  set u := s.setPrinter n { s.printer n with supplyOut := lanes }
  have own : u.printer n = { s.printer n with supplyOut := lanes } := (State.printer_setPrinter ..).trans (if_pos rfl)
  have others : ∀ m, m ≠ n → u.printer m = s.printer m := fun m hm => (State.printer_setPrinter ..).trans (if_neg hm)
  have out' : (u.printer n).admin = .outOfService := by rw [own]; exact out
  obtain ⟨v, change, marked⟩ : ∃ v, (if lanes = 0 then removeCondition n .supplyOut u else addCondition n .supplyOut u) = v ∧
      Marked n .supplyOut (decide (lanes ≠ 0)) u v := by
    by_cases empty : lanes = 0
    · rw [if_pos empty, decide_eq_false (not_not.2 empty)]
      obtain ⟨v, marked, removed | ⟨graced, -⟩⟩ := removeCondition_marked out' .supplyOut
      · exact ⟨v, removed, marked⟩
      · exact absurd rfl graced
    · rw [if_neg empty, decide_eq_true empty]
      exact ⟨_, rfl, addCondition_marked out' .supplyOut⟩
  obtain ⟨⟨c, kept⟩, others', conditions, holds, se, callouts, deferrals⟩ := marked
  rw [own] at kept conditions
  have last : t = v := by
    have checked : t = promotionCheck n v := by rw [← change]; rfl
    rw [checked, promotionCheck_outOfService (by rw [kept]; exact out)]
  rw [last]
  have listed : Listed n v := by
    rw [Listed, holds, kept]
    exact decide_eq_true_iff
  have records : ∀ m, m ≠ n → v.printer m = s.printer m := fun m hm => (others' m hm).trans (others m hm)
  refine ⟨⟨⟨_, c, lanes, kept⟩, fun m hm => by rw [records m hm], fun supply => ⟨fun d hd => ?_, records⟩,
    fun k _ other => conditions k other, fun _ => listed⟩, listed, by rw [kept], se, callouts, deferrals⟩
  rw [deferrals] at hd
  exact supply d hd

theorem setSupplyOut_work (out : (s.printer n).admin = .outOfService) (on : Bool) :
    LaneWork n l s (setSupplyOut n l on s) := by
  obtain ⟨shelved, -, list, se, callouts, deferrals⟩ := setSupplyOut_listed out l on
  refine ⟨shelved, fun l' other => ⟨by rw [lane_congr se], by rw [list, hasLane_withLane, if_neg other], fun stands => ?_⟩⟩
  rw [stands_iff, callouts, deferrals] at stands
  exact stands_iff.2 stands

/-! ### One lane retired, made, or kept (R85) -/

theorem retireLane_some {x : LaneRecord} (present : s.lane n l = some x) : retireLane n l s =
    let u := dropItem n .supply (.lane l) (returnClaim n l s)
    (if hasLane (u.printer n).supplyOut l then setSupplyOut n l false u else u).setLane n l none := by
  rw [retireLane, present]

/-- R85: a lane retired stands nowhere, and SUPPLY_OUT is held while its list names a lane. -/
structure Retired (n : Nat) (l : Lane) (s t : State) : Prop where
  gone : t.lane n l = none
  bit : hasLane (t.printer n).supplyOut l = false
  listed : hasLane (s.printer n).supplyOut l = true → Listed n t
  unlisted : KeysApart s → ¬Stands t (n, .supply) (.lane l)

theorem retireLane_retires (out : (s.printer n).admin = .outOfService) {x : LaneRecord} (present : s.lane n l = some x) :
    LaneWork n l s (retireLane n l s) ∧ Narrower s (retireLane n l s) ∧ Retired n l s (retireLane n l s) := by
  have back := returnClaim_work (n := n) (l := l) s
  have same : (returnClaim n l s).printer n = s.printer n := printer_congr (returnClaim_frame n l s).2.2.2.1 n
  have cu : (returnClaim n l s).cu = s.cu := (returnClaim_frame n l s).2.2.2.2.1
  rw [retireLane_some present]
  dsimp only
  generalize returnClaim n l s = b at back same cu
  have out' : (b.printer n).admin = .outOfService := by rw [same]; exact out
  have kept : (dropItem n .supply (.lane l) b).printer n = s.printer n := (dropItem_aside out' n _ _).own.trans same
  have dropped := back.trans (dropItem_work out' .supply (.lane l))
  have narrower := (Narrower.of_cu cu).trans (dropItem_narrower n .supply (.lane l) b)
  have clear : KeysApart s → ¬Stands (dropItem n .supply (.lane l) b) (n, .supply) (.lane l) := fun apart =>
    dropItem_dropped n .supply (.lane l) ((Narrower.of_cu cu).keysApart apart)
  generalize dropItem n .supply (.lane l) b = u at kept dropped narrower clear
  have gone : ∀ v : State, (v.setLane n l none).lane n l = none := fun v =>
    (State.lane_setLane ..).trans (if_pos ⟨rfl, rfl⟩)
  rw [kept]
  split
  · next listed =>
    have work := setSupplyOut_work (l := l) (by rw [kept]; exact out) false
    obtain ⟨-, holds, list, -, callouts, deferrals⟩ := setSupplyOut_listed (by rw [kept]; exact out) l false
    have standing : standing (setSupplyOut n l false u) = standing u := by rw [standing, callouts, deferrals, standing]
    generalize setSupplyOut n l false u = v at work holds list standing
    refine ⟨(dropped.trans work).trans (setLane_work none v), ?_, gone v, ?_, fun _ => holds, ?_⟩
    · exact narrower.trans (.of_sublist (by exact standing ▸ List.Sublist.refl _))
    · exact (congrArg (hasLane · l) list).trans ((hasLane_withLane ..).trans (if_pos rfl))
    · intro apart stands
      refine clear apart ?_
      rw [Stands, ← standing]
      exact stands
  · next unlisted =>
    refine ⟨dropped.trans (setLane_work none u), narrower.trans (.of_cu rfl), gone u, ?_,
      fun listed => absurd listed unlisted, clear⟩
    exact (congrArg (fun p => hasLane p.supplyOut l) kept).trans (Bool.eq_false_iff.2 unlisted)

/-- R85: one lane under the new colour capability. -/
theorem reshapeLane_work (out : (s.printer n).admin = .outOfService) (e : Enrolment) (l : Lane) :
    LaneWork n l s (reshapeLane n e l s) ∧ Narrower s (reshapeLane n e l s) ∧
      ((reshapeLane n e l s).lane n l).isSome = (e.types.get l).isSome ∧
      ((s.lane n l).isSome = true → e.types.get l = none → Retired n l s (reshapeLane n e l s)) := by
  unfold reshapeLane
  split
  · next x present given =>
    obtain ⟨work, narrower, retired⟩ := retireLane_retires out present
    exact ⟨work, narrower, by rw [retired.gone, given]; rfl, fun _ _ => retired⟩
  · next ty absent given =>
    rw [makeLane_eq]
    refine ⟨setLane_work _ s, .of_cu rfl, ?_, fun some => ?_⟩
    · rw [State.lane_setLane, if_pos ⟨rfl, rfl⟩, given]
      rfl
    · rw [absent] at some
      cases some
  · next kept made =>
    refine ⟨.refl s, .refl s, ?_, fun some none => ?_⟩
    · cases lane : s.lane n l with
      | none => cases given : e.types.get l with
        | none => rfl
        | some ty => exact absurd given (made ty lane)
      | some x => cases given : e.types.get l with
        | none => exact absurd given (kept x lane)
        | some ty => rfl
    · obtain ⟨x, lane⟩ := Option.isSome_iff_exists.1 some
      exact absurd none (kept x lane)

/-! ### A lane moved to another type (R137) -/

/-- Work on one lane that keeps its type. -/
structure SteadyWork (n : Nat) (l : Lane) (s t : State) : Prop extends LaneWork n l s t where
  same : (t.lane n l).map LaneRecord.type = (s.lane n l).map LaneRecord.type

theorem SteadyWork.trans (h : SteadyWork n l s t) (h' : SteadyWork n l t u) : SteadyWork n l s u :=
  ⟨h.toLaneWork.trans h'.toLaneWork, h'.same.trans h.same⟩

theorem SteadyWork.of_figures (work : LaneWork n l s t)
    (figures : (t.lane n l).map LaneRecord.figures = (s.lane n l).map LaneRecord.figures) : SteadyWork n l s t :=
  ⟨work, type_of_figures figures⟩

theorem supplyOutEffect_work (out : (s.printer n).admin = .outOfService) (old new : LaneState) :
    LaneWork n l s (supplyOutEffect n l old new s) := by
  unfold supplyOutEffect
  split
  · exact setSupplyOut_work out true
  · split
    · exact setSupplyOut_work out false
    · exact .refl s

theorem calloutEffect_work (out : (s.printer n).admin = .outOfService) (old new : LaneState) :
    LaneWork n l s (calloutEffect n l old new s) := by
  unfold calloutEffect
  split
  · exact supplyRaise_work s
  · split
    · exact dropItem_work out _ _
    · exact .refl s

theorem claimEffect_work (old new : LaneState) (s : State) : LaneWork n l s (claimEffect n l old new s) := by
  unfold claimEffect
  split
  · exact returnClaim_work s
  · split
    · exact requestCartridge_work s
    · exact .refl s

theorem laneEffects_work (out : (s.printer n).admin = .outOfService) (old new : LaneState) :
    LaneWork n l s (laneEffects n l old new s) := by
  have listed := supplyOutEffect_work (l := l) out old new
  have called := listed.trans (calloutEffect_work (l := l) (by rw [listed.admin]; exact out) old new)
  exact called.trans (claimEffect_work old new _)

theorem recompute_work (out : (s.printer n).admin = .outOfService) : SteadyWork n l s (recompute n l s) := by
  refine .of_figures ?_ ((recompute_background n l s).lane n l)
  unfold recompute
  split
  · exact .refl s
  · dsimp only
    split
    · exact .refl s
    · exact (setLane_work _ s).trans (laneEffects_work (by exact out) _ _)

theorem capEstimate_work (s : State) : SteadyWork n l s (capEstimate n l s) := by
  unfold capEstimate
  split
  · exact ⟨.refl s, rfl⟩
  · next x present =>
    refine ⟨setLane_work _ s, ?_⟩
    rw [State.lane_setLane, if_pos ⟨rfl, rfl⟩, present]
    rfl

theorem claimIfShort_work (s : State) : SteadyWork n l s (claimIfShort n l s) := by
  unfold claimIfShort
  split
  · exact ⟨.refl s, rfl⟩
  · split
    · exact .of_figures (requestCartridge_work s) ((requestCartridge_background n l s).lane n l)
    · exact ⟨.refl s, rfl⟩

/-- R137, step 2. -/
theorem retypeLane_work (ty : Nat) (s : State) : LaneWork n l s (retypeLane n l ty s) ∧
    ((s.lane n l).isSome = true → ((retypeLane n l ty s).lane n l).map LaneRecord.type = some ty) := by
  have listed : LaneWork n l s (s.setPrinter n { s.printer n with
      laneTypes := (s.printer n).laneTypes.set l (some ty) }) :=
    ⟨setTypes_shelved _ s, fun _ _ => .of_printer rfl (by rw [State.printer_setPrinter, if_pos rfl]) rfl⟩
  refine ⟨listed.trans (setLane_work _ _), fun present => ?_⟩
  obtain ⟨x, present⟩ := Option.isSome_iff_exists.1 present
  rw [retypeLane, State.lane_setLane, if_pos ⟨rfl, rfl⟩, present]
  rfl

theorem changeLaneType_work (out : (s.printer n).admin = .outOfService) (ty : Nat) :
    LaneWork n l s (changeLaneType n l ty s) ∧
      ((s.lane n l).isSome = true → ((changeLaneType n l ty s).lane n l).map LaneRecord.type = some ty) := by
  unfold changeLaneType
  split
  · next absent => exact ⟨.refl s, fun present => by rw [absent] at present; cases present⟩
  · next x present =>
    split
    · next own => exact ⟨.refl s, fun _ => by rw [present, Option.map_some, own]⟩
    · have back := returnClaim_work (n := n) (l := l) s
      have stands : ((returnClaim n l s).lane n l).isSome = true := by
        rw [(returnClaim_gentle n l s).lanes n l, present]
        rfl
      obtain ⟨retyped, type⟩ := retypeLane_work (l := l) (n := n) ty (returnClaim n l s)
      have moved := back.trans retyped
      have type := type stands
      generalize retypeLane n l ty (returnClaim n l s) = u at moved type
      have capped := capEstimate_work (n := n) (l := l) u
      have computed := capped.trans (recompute_work (by rw [capped.admin, moved.admin]; exact out))
      have claimed := computed.trans (claimIfShort_work _)
      have ordered := claimed.trans (.of_figures (trigger_work ty _) (by rw [lane_congr (trigger_frame _ _).2.2.2.2.1]))
      exact ⟨moved.trans ordered.toLaneWork, fun _ => ordered.same.trans type⟩

/-- R85, R137: a lane kept takes the type given for it. -/
theorem retypeKept_work (out : (s.printer n).admin = .outOfService) (e : Enrolment) (l : Lane) :
    LaneWork n l s (retypeKept n e l s) ∧
      ((s.lane n l).isSome = (e.types.get l).isSome → ((retypeKept n e l s).lane n l).map LaneRecord.type = e.types.get l) ∧
      (e.types.get l = none → retypeKept n e l s = s) := by
  unfold retypeKept
  split
  · next ty given =>
    obtain ⟨work, type⟩ := changeLaneType_work (l := l) out ty
    exact ⟨work, fun same => by rw [given]; exact type (by rw [same, given]; rfl),
      fun none => by rw [given] at none; cases none⟩
  · next given =>
    refine ⟨.refl s, fun same => ?_, fun _ => rfl⟩
    rw [given] at same ⊢
    have absent : s.lane n l = none := Option.not_isSome_iff_eq_none.1 (by rw [same]; decide)
    rw [absent]
    rfl

/-! ### The lanes one after another -/

/-- What every lane's work keeps at a printer out of service, the work on the lanes keeps. -/
theorem foldl_outOfService {R : State → State → Prop} (refl : ∀ a, R a a) (trans : ∀ a b c, R a b → R b c → R a c)
    {f : State → Lane → State} {ls : List Lane} (step : ∀ l ∈ ls, ∀ a : State, (a.printer n).admin = .outOfService →
      Shelved n a (f a l) ∧ R a (f a l)) (s : State) (out : (s.printer n).admin = .outOfService) :
    Shelved n s (ls.foldl f s) ∧ R s (ls.foldl f s) := by
  induction ls generalizing s with
  | nil => exact ⟨.refl s, refl s⟩
  | cons l ls ih =>
    obtain ⟨shelved, kept⟩ := step l List.mem_cons_self s out
    obtain ⟨shelved', kept'⟩ := ih (fun x hx => step x (List.mem_cons_of_mem l hx)) (f s l) (by rw [shelved.admin]; exact out)
    exact ⟨shelved.trans shelved', trans _ _ _ kept kept'⟩

/-- Each lane's turn comes once. -/
theorem lane_turn (l : Lane) : ∃ before after, Lane.all = before ++ l :: after ∧ l ∉ before ∧ l ∉ after := by
  cases l
  · exact ⟨[], [.c, .m, .y], rfl, by decide, by decide⟩
  · exact ⟨[.k], [.m, .y], rfl, by decide, by decide⟩
  · exact ⟨[.k, .c], [.y], rfl, by decide, by decide⟩
  · exact ⟨[.k, .c, .m], [], rfl, by decide, by decide⟩

/-- R85: the lanes reshaped. -/
def reshaped (n : Nat) (e : Enrolment) (s : State) : State := Lane.all.foldl (fun s l => reshapeLane n e l s) s

/-- R85, R137: the lanes kept, moved to the types given. -/
def retyped (n : Nat) (e : Enrolment) (s : State) : State := Lane.all.foldl (fun s l => retypeKept n e l s) s

/-- A lane retired in its turn stays so, the work on the others sparing it. -/
theorem Spared.retired {a b : State} (before : Spared n l s a) (apart : KeysApart s → KeysApart a) (turn : Retired n l a b)
    (shelved : Shelved n b t) (after : Spared n l b t) : Retired n l s t where
  gone := by
    have type := after.type
    rw [turn.gone] at type
    exact Option.map_eq_none_iff.1 type
  bit := after.bit.trans turn.bit
  listed bit := shelved.listed (turn.listed (before.bit.trans bit))
  unlisted keys stands := turn.unlisted (apart keys) (after.stands stands)

section
variable (out : (s.printer n).admin = .outOfService) (e : Enrolment)
include out

theorem reshaped_shelved : Shelved n s (reshaped n e s) :=
  (foldl_outOfService (R := fun _ _ => True) (fun _ => trivial) (fun _ _ _ _ _ => trivial)
    (fun l _ _ out => ⟨(reshapeLane_work out e l).1.toShelved, trivial⟩) s out).1

/-- The reshaping of other lanes. -/
theorem reshapes_spared {ls : List Lane} (off : l ∉ ls) : let t := ls.foldl (fun s l => reshapeLane n e l s) s
    Shelved n s t ∧ Spared n l s t ∧ Narrower s t :=
  foldl_outOfService (R := fun s t => Spared n l s t ∧ Narrower s t) (fun a => ⟨.refl a, .refl a⟩)
    (fun _ _ _ ⟨h1, h2⟩ ⟨h3, h4⟩ => ⟨h1.trans h3, h2.trans h4⟩) (fun x hx _ out => by
      obtain ⟨work, narrower, -⟩ := reshapeLane_work out e x
      exact ⟨work.toShelved, work.spared l fun same => off (same ▸ hx), narrower⟩) s out

/-- R85: every lane is there as the enrolment says, and one no more there is retired. -/
theorem reshaped_lane (l : Lane) : ((reshaped n e s).lane n l).isSome = (e.types.get l).isSome ∧
    ((s.lane n l).isSome = true → e.types.get l = none → Retired n l s (reshaped n e s)) := by
  obtain ⟨before, after, all, off, off'⟩ := lane_turn l
  rw [reshaped, all, List.foldl_append, List.foldl_cons]
  obtain ⟨shelved, spared, narrower⟩ := reshapes_spared (l := l) out e off
  generalize before.foldl (fun s l => reshapeLane n e l s) s = a at shelved spared narrower
  have out' : (a.printer n).admin = .outOfService := by rw [shelved.admin]; exact out
  obtain ⟨work, -, made, retires⟩ := reshapeLane_work out' e l
  have out'' : ((reshapeLane n e l a).printer n).admin = .outOfService := by rw [work.admin]; exact out'
  obtain ⟨shelved', spared', -⟩ := reshapes_spared (l := l) out'' e off'
  generalize after.foldl (fun s l => reshapeLane n e l s) (reshapeLane n e l a) = t at shelved' spared'
  have same : ∀ {x y : Option LaneRecord}, y.map LaneRecord.type = x.map LaneRecord.type → y.isSome = x.isSome :=
    fun h => by rw [← Option.isSome_map (f := LaneRecord.type), h, Option.isSome_map]
  refine ⟨(same spared'.type).trans made, fun some none => ?_⟩
  exact spared.retired narrower.keysApart (retires (by rw [same spared.type]; exact some) none) shelved' spared'

theorem retyped_shelved : Shelved n s (retyped n e s) :=
  (foldl_outOfService (R := fun _ _ => True) (fun _ => trivial) (fun _ _ _ _ _ => trivial)
    (fun l _ _ out => ⟨(retypeKept_work out e l).1.toShelved, trivial⟩) s out).1

/-- A lane is spared where the others are moved to their types, and in its own turn where no type is given for it. -/
theorem retypes_spared {ls : List Lane} (off : l ∈ ls → e.types.get l = none) :
    let t := ls.foldl (fun s l => retypeKept n e l s) s
    Shelved n s t ∧ Spared n l s t :=
  foldl_outOfService (R := Spared n l) (fun a => .refl a) (fun _ _ _ => .trans) (fun x hx a out => by
      obtain ⟨work, -, skipped⟩ := retypeKept_work out e x
      by_cases own : l = x
      · rw [skipped (own ▸ off (own ▸ hx))]
        exact ⟨.refl a, .refl a⟩
      · exact ⟨work.toShelved, work.spared l own⟩) s out

/-- R137: every lane has the type given for it. -/
theorem retyped_lane (l : Lane) (made : (s.lane n l).isSome = (e.types.get l).isSome) :
    ((retyped n e s).lane n l).map LaneRecord.type = e.types.get l := by
  obtain ⟨before, after, all, off, off'⟩ := lane_turn l
  rw [retyped, all, List.foldl_append, List.foldl_cons]
  obtain ⟨shelved, spared⟩ := retypes_spared (l := l) out e fun listed => absurd listed off
  generalize before.foldl (fun s l => retypeKept n e l s) s = a at shelved spared
  have out' : (a.printer n).admin = .outOfService := by rw [shelved.admin]; exact out
  obtain ⟨work, type, -⟩ := retypeKept_work out' e l
  have out'' : ((retypeKept n e l a).printer n).admin = .outOfService := by rw [work.admin]; exact out'
  obtain ⟨-, spared'⟩ := retypes_spared (l := l) out'' e fun listed => absurd listed off'
  refine spared'.type.trans (type ?_)
  rw [← Option.isSome_map (f := LaneRecord.type), spared.type, Option.isSome_map, made]

end

/-! ### MISMATCH (R85, R92) -/

theorem Marked.shelved {held : Bool} (h : Marked n .mismatch held s t) : Shelved n s t := by
  obtain ⟨⟨c, own⟩, others, conditions, -, -, -, deferrals⟩ := h
  refine ⟨⟨_, c, _, own⟩, fun m hm => by rw [others m hm], fun supply => ⟨fun d hd => ?_, others⟩,
    fun k other _ => conditions k other, ?_⟩
  · rw [deferrals] at hd
    exact supply d hd
  · have holds : (t.printer n).holds .supplyOut = (s.printer n).holds .supplyOut := by
      rw [Printer.holds, conditions _ (by decide), Printer.holds]
    rw [Listed, Listed, holds, own]
    exact id

theorem Marked.spared {k : ConditionKind} {held : Bool} (h : Marked n k held s t) : Spared n l s t := by
  obtain ⟨⟨c, own⟩, -, -, -, se, callouts, deferrals⟩ := h
  refine ⟨by rw [lane_congr se], by rw [own], fun stands => ?_⟩
  rw [stands_iff, callouts, deferrals] at stands
  exact stands_iff.2 stands

/-- The capabilities reported do not match the enrolment. -/
def Mismatched (p : Printer) : Prop :=
  ∃ c, p.capabilities = some c ∧ ¬(c.colour = p.colour ∧ c.lanes = if p.colour = true then 4 else 1)

theorem mismatched_iff (p : Printer) : Mismatched p ↔ p.capabilities.all (capabilitiesMatch p) = false := by
  unfold Mismatched
  cases p.capabilities with
  | none => simp
  | some c => simp [capabilitiesMatch]

/-- What the comparison of the capabilities leaves at a printer out of service. -/
structure Compared (n : Nat) (s t : State) : Prop where
  shelved : Shelved n s t
  own : ∃ c, t.printer n = { s.printer n with conditions := c }
  spared : ∀ l, Spared n l s t
  mismatch : (t.printer n).holds .mismatch = true ↔ Mismatched (s.printer n)

theorem compareCapabilities_compares (out : (s.printer n).admin = .outOfService) :
    Compared n s (compareCapabilities n s) := by
  unfold compareCapabilities
  dsimp only
  split
  · next fits =>
    obtain ⟨u, marked, removed⟩ := removeCondition_marked out .mismatch
    have out' := marked.admin.trans out
    have fine : (u.printer n).holds .mismatch = true ↔ Mismatched (s.printer n) := by
      rw [mismatched_iff, fits, marked.holds, eq_comm]
    rcases removed with e | ⟨-, e⟩ <;> rw [e]
    · exact ⟨marked.shelved, marked.own, fun _ => marked.spared, fine⟩
    · have aside := dropItem_aside out' n .service (.condition .mismatch)
      refine ⟨marked.shelved.trans aside.shelved, ?_, fun l => marked.spared.trans (dropItem_spared out' _ _), ?_⟩
      · rw [aside.own]
        exact marked.own
      · rw [aside.own]
        exact fine
  · next unfit =>
    have marked := addCondition_marked out .mismatch
    refine ⟨marked.shelved, marked.own, fun _ => marked.spared, ?_⟩
    rw [mismatched_iff, Bool.eq_false_iff, marked.holds]
    exact ⟨fun _ => unfit, fun _ => rfl⟩

end

end Sys2Proof.Machine

/-! ENROL of an enrolled printer (R85, R92), and with UNENROLL (R87) the statement about both. -/

namespace Sys2Proof.Machine

section
variable {n : Nat} {e : Enrolment} {s t : State}

/-- R85: floor, group and colour capability replaced. -/
def described (n : Nat) (e : Enrolment) (s : State) : State :=
  s.setPrinter n { s.printer n with floor := e.floor, group := e.group, colour := e.colour }

/-- R85: the printer's lane types replaced. -/
def typed (n : Nat) (e : Enrolment) (s : State) : State := s.setPrinter n { s.printer n with laneTypes := e.types }

theorem reenrol_eq (n : Nat) (e : Enrolment) (s : State) :
    reenrol n e s = compareCapabilities n (typed n e (retyped n e (reshaped n e (described n e s)))) := rfl

theorem printer_described (n : Nat) (e : Enrolment) (s : State) (m : Nat) : (described n e s).printer m =
    if m = n then { s.printer n with floor := e.floor, group := e.group, colour := e.colour } else s.printer m :=
  State.printer_setPrinter ..

/-- What a re-enrolment leaves. -/
structure Reenrolled (n : Nat) (e : Enrolment) (s t : State) : Prop where
  own : ∃ conditions supplyOut, t.printer n = { s.printer n with
    floor := e.floor, group := e.group, colour := e.colour, laneTypes := e.types
    conditions := conditions, supplyOut := supplyOut }
  others : ∀ m, m ≠ n → (t.printer m).conditions = (s.printer m).conditions ∧
    (s.cu.deferrals = [] → t.printer m = s.printer m)
  conditions : ∀ k : ConditionKind, k ≠ .mismatch → k ≠ .supplyOut →
    Table.get none (t.printer n).conditions k.code = Table.get none (s.printer n).conditions k.code
  types : ∀ l, (t.lane n l).map LaneRecord.type = e.types.get l
  retired : ∀ l, (s.lane n l).isSome = true → e.types.get l = none → Retired n l s t
  mismatch : (t.printer n).holds .mismatch = true ↔
    ∃ c, (s.printer n).capabilities = some c ∧ ¬(c.colour = e.colour ∧ c.lanes = if e.colour = true then 4 else 1)

/-- Of the state described to the state re-enrolled. -/
theorem reenrol_shelves (out : (s.printer n).admin = .outOfService) :
    let t := compareCapabilities n (typed n e (retyped n e (reshaped n e s)))
    Shelved n s t ∧ (t.printer n).laneTypes = e.types ∧ (∀ l, (t.lane n l).map LaneRecord.type = e.types.get l) ∧
      (∀ l, (s.lane n l).isSome = true → e.types.get l = none → Retired n l s t) ∧
      ((t.printer n).holds .mismatch = true ↔ Mismatched (s.printer n)) := by
  have shaped := reshaped_shelved out e
  have lanes := reshaped_lane out e
  generalize reshaped n e s = u at shaped lanes
  have out' := shaped.admin.trans out
  have moved := retyped_shelved out' e
  have types := fun l => retyped_lane out' e l (lanes l).1
  have spared : ∀ l, e.types.get l = none → Spared n l u (retyped n e u) := fun l none =>
    (retypes_spared out' e fun _ => none).2
  generalize retyped n e u = v at moved types spared
  have out'' := moved.admin.trans out'
  have named : Shelved n v (typed n e v) := setTypes_shelved e.types v
  have own : (typed n e v).printer n = { v.printer n with laneTypes := e.types } :=
    (State.printer_setPrinter ..).trans (if_pos rfl)
  have spared' : ∀ l, Spared n l v (typed n e v) := fun l => .of_printer rfl (by rw [own]) rfl
  generalize typed n e v = w at named own spared'
  obtain ⟨shelved, ⟨c, record⟩, spared'', mismatch⟩ := compareCapabilities_compares (named.admin.trans out'')
  have first := (shaped.trans moved).trans named
  have rest := (moved.trans named).trans shelved
  refine ⟨first.trans shelved, ?_, fun l => ?_, fun l there none => ?_, ?_⟩
  · rw [record, own]
  · rw [(spared'' l).type, (spared' l).type, types l]
  · have after := ((spared l none).trans (spared' l)).trans (spared'' l)
    exact (Spared.refl s).retired id ((lanes l).2 there none) rest after
  · obtain ⟨_, _, _, kept⟩ := first.own
    rw [mismatch, kept]
    rfl

theorem reenrol_reenrols (out : (s.printer n).admin = .outOfService) : Reenrolled n e s (reenrol n e s) := by
  have own : (described n e s).printer n = { s.printer n with floor := e.floor, group := e.group, colour := e.colour } :=
    (printer_described n e s n).trans (if_pos rfl)
  have others : ∀ m, m ≠ n → (described n e s).printer m = s.printer m := fun m hm =>
    (printer_described n e s m).trans (if_neg hm)
  obtain ⟨shelved, laneTypes, types, retired, mismatch⟩ :=
    reenrol_shelves (e := e) (show ((described n e s).printer n).admin = .outOfService by rw [own]; exact out)
  rw [reenrol_eq]
  generalize compareCapabilities n _ = t at shelved laneTypes types retired mismatch
  obtain ⟨given, c, o, record⟩ := shelved.own
  rw [record] at laneTypes
  have laneTypes : given = e.types := laneTypes
  rw [own, laneTypes] at record
  refine ⟨⟨c, o, record⟩, fun m hm => ⟨?_, fun empty => ?_⟩, fun k mismatch out => ?_, types, fun l there none => ?_, ?_⟩
  · rw [shelved.others m hm, others m hm]
  · have supply : SupplyDeferred (described n e s) := fun d hd => by
      rw [show (described n e s).cu.deferrals = [] from empty] at hd
      cases hd
    rw [(shelved.calm supply).2 m hm, others m hm]
  · rw [shelved.conditions k mismatch out, own]
  · obtain ⟨gone, bit, listed, unlisted⟩ := retired l there none
    rw [own] at listed
    exact ⟨gone, bit, listed, unlisted⟩
  · rw [mismatch, own]
    rfl

/-! ### ENROL -/

theorem exec_reenrol {h : Head} (rd : Ready h (.enrol n e) s) (hn : n < 64) (enrolled : (s.printer n).enrolled = true)
    (ok : enrolmentOk e = true) :
    ((s.printer n).admin ≠ .outOfService →
      exec (.enrol h n e) s = .next (answered h (.enrol n e) (.refused .badState) s)) ∧
    ((s.printer n).admin = .outOfService → exec (.enrol h n e) s = .next (issueAnswer h (.enrol n e)
      (.accepted (.enrolled ((reenrol n e (atOwner h (.enrol n e) s)).printer n)))
      (reenrol n e (atOwner h (.enrol n e) s)))) := by
  have inRange : n < Config.printers ∧ enrolmentOk e = true := ⟨hn, ok⟩
  have known : ¬¬((atOwner h (.enrol n e) s).printer n).enrolled = true := not_not.2 enrolled
  refine ⟨fun serving => ?_, fun out => ?_⟩
  · refine request_answers h _ _ s _ rd ?_
    rw [if_neg (not_not.2 inRange), if_neg known, if_pos (by exact serving)]
    rfl
  · refine (request_ready h _ _ s rd).trans ?_
    rw [if_neg (not_not.2 inRange), if_neg known, if_neg (not_not.2 (by exact out))]
    rfl

end

/-- Settles O35: the work on the lanes (`reshaped_lane`, `retyped_lane`) and the comparison of the capabilities leave a
printer out of service what `Reenrolled` says; UNENROLL is `unenrollClears`. -/
theorem reEnrolAndUnenroll : Obligations.ReEnrolAndUnenroll := by
  refine ⟨fun h n e s _ rd hn enrolled floor group given absent => ?_, fun h n s _ rd hn enrolled =>
    unenrollClears h n s rd hn enrolled⟩
  obtain ⟨refuses, accepts⟩ := exec_reenrol rd hn enrolled (enrolmentOk_of floor group given absent)
  refine ⟨refuses, fun out => ?_⟩
  have done : Reenrolled n e (atOwner h (.enrol n e) s) (reenrol n e (atOwner h (.enrol n e) s)) :=
    reenrol_reenrols (by exact out)
  have taken := accepts out
  generalize reenrol n e (atOwner h (.enrol n e) s) = t at done taken
  obtain ⟨own, others, conditions, types, retired, mismatch⟩ := done
  refine ⟨_, taken, own, others, conditions, types, fun l colour mono there => ?_, mismatch⟩
  obtain ⟨gone, bit, listed, unlisted⟩ := retired l there (absent l colour mono)
  refine ⟨gone, bit, listed, fun law => ?_⟩
  have clear := unlisted (CalloutLaw.keysApart (s := s) law)
  exact ⟨fun c hc key holds => clear (stands_iff.2 (.inl ⟨c, hc, key, holds⟩)),
    fun d hd key holds => clear (stands_iff.2 (.inr ⟨d, hd, key, holds⟩))⟩

end Sys2Proof.Machine

/-! What no work on accounts, jobs, sessions, printers, callouts, commands and claims disturbs: the canonical form of the
tables, every lane's record but for its committed need and its claim, and every type's capacity and percentages. -/

namespace Sys2Proof.Machine

/-- A lane's record but for its committed need and its claim. -/
def LaneRecord.unclaimed (x : LaneRecord) : LaneRecord := { x with committed := 0, allocation := false, waiting := false }

/-- The tables stay in the canonical form; every lane's record, but for its committed need and its claim, every type's capacity
and percentages, and the two limits of the estimator stand. -/
structure Undisturbed (s t : State) : Prop where
  canonical : Canonical s → Canonical t
  lane : ∀ n l, (t.lane n l).map LaneRecord.unclaimed = (s.lane n l).map LaneRecord.unclaimed
  types : SettingsKept s t
  tolerance : t.se.tolerance = s.se.tolerance
  rebaseLimit : t.se.rebaseLimit = s.se.rebaseLimit

section
variable {s t u : State} {n : Nat} {l : Lane}

theorem Undisturbed.refl (s : State) : Undisturbed s s := ⟨id, fun _ _ => rfl, .refl s, rfl, rfl⟩

theorem Undisturbed.trans (h : Undisturbed s t) (h' : Undisturbed t u) : Undisturbed s u where
  canonical := h'.canonical ∘ h.canonical
  lane n l := (h'.lane n l).trans (h.lane n l)
  types := h.types.trans h'.types
  tolerance := h'.tolerance.trans h.tolerance
  rebaseLimit := h'.rebaseLimit.trans h.rebaseLimit

theorem Undisturbed.foldl {α : Type} {f : State → α → State} (step : ∀ a x, Undisturbed a (f a x)) (l : List α) (s : State) :
    Undisturbed s (l.foldl f s) :=
  foldl_keeps f Undisturbed .refl (fun _ _ _ => .trans) step l s

/-- An update of other groups than the estimator's and the stock's. -/
theorem Undisturbed.of_groups (canonical : Canonical s → Canonical t) (se : t.se = s.se) (su : t.su = s.su) :
    Undisturbed s t :=
  ⟨canonical, fun n l => by rw [lane_congr se], .of_su su, by rw [se], by rw [se]⟩

/-! ### Updates of one record -/

theorem canonical_setFinishedList (h : Canonical s) (m : Nat) (q : List Handle) : Canonical (s.setFinishedList m q) := by
  obtain ⟨h1, h2, h3, h4, h5⟩ := h
  exact ⟨h1, h2, h3, Table.wf_set _ _ _ _ h4, h5⟩

theorem canonical_setGrace (h : Canonical s) (m : Nat) (k : ConditionKind) (g : Grace) : Canonical (s.setGrace m k g) := by
  obtain ⟨h1, h2, h3, h4, h5, h6, h7, h8, h9, h10⟩ := h
  exact ⟨h1, h2, h3, h4, h5, h6, h7, h8, Table.wf_set _ _ _ _ h9, h10⟩

theorem canonical_setHistory (h : Canonical s) (m : Nat) (k : KindSet) : Canonical (s.setHistory m k) := by
  obtain ⟨h1, h2, h3, h4, h5, h6, h7, h8, h9, h10, h11⟩ := h
  exact ⟨h1, h2, h3, h4, h5, h6, h7, h8, h9, Table.wf_set _ _ _ _ h10, h11⟩

theorem canonical_setCommands (h : Canonical s) (a : Nat) (q : List Command) : Canonical (s.setCommands a q) := by
  obtain ⟨h1, h2, h3, h4, h5, h6, h7, h8, h9, h10, h11, h12⟩ := h
  exact ⟨h1, h2, h3, h4, h5, h6, h7, h8, h9, h10, Table.wf_set _ _ _ _ h11, h12⟩

theorem canonical_setStray (h : Canonical s) (a : Nat) (x : Option Stray) : Canonical (s.setStray a x) := by
  obtain ⟨h1, h2, h3, h4, h5, h6, h7, h8, h9, h10, h11, h12⟩ := h
  exact ⟨h1, h2, h3, h4, h5, h6, h7, h8, h9, h10, h11, Table.wf_set _ _ _ _ h12⟩

theorem setAccount_undisturbed (i : Nat) (a : Account) (s : State) : Undisturbed s (s.setAccount i a) :=
  .of_groups (fun h => canonical_setAccount h i a) rfl rfl

theorem setTenant_undisturbed (m : Nat) (x : Tenant) (s : State) : Undisturbed s (s.setTenant m x) :=
  .of_groups (fun h => canonical_setTenant h m x) rfl rfl

theorem setJob_undisturbed (i : Nat) (j : Job) (s : State) : Undisturbed s (s.setJob i j) :=
  .of_groups (fun h => canonical_setJob h i j) rfl rfl

theorem setFinishedList_undisturbed (m : Nat) (q : List Handle) (s : State) : Undisturbed s (s.setFinishedList m q) :=
  .of_groups (fun h => canonical_setFinishedList h m q) rfl rfl

theorem setSession_undisturbed (m : Nat) (x : Option Session) (s : State) : Undisturbed s (s.setSession m x) :=
  .of_groups (fun h => canonical_setSession h m x) rfl rfl

theorem setPrinter_undisturbed (m : Nat) (p : Printer) (s : State) : Undisturbed s (s.setPrinter m p) :=
  .of_groups (fun h => canonical_setPrinter h m p) rfl rfl

theorem setGrace_undisturbed (m : Nat) (k : ConditionKind) (g : Grace) (s : State) : Undisturbed s (s.setGrace m k g) :=
  .of_groups (fun h => canonical_setGrace h m k g) rfl rfl

theorem setHistory_undisturbed (m : Nat) (k : KindSet) (s : State) : Undisturbed s (s.setHistory m k) :=
  .of_groups (fun h => canonical_setHistory h m k) rfl rfl

theorem setCommands_undisturbed (a : Nat) (q : List Command) (s : State) : Undisturbed s (s.setCommands a q) :=
  .of_groups (fun h => canonical_setCommands h a q) rfl rfl

theorem setStray_undisturbed (a : Nat) (x : Option Stray) (s : State) : Undisturbed s (s.setStray a x) :=
  .of_groups (fun h => canonical_setStray h a x) rfl rfl

theorem raise_undisturbed (p : PortName) (k : NoticeKind) (s : State) : Undisturbed s (raise p k s) :=
  .of_groups (by simp [Canonical]) (by simp) (by simp)

theorem raiseTenant_undisturbed (m : Nat) (k : NoticeKind) (s : State) : Undisturbed s (raiseTenant m k s) :=
  raise_undisturbed _ _ s

/-- A lane's record replaced by one that differs in its committed need and its claim alone. -/
theorem setLane_undisturbed {z : Option LaneRecord}
    (same : z.map LaneRecord.unclaimed = (s.lane n l).map LaneRecord.unclaimed) : Undisturbed s (s.setLane n l z) where
  canonical h := canonical_setLane h n l z
  lane m l' := by
    rw [State.lane_setLane]
    split
    · next own => rw [same, own.1, own.2]
    · rfl
  types := .of_su rfl
  tolerance := rfl
  rebaseLimit := rfl

theorem setLane_some_undisturbed {x y : LaneRecord} (present : s.lane n l = some x) (same : y.unclaimed = x.unclaimed) :
    Undisturbed s (s.setLane n l (some y)) :=
  setLane_undisturbed (by rw [present, Option.map_some, Option.map_some, same])

theorem setType_undisturbed {m : Nat} {r : CartridgeType} (kept : SettingsKept s (s.setType m r)) :
    Undisturbed s (s.setType m r) :=
  ⟨fun h => canonical_setType h m r, fun _ _ => rfl, kept, rfl, rfl⟩

end

/-! ### The Account Unit's arithmetic (section 1.4), job entries (R48 to R58) -/

section
variable {s t : State}

theorem Adjusted.undisturbed {o : Nat} {f : PageClass → Nat → Nat} (h : Adjusted o f s t) : Undisturbed s t :=
  .of_groups h.canonical h.se h.su

theorem returnReservation_undisturbed (j : Job) (s : State) : Undisturbed s (returnReservation j s) :=
  (returnReservation_adjusted j s).undisturbed

theorem removeFromLists_undisturbed (k : Handle) (s : State) : Undisturbed s (removeFromLists k s) :=
  .of_groups (canonical_removeFromLists k) rfl rfl

theorem lowerLive_undisturbed (i : Nat) (s : State) : Undisturbed s (lowerLive i s) := setAccount_undisturbed _ _ s

theorem enterFinal_undisturbed (i : Nat) (f : JobState) (r : EndReason) (s : State) : Undisturbed s (enterFinal i f r s) := by
  unfold enterFinal
  dsimp only
  refine .trans ?_ (raiseTenant_undisturbed _ _ _)
  refine .trans ?_ (setFinishedList_undisturbed _ _ _)
  have entered := (setJob_undisturbed i { s.job i with
    state := f, endReason := some r, finished := s.now, reservation := none, needs := none } s).trans
    (lowerLive_undisturbed (s.job i).owner _)
  split
  · exact entered.trans (removeFromLists_undisturbed _ _)
  · exact entered

theorem returnToHeld_undisturbed (i : Nat) (s : State) : Undisturbed s (returnToHeld i s) := by
  unfold returnToHeld
  dsimp only
  split
  · exact enterFinal_undisturbed _ _ _ s
  · exact (setJob_undisturbed _ _ s).trans (raiseTenant_undisturbed _ _ _)

theorem freeEntry_undisturbed (i : Nat) (s : State) : Undisturbed s (freeEntry i s) :=
  (setFinishedList_undisturbed _ _ s).trans (setJob_undisturbed _ _ _)

theorem rollover_undisturbed (m : Nat) (s : State) : Undisturbed s (rollover m s) := by
  have rolled : Undisturbed s (rollAccounts m s) := .of_groups (fun h => by
    obtain ⟨h1, h2⟩ := h
    refine ⟨?_, h2⟩
    unfold rollAccounts
    dsimp only
    exact Table.wf_mapAll _ _ _ h1) rfl rfl
  exact rolled.trans ((setTenant_undisturbed _ _ _).trans (raiseTenant_undisturbed _ _ _))

theorem reloadTimer_undisturbed (m : Nat) (s : State) : Undisturbed s (reloadTimer m s) := setTenant_undisturbed _ _ s

end

/-! ### Orders and claims (chapter 7) -/

section
variable {s : State}

theorem setOrders_undisturbed (q : List Order) (s : State) : Undisturbed s (s.setOrders q) :=
  ⟨id, fun _ _ => rfl, fun _ => ⟨rfl, rfl, rfl⟩, rfl, rfl⟩

theorem setDeferredTypes_undisturbed (q : List Nat) (s : State) : Undisturbed s (s.setDeferredTypes q) :=
  ⟨id, fun _ _ => rfl, fun _ => ⟨rfl, rfl, rfl⟩, rfl, rfl⟩

theorem raiseOrder_undisturbed (u : Nat) (s : State) : Undisturbed s (raiseOrder u s) := by
  unfold raiseOrder
  dsimp only
  refine .trans ?_ (raise_undisturbed _ _ _)
  refine .trans (t := { s with su := { s.su with orders := _, orderCounter := _ } }) ?_
    (setType_undisturbed (setType_settingsKept (by rfl) (by rfl) (by rfl)))
  exact ⟨id, fun _ _ => rfl, fun _ => ⟨rfl, rfl, rfl⟩, rfl, rfl⟩

theorem trigger_undisturbed (u : Nat) (s : State) : Undisturbed s (trigger u s) := by
  unfold trigger
  dsimp only
  split
  · split
    · exact raiseOrder_undisturbed u s
    · split
      · exact .refl s
      · exact setDeferredTypes_undisturbed _ s
  · split
    · exact setDeferredTypes_undisturbed _ s
    · exact .refl s

theorem serveDeferredTypes_undisturbed (s : State) : Undisturbed s (serveDeferredTypes s) := by
  refine .foldl (fun a u => ?_) _ s
  split
  · exact (setDeferredTypes_undisturbed _ a).trans (trigger_undisturbed u _)
  · exact .refl a

theorem dropOrder_undisturbed (o : Order) (s : State) : Undisturbed s (dropOrder o s) :=
  (setType_undisturbed (setType_settingsKept (by rfl) (by rfl) (by rfl))).trans (setOrders_undisturbed _ _)

/-- A type's figures and one lane's claim moved. -/
theorem moveClaim_undisturbed {n : Nat} {l : Lane} {r : CartridgeType} {x y : LaneRecord} (present : s.lane n l = some x)
    (same : y.unclaimed = x.unclaimed) (kept : SettingsKept s (s.setType y.type r)) : Undisturbed s (moveClaim n l r y s) :=
  (setType_undisturbed kept).trans (setLane_some_undisturbed present same)

theorem serveWaitersN_undisturbed (u fuel : Nat) (s : State) : Undisturbed s (serveWaitersN u fuel s) := by
  induction fuel generalizing s with
  | zero => exact .refl s
  | succ fuel ih =>
    rw [serveWaitersN_succ]
    split
    · exact .refl s
    · split
      · refine .trans (.trans (setType_undisturbed (setType_settingsKept (by rfl) (by rfl) (by rfl))) (setLane_undisturbed ?_)) (ih _)
        rw [Option.map_map]
        rfl
      · exact .refl s

theorem serveWaiters_undisturbed (u : Nat) (s : State) : Undisturbed s (serveWaiters u s) := serveWaitersN_undisturbed u _ s

theorem requestCartridge_undisturbed (n : Nat) (l : Lane) (s : State) : Undisturbed s (requestCartridge n l s) := by
  unfold requestCartridge
  split
  · exact .refl s
  · next x present =>
    refine .trans ?_ (trigger_undisturbed _ _)
    split
    · exact moveClaim_undisturbed (y := { x with allocation := true }) present rfl (setType_settingsKept (by rfl) (by rfl) (by rfl))
    · exact moveClaim_undisturbed (y := { x with waiting := true }) present rfl (setType_settingsKept (by rfl) (by rfl) (by rfl))

theorem returnClaim_undisturbed (n : Nat) (l : Lane) (s : State) : Undisturbed s (returnClaim n l s) := by
  rw [returnClaim_eq]
  split
  · exact .refl s
  · next x present =>
    split
    · refine .trans ?_ (trigger_undisturbed _ _)
      exact (moveClaim_undisturbed present (by rfl) (setType_settingsKept (by rfl) (by rfl) (by rfl))).trans (serveWaiters_undisturbed _ _)
    · exact .refl s

theorem claimIfShort_undisturbed (n : Nat) (l : Lane) (s : State) : Undisturbed s (claimIfShort n l s) := by
  unfold claimIfShort
  split
  · exact .refl s
  · split
    · exact requestCartridge_undisturbed n l s
    · exact .refl s

end

/-! ### Dispatch queues and callouts (R89, R94, R102, R139 to R151) -/

section
variable {s : State}

theorem drainingTest_undisturbed (n : Nat) (s : State) : Undisturbed s (drainingTest n s) := by
  unfold drainingTest
  dsimp only
  split
  · exact (setPrinter_undisturbed _ _ s).trans (raise_undisturbed _ _ _)
  · exact .refl s

theorem changeCommitted_undisturbed (n : Nat) (needs : PerLane Nat) (f : Nat → Nat → Nat) (l : Lane) (s : State) :
    Undisturbed s (changeCommitted n needs f l s) :=
  setLane_undisturbed (by rw [Option.map_map]; rfl)

theorem addNeeds_undisturbed (n : Nat) (needs : PerLane Nat) (s : State) : Undisturbed s (addNeeds n needs s) :=
  .foldl (fun a l => changeCommitted_undisturbed n needs _ l a) _ s

theorem returnNeeds_undisturbed (n : Nat) (j : Job) (s : State) : Undisturbed s (returnNeeds n j s) := by
  unfold returnNeeds
  split
  · exact .refl s
  · exact .foldl (fun a l => changeCommitted_undisturbed n _ _ l a) _ s

theorem leaveQueue_undisturbed (n : Nat) (k : Handle) (s : State) : Undisturbed s (leaveQueue n k s) :=
  setPrinter_undisturbed _ _ s

theorem requeueJob_undisturbed (n : Nat) (k : Handle) (s : State) : Undisturbed s (requeueJob n k s) :=
  (((returnReservation_undisturbed _ s).trans (returnNeeds_undisturbed n _ _)).trans (leaveQueue_undisturbed n k _)).trans
    (returnToHeld_undisturbed _ _)

theorem requeueJobs_undisturbed (n : Nat) (which : Job → Bool) (s : State) : Undisturbed s (requeueJobs n which s) := by
  refine .foldl (fun a k => ?_) _ s
  dsimp only
  split
  · exact requeueJob_undisturbed n k a
  · exact .refl a

/-- An update of the callout queue and the deferral list. -/
theorem callouts_undisturbed {c : CalloutUnit} (grace : c.grace = s.cu.grace) (history : c.history = s.cu.history) :
    Undisturbed s { s with cu := c } :=
  .of_groups (fun h => by
    obtain ⟨h1, h2, h3, h4, h5, h6, h7, h8, h9, h10, h11⟩ := h
    exact ⟨h1, h2, h3, h4, h5, h6, h7, h8, by rw [grace]; exact h9, by rw [history]; exact h10, h11⟩) rfl rfl

theorem announceCallout_undisturbed (n : Nat) (k : CalloutKind) (s : State) : Undisturbed s (announceCallout n k s) := by
  have told := raise_undisturbed .f .callout s
  cases k with
  | service => exact told.trans ((requeueJobs_undisturbed n _ _).trans (drainingTest_undisturbed n _))
  | supply => exact told

theorem makeCallout_undisturbed (n : Nat) (k : CalloutKind) (items : List CalloutItem) (s : State) :
    Undisturbed s (makeCallout n k items s) :=
  .trans (callouts_undisturbed (by rfl) (by rfl))
    (announceCallout_undisturbed n k _)

theorem raiseItems_undisturbed (n : Nat) (k : CalloutKind) (items : List CalloutItem) (s : State) :
    Undisturbed s (raiseItems n k items s) := by
  unfold raiseItems
  split
  · dsimp only
    split
    · exact .refl s
    · exact (callouts_undisturbed (by rfl) (by rfl)).trans (announceCallout_undisturbed n k _)
  · split
    · exact .refl s
    · split
      · exact makeCallout_undisturbed n k items s
      · unfold deferRaise
        split <;> exact callouts_undisturbed rfl rfl

theorem serviceRaise_undisturbed (n : Nat) (kinds : List ConditionKind) (s : State) :
    Undisturbed s (serviceRaise n kinds s) := by
  unfold serviceRaise
  split
  · exact .refl s
  · exact raiseItems_undisturbed n _ _ s

theorem serveDeferrals_undisturbed (s : State) : Undisturbed s (serveDeferrals s) := by
  refine .foldl (fun a d => ?_) _ s
  split
  · unfold serveDeferral
    dsimp only
    have taken : Undisturbed a (a.setDeferrals (a.cu.deferrals.drop 1)) := callouts_undisturbed rfl rfl
    split
    · exact taken
    · exact taken.trans (makeCallout_undisturbed _ _ _ _)
  · exact .refl a

theorem dropItem_undisturbed (n : Nat) (k : CalloutKind) (item : CalloutItem) (s : State) :
    Undisturbed s (dropItem n k item s) := by
  refine .trans (t := dropCalloutItem n k item s) ?_ (callouts_undisturbed rfl rfl)
  unfold dropCalloutItem
  split
  · exact .refl s
  · split
    · split
      · exact (callouts_undisturbed (by rfl) (by rfl)).trans (serveDeferrals_undisturbed _)
      · exact callouts_undisturbed rfl rfl
    · exact .refl s

end

/-! ### Conditions, commands and promotion (R91, R93, R95, R143, R144, R159, R160) -/

section
variable {s : State}

theorem tellOnset_undisturbed (n : Nat) (k : ConditionKind) (s : State) : Undisturbed s (tellOnset n k s) := by
  have noted := setHistory_undisturbed n (s.history n ||| k.only) s
  unfold tellOnset
  dsimp only
  split
  · exact noted
  · split
    · exact noted.trans (setGrace_undisturbed _ _ _ _)
    · exact (noted.trans (setGrace_undisturbed _ _ _ _)).trans (serviceRaise_undisturbed n _ _)

theorem addCondition_undisturbed (n : Nat) (k : ConditionKind) (s : State) : Undisturbed s (addCondition n k s) := by
  unfold addCondition
  dsimp only
  split
  · exact .refl s
  · exact (setPrinter_undisturbed _ _ s).trans (tellOnset_undisturbed n k _)

theorem silenceRunOut_undisturbed (n : Nat) (s : State) : Undisturbed s (silenceRunOut n s) :=
  (setPrinter_undisturbed _ _ s).trans (addCondition_undisturbed n _ _)

theorem issue_undisturbed (n : Nat) (c : Command) (s : State) : Undisturbed s (issue n c s) := by
  unfold issue
  dsimp only
  split
  · exact setCommands_undisturbed _ _ s
  · exact (silenceRunOut_undisturbed n s).trans (setCommands_undisturbed _ _ _)

theorem promotionCheck_undisturbed (n : Nat) (s : State) : Undisturbed s (promotionCheck n s) := by
  unfold promotionCheck
  split
  · exact .refl s
  · split
    · exact (((setJob_undisturbed _ _ s).trans (setPrinter_undisturbed _ _ _)).trans (issue_undisturbed n _ _)).trans
        (raiseTenant_undisturbed _ _ _)
    · exact .refl s

theorem removeCondition_undisturbed (n : Nat) (k : ConditionKind) (s : State) : Undisturbed s (removeCondition n k s) := by
  have told : ∀ a, Undisturbed a (tellCleared n k a) := fun a => by
    unfold tellCleared
    split
    · exact .refl a
    · exact (setGrace_undisturbed _ _ _ a).trans (dropItem_undisturbed n _ _ _)
  unfold removeCondition
  dsimp only
  split
  · have cleared := (setPrinter_undisturbed n { s.printer n with
      conditions := Table.set none (s.printer n).conditions k.code none } s).trans (told _)
    split
    · exact cleared.trans (promotionCheck_undisturbed n _)
    · exact cleared
  · exact .refl s

theorem setSupplyOut_undisturbed (n : Nat) (l : Lane) (out : Bool) (s : State) : Undisturbed s (setSupplyOut n l out s) := by
  have listed := setPrinter_undisturbed n { s.printer n with supplyOut := withLane (s.printer n).supplyOut l out } s
  unfold setSupplyOut
  dsimp only
  refine .trans ?_ (promotionCheck_undisturbed n _)
  split
  · exact listed.trans (removeCondition_undisturbed n _ _)
  · exact listed.trans (addCondition_undisturbed n _ _)

theorem detachRequeue_undisturbed (m : Nat) (s : State) : Undisturbed s (detachRequeue m s) :=
  .foldl (fun a n => ((requeueJobs_undisturbed n _ a).trans (promotionCheck_undisturbed n _)).trans
    (drainingTest_undisturbed n _)) _ s

theorem afterEnd_undisturbed (n : Nat) (s : State) : Undisturbed s (afterEnd n s) :=
  (promotionCheck_undisturbed n s).trans (drainingTest_undisturbed n _)

theorem compareCapabilities_undisturbed (n : Nat) (s : State) : Undisturbed s (compareCapabilities n s) := by
  unfold compareCapabilities
  dsimp only
  split
  · exact removeCondition_undisturbed n _ s
  · exact addCondition_undisturbed n _ s

theorem heard_undisturbed (n : Nat) (s : State) : Undisturbed s (heard n s) :=
  (setPrinter_undisturbed _ _ s).trans (removeCondition_undisturbed n _ _)

end

/-! ### The effects of a lane's change of state (R111) -/

section
variable {n : Nat} {l : Lane} {old new : LaneState}

theorem supplyOutEffect_undisturbed (s : State) : Undisturbed s (supplyOutEffect n l old new s) := by
  unfold supplyOutEffect
  split
  · exact setSupplyOut_undisturbed n l true s
  · split
    · exact setSupplyOut_undisturbed n l false s
    · exact .refl s

theorem calloutEffect_undisturbed (s : State) : Undisturbed s (calloutEffect n l old new s) := by
  unfold calloutEffect
  split
  · exact raiseItems_undisturbed n _ _ s
  · split
    · exact dropItem_undisturbed n _ _ s
    · exact .refl s

theorem claimEffect_undisturbed (s : State) : Undisturbed s (claimEffect n l old new s) := by
  unfold claimEffect
  split
  · exact returnClaim_undisturbed n l s
  · split
    · exact requestCartridge_undisturbed n l s
    · exact .refl s

theorem laneEffects_undisturbed (s : State) : Undisturbed s (laneEffects n l old new s) :=
  (supplyOutEffect_undisturbed s).trans ((calloutEffect_undisturbed _).trans (claimEffect_undisturbed _))

end

end Sys2Proof.Machine

/-! R110 as a debt: `Fits due s` says that every lane's state is the one its figures give, but for the lanes listed in `due`,
whose figures have changed and whose state is still to be computed again. A change of figures adds a lane to the list, and
`recompute` takes it off. -/

namespace Sys2Proof.Machine

/-- The tables are canonical, and every lane of printers 0..63 but those still due has the state its figures give. -/
structure Fits (due : List LaneName) (s : State) : Prop where
  canonical : Canonical s
  fits : ∀ n l x, n < 64 → ⟨n, l⟩ ∉ due → s.lane n l = some x → StateFits x (s.ctype x.type)

theorem fits_nil_iff (s : State) : Fits [] s ↔ Canonical s ∧ LaneLaw s :=
  ⟨fun h => ⟨h.canonical, fun n l x hn => h.fits n l x hn List.not_mem_nil⟩,
    fun h => ⟨h.1, fun n l x hn _ => h.2 n l x hn⟩⟩

section
variable {s t : State} {due : List LaneName} {n : Nat} {l : Lane}

theorem LaneRecord.type_of_unclaimed {x y : LaneRecord} (same : y.unclaimed = x.unclaimed) : y.type = x.type := by
  have type := congrArg LaneRecord.type same
  exact type

/-- R109, R110: a lane's state and the state its figures give do not turn on its claim. -/
theorem stateFits_of_unclaimed {x y : LaneRecord} {ty : CartridgeType} (same : y.unclaimed = x.unclaimed)
    (h : StateFits x ty) : StateFits y ty := by
  rw [stateFits_iff] at h ⊢
  have state := congrArg LaneRecord.state same
  have given := congrArg (laneState · ty) same
  exact state.trans (h.trans given.symm)

theorem SettingsKept.stateFits (h : SettingsKept s t) {x : LaneRecord} {u : Nat} (fits : StateFits x (s.ctype u)) :
    StateFits x (t.ctype u) := by
  rw [stateFits_iff] at fits ⊢
  rw [h.laneState, fits]

theorem Undisturbed.present {x : LaneRecord} (v : Undisturbed s t) (present : s.lane n l = some x) :
    ∃ y, t.lane n l = some y ∧ y.unclaimed = x.unclaimed := by
  have same := v.lane n l
  rw [present] at same
  exact Option.map_eq_some_iff.1 same

theorem Undisturbed.absent (v : Undisturbed s t) (absent : s.lane n l = none) : t.lane n l = none := by
  have same := v.lane n l
  rw [absent] at same
  exact Option.map_eq_none_iff.1 same

theorem Undisturbed.fits (v : Undisturbed s t) (h : Fits due s) : Fits due t where
  canonical := v.canonical h.canonical
  fits n l y hn off now := by
    cases was : s.lane n l with
    | none => rw [v.absent was] at now; cases now
    | some x =>
      obtain ⟨z, found, same⟩ := v.present was
      obtain rfl : z = y := Option.some.inj (found.symm.trans now)
      rw [LaneRecord.type_of_unclaimed same]
      exact stateFits_of_unclaimed same (v.types.stateFits (h.fits n l x hn off was))

/-- An update that leaves every lane and every type. -/
theorem Fits.of_tables (h : Fits due s) (canonical : Canonical s → Canonical t) (lanes : t.se.lanes = s.se.lanes)
    (types : t.su.types = s.su.types) : Fits due t where
  canonical := canonical h.canonical
  fits n l x hn off now := by
    have lane : t.lane n l = s.lane n l := by rw [State.lane, lanes, State.lane]
    have ctype : t.ctype x.type = s.ctype x.type := by rw [State.ctype, types, State.ctype]
    rw [ctype]
    exact h.fits n l x hn off (lane.symm.trans now)

/-! ### A lane falls due, and is settled -/

/-- A lane's record written that fits, unless the lane is due anyway. -/
theorem Fits.setLane (h : Fits due s) {z : Option LaneRecord}
    (own : n < 64 → ⟨n, l⟩ ∉ due → ∀ y, z = some y → StateFits y (s.ctype y.type)) : Fits due (s.setLane n l z) where
  canonical := canonical_setLane h.canonical n l z
  fits m l' y hm off now := by
    rw [State.lane_setLane] at now
    split at now
    · next here =>
      obtain ⟨rfl, rfl⟩ := here
      exact own hm off y now
    · exact h.fits m l' y hm off now

theorem Fits.setLane_due (h : Fits due s) (owed : ⟨n, l⟩ ∈ due) (z : Option LaneRecord) : Fits due (s.setLane n l z) :=
  h.setLane fun _ off => absurd owed off

theorem Fits.mono {due' : List LaneName} (h : Fits due s) (sub : due ⊆ due') : Fits due' s :=
  ⟨h.canonical, fun n l x hn off => h.fits n l x hn fun owed => off (sub owed)⟩

/-- A lane whose figures change falls due. -/
theorem Fits.setLane_cons (h : Fits due s) (z : Option LaneRecord) : Fits (⟨n, l⟩ :: due) (s.setLane n l z) :=
  (h.mono (List.subset_cons_self _ _)).setLane_due List.mem_cons_self z

/-- A lane that fits is due no longer. -/
theorem Fits.settled (h : Fits (⟨n, l⟩ :: due) s) (own : ∀ x, s.lane n l = some x → StateFits x (s.ctype x.type)) :
    Fits due s where
  canonical := h.canonical
  fits m l' x hm off now := by
    by_cases here : (⟨m, l'⟩ : LaneName) = ⟨n, l⟩
    · cases here
      exact own x now
    · exact h.fits m l' x hm (fun owed => (List.mem_cons.1 owed).elim here off) now

/-- Lanes settled one after the other. -/
theorem Fits.foldl {f : State → LaneName → State} (step : ∀ w due s, Fits (w :: due) s → Fits due (f s w))
    (ws : List LaneName) (s : State) (h : Fits ws s) : Fits [] (ws.foldl f s) := by
  induction ws generalizing s with
  | nil => exact h
  | cons w ws ih => exact ih _ (step w ws s h)

/-! ### States computed again (R110, R112) -/

/-- A lane's record with the state its figures give. -/
def LaneRecord.restated (x : LaneRecord) (ty : CartridgeType) : LaneRecord := { x with state := laneState x ty }

theorem restated_fits (x : LaneRecord) (ty : CartridgeType) : StateFits (x.restated ty) ty :=
  (stateFits_iff _ _).2 rfl

/-- R110: a lane that fits already is left alone; another is written anew, and the effects of R111 leave it so. -/
theorem recompute_cases (n : Nat) (l : Lane) (s : State) :
    (recompute n l s = s ∧ ∀ x, s.lane n l = some x → StateFits x (s.ctype x.type)) ∨
    ∃ x, s.lane n l = some x ∧ x.state ≠ laneState x (s.ctype x.type) ∧
      recompute n l s = laneEffects n l x.state (laneState x (s.ctype x.type))
        (s.setLane n l (some (x.restated (s.ctype x.type)))) := by
  unfold recompute
  cases present : s.lane n l with
  | none => exact .inl ⟨rfl, nofun⟩
  | some x =>
    dsimp only
    split
    · next same =>
      refine .inl ⟨rfl, fun y now => ?_⟩
      obtain rfl : x = y := Option.some.inj now
      exact (stateFits_iff _ _).2 same.symm
    · next changed => exact .inr ⟨x, rfl, Ne.symm changed, rfl⟩

theorem Fits.restate (h : Fits (⟨n, l⟩ :: due) s) (x : LaneRecord) :
    Fits due (s.setLane n l (some (x.restated (s.ctype x.type)))) := by
  refine Fits.settled (n := n) (l := l) (h.setLane_due List.mem_cons_self _) fun y now => ?_
  rw [State.lane_setLane, if_pos ⟨rfl, rfl⟩, Option.some.injEq] at now
  rw [← now]
  exact restated_fits x _

theorem Fits.recompute (h : Fits (⟨n, l⟩ :: due) s) : Fits due (recompute n l s) := by
  obtain ⟨same, fits⟩ | ⟨x, -, -, changed⟩ := recompute_cases n l s
  · rw [same]
    exact h.settled fits
  · rw [changed]
    exact (laneEffects_undisturbed _).fits (h.restate x)

theorem Fits.reconcileLane (h : Fits (⟨n, l⟩ :: due) s) : Fits due (reconcileLane n l s) := by
  unfold Machine.reconcileLane
  split
  · next absent => exact h.settled fun x now => by rw [absent] at now; cases now
  · next x _ => exact (laneEffects_undisturbed _).fits (h.restate x)

/-! ### Deductions and readings, cartridges installed (R115 to R119) -/

theorem Fits.deduct (h : Fits due s) (n : Nat) (l : Lane) (pages weight : Nat) : Fits due (deduct n l pages weight s) := by
  unfold Machine.deduct
  split
  · exact h
  · next x present =>
    dsimp only
    split
    · next same =>
      obtain ⟨flag, confirmed, -, type, state⟩ := deductedLane_lower x pages weight
      refine h.setLane fun hn off y now => ?_
      obtain rfl : deductedLane x pages weight = y := Option.some.inj now
      have was := (stateFits_iff _ _).1 (h.fits n l x hn off present)
      rw [stateFits_iff, state, type, was]
      unfold laneState effectiveLevel
      rw [flag, confirmed, same]
    · exact (h.setLane_cons _).recompute

theorem Fits.deductPages (h : Fits due s) (n : Nat) (pages : PerClass Nat) (kClass : Nat) (colourClass : Option Nat) :
    Fits due (deductPages n pages kClass colourClass s) := by
  unfold Machine.deductPages Lane.all
  simp only [List.foldl_cons, List.foldl_nil]
  exact (((h.deduct ..).deduct ..).deduct ..).deduct ..

theorem Fits.takeReading (h : Fits due s) (n : Nat) (l : Lane) (e : LaneReading) : Fits due (takeReading n l e s) := by
  unfold Machine.takeReading
  split
  · exact h
  · exact (h.setLane_cons _).recompute

theorem Fits.takeLevel (h : Fits due s) (n : Nat) (r : PerLane LaneReading) : Fits due (takeLevel n r s) := by
  unfold Machine.takeLevel Lane.all
  simp only [List.foldl_cons, List.foldl_nil]
  exact (((h.takeReading ..).takeReading ..).takeReading ..).takeReading ..

theorem Fits.settleInstalled (h : Fits due s) (owed : ⟨n, l⟩ ∈ due) : Fits due (settleInstalled n l s) := by
  have counted : ∀ {u : Nat} {r : CartridgeType}, SettingsKept s (s.setType u r) → Fits due (s.setType u r) :=
    fun kept => (setType_undisturbed kept).fits h
  unfold Machine.settleInstalled
  split
  · exact h
  · dsimp only
    split
    · exact (counted (setType_settingsKept (by rfl) (by rfl) (by rfl))).setLane_due owed _
    · split
      · exact (counted (setType_settingsKept (by rfl) (by rfl) (by rfl))).setLane_due owed _
      · exact (raise_undisturbed _ _ _).fits (h.setLane_due owed _)

theorem Fits.install (h : Fits due s) (n : Nat) (l : Lane) : Fits due (install n l s) := by
  unfold Machine.install
  split
  · exact h
  · exact (trigger_undisturbed _ _).fits ((h.setLane_cons _).settleInstalled List.mem_cons_self).recompute

/-! ### Lanes made, removed and moved to another type (R85, R87, R107, R137) -/

theorem Fits.makeLane (h : Fits due s) (n : Nat) (l : Lane) (type : Nat) : Fits due (makeLane n l type s) :=
  h.setLane fun _ _ y now => by
    rw [← Option.some.inj now]
    exact restated_fits (newLane type (s.ctype type).capacity) _

theorem Fits.unsetLane (h : Fits due s) (n : Nat) (l : Lane) : Fits due (s.setLane n l none) := h.setLane fun _ _ => nofun

theorem Fits.removeLane (h : Fits due s) (n : Nat) (l : Lane) : Fits due (removeLane n l s) :=
  ((returnClaim_undisturbed n l s).fits h).unsetLane n l

theorem Fits.retireLane (h : Fits due s) (n : Nat) (l : Lane) : Fits due (retireLane n l s) := by
  unfold Machine.retireLane
  split
  · exact h
  · have dropped := (dropItem_undisturbed n .supply (.lane l) _).fits ((returnClaim_undisturbed n l s).fits h)
    refine Fits.unsetLane ?_ n l
    split
    · exact (setSupplyOut_undisturbed n l false _).fits dropped
    · exact dropped

theorem Fits.capEstimate (h : Fits due s) (owed : ⟨n, l⟩ ∈ due) : Fits due (capEstimate n l s) := by
  unfold Machine.capEstimate
  split
  · exact h
  · exact h.setLane_due owed _

theorem Fits.changeLaneType (h : Fits due s) (n : Nat) (l : Lane) (type : Nat) : Fits due (changeLaneType n l type s) := by
  unfold Machine.changeLaneType
  split
  · exact h
  · split
    · exact h
    · have retyped : Fits (⟨n, l⟩ :: due) (retypeLane n l type (Machine.returnClaim n l s)) :=
        ((setPrinter_undisturbed n _ _).fits ((returnClaim_undisturbed n l s).fits h)).setLane_cons _
      have settled := (retyped.capEstimate List.mem_cons_self).recompute
      exact (trigger_undisturbed type _).fits ((claimIfShort_undisturbed n l _).fits settled)

/-! ### A type's settings changed (R125) -/

theorem laneOfNumber_code (n : Nat) (l : Lane) : laneOfNumber (4 * n + l.code) = ⟨n, l⟩ := by
  have printer : ∀ c, c < 4 → (4 * n + c) / 4 = n := fun c hc => by omega
  have lane : ∀ c, c < 4 → (4 * n + c) % 4 = c := fun c hc => by omega
  unfold laneOfNumber
  cases l <;> rw [printer _ (by decide), lane _ (by decide)] <;> rfl

/-- Every lane of a type is among the lanes whose states are computed again. -/
theorem mem_lanesOfType {x : LaneRecord} (present : s.lane n l = some x) : ⟨n, l⟩ ∈ lanesOfType s x.type := by
  have listed := Table.mem_of_get_ne none (4 * n + l.code) s.se.lanes (by rw [show Table.get _ _ _ = _ from present]; nofun)
  rw [show Table.get _ _ _ = _ from present] at listed
  rw [← laneOfNumber_code]
  exact List.mem_map_of_mem (List.mem_filter.2 ⟨listed, by simp⟩)

theorem Fits.setType (h : Fits [] s) (u : Nat) (r : CartridgeType) : Fits (lanesOfType s u) (s.setType u r) where
  canonical := canonical_setType h.canonical u r
  fits n l x hn off now := by
    have other : x.type ≠ u := fun same => off (same ▸ mem_lanesOfType now)
    rw [State.ctype_setType, if_neg other]
    exact h.fits n l x hn List.not_mem_nil now

theorem Fits.applyType (h : Fits [] s) (u : Nat) (c : TypeChanges) : Fits [] (applyType u c s) := by
  unfold Machine.applyType
  dsimp only
  refine (trigger_undisturbed u _).fits ?_
  split
  · exact Fits.foldl (fun w _ _ due => (due.capEstimate List.mem_cons_self).recompute) _ _ (h.setType u _)
  · next stays =>
    simp only [movesLevels, Bool.or_eq_true, bne_iff_ne, not_or, not_not] at stays
    obtain ⟨⟨capacity, reorder⟩, critical⟩ := stays
    exact (setType_undisturbed (setType_settingsKept capacity.symm critical.symm reorder.symm)).fits h

/-! ### Resets (R176, R177) -/

theorem coldReset_fits (c : ResetCause) (s : State) : Fits [] (coldReset c s) :=
  ⟨⟨rfl, rfl, rfl, rfl, rfl, rfl, rfl, rfl, rfl, rfl, rfl, rfl⟩, fun _ _ _ _ _ => nofun⟩

/-- R112: the lanes a warm reset computes again, in the order it takes them. -/
def everyLane : List LaneName := (List.range Config.printers).flatMap (fun n => Lane.all.map (fun l => ⟨n, l⟩))

theorem mem_everyLane (hn : n < 64) (l : Lane) : ⟨n, l⟩ ∈ everyLane :=
  List.mem_flatMap.2 ⟨n, List.mem_range.2 hn, List.mem_map_of_mem (by cases l <;> decide)⟩

theorem reconcileLanes_eq (s : State) :
    reconcileLanes s = everyLane.foldl (fun s w => reconcileLane w.printer w.lane s) s := by
  rw [everyLane, List.foldl_flatMap]
  simp only [List.foldl_map]
  rfl

theorem warmReset_fits (c : ResetCause) (h : Canonical s) : Fits [] (warmReset c s) := by
  have cleared : Fits everyLane (warmCleared c s) :=
    ⟨warmCleared_canonical c h, fun n l _ hn off => absurd (mem_everyLane hn l) off⟩
  unfold warmReset
  rw [reconcileLanes_eq]
  exact Fits.foldl (fun _ _ _ due => due.reconcileLane) _ _
    ((Undisturbed.foldl (fun a n => drainingTest_undisturbed n a) _ _).fits cleared)

theorem resetLine_fits (inside : Bool) (h : Canonical s) : Fits [] (resetLine inside s) := by
  unfold resetLine
  split
  · exact coldReset_fits _ s
  · exact warmReset_fits _ h

theorem powerUp_fits (supply : Bool) (h : Canonical s) : Fits [] (powerUp supply s) := by
  unfold powerUp
  dsimp only
  split
  · exact warmReset_fits _ h
  · exact coldReset_fits _ _

end

end Sys2Proof.Machine

/-! The ends of jobs, the panel, the fleet's changes and the time base's events, as `Undisturbed` or `Fits` says of them: what
deducts pages, makes, moves or removes lanes keeps every lane's state fitting, and the rest disturbs no lane. -/

namespace Sys2Proof.Machine

/-- R110: the tables are canonical, and every lane of printers 0..63 has the state its figures give. -/
abbrev Fitting (s : State) : Prop := Fits [] s

/-! ### A job's end at its printer (R90, R96 to R101) -/

section
variable {s : State} {n : Nat} {k : Handle}

theorem takeCounts_undisturbed (n : Nat) (k : Handle) (pages : PerClass Nat) (s : State) :
    Undisturbed s (takeCounts n k pages s) :=
  (setJob_undisturbed _ _ s).trans (setPrinter_undisturbed _ _ _)

theorem interruptEntry_undisturbed (i : Nat) (s : State) : Undisturbed s (interruptEntry i s) := by
  have counted := setJob_undisturbed i { s.job i with interrupts := (s.job i).interrupts + 1 } s
  unfold interruptEntry
  dsimp only
  split
  · exact counted.trans (enterFinal_undisturbed _ _ _ _)
  · exact counted.trans (returnToHeld_undisturbed _ _)

theorem recordStalled_undisturbed (n : Nat) (k : Handle) (s : State) : Undisturbed s (recordStalled n k s) :=
  setPrinter_undisturbed _ _ s

theorem protocolError_undisturbed (n : Nat) (k : ReportKind) (grant : Nat) (s : State) :
    Undisturbed s (protocolError n k grant s) :=
  (setPrinter_undisturbed _ _ s).trans (raise_undisturbed _ _ _)

theorem Fits.settleEnd (h : Fitting s) (n : Nat) (k : Handle) : Fitting (settleEnd n k s) := by
  have charged := (setPrinter_undisturbed n { s.printer n with stall := none } s).trans
    (chargeJob_adjusted (s.job k.index) (s.job k.index).printed _).undisturbed
  exact ((returnNeeds_undisturbed n _ _).trans (leaveQueue_undisturbed n k _)).fits ((charged.fits h).deductPages ..)

theorem Fits.endFinal (h : Fitting s) (n : Nat) (k : Handle) (f : JobState) (r : EndReason) : Fitting (endFinal n k f r s) :=
  ((enterFinal_undisturbed _ _ _ _).trans (afterEnd_undisturbed n _)).fits (h.settleEnd n k)

theorem Fits.endInterrupted (h : Fitting s) (n : Nat) (k : Handle) : Fitting (endInterrupted n k s) :=
  ((interruptEntry_undisturbed _ _).trans (afterEnd_undisturbed n _)).fits (h.settleEnd n k)

theorem Fits.endUnfinished (h : Fitting s) (n : Nat) (k : Handle) : Fitting (endUnfinished n k s) := by
  unfold Machine.endUnfinished
  split
  · exact h.endFinal n k _ _
  · exact h.endInterrupted n k

theorem Fits.endReported (h : Fitting s) (n : Nat) (k : Handle) (grant : Nat) (outcome : JobOutcome) :
    Fitting (endReported n k grant outcome s) := by
  have ends : ∀ t, Fitting t → Fitting (if (t.job k.index).state = .cancelling then
      Machine.endFinal n k .cancelled .cancelledByTenant t
      else if completes (t.job k.index) outcome then Machine.endFinal n k .done .complete t
      else Machine.endInterrupted n k t) := fun t ht => by
    split
    · exact ht.endFinal n k _ _
    · split
      · exact ht.endFinal n k _ _
      · exact ht.endInterrupted n k
  refine ends _ ?_
  split
  · exact (setPrinter_undisturbed _ _ s).fits h
  · exact h

theorem Fits.lateEnd (h : Fitting s) (n : Nat) (g : StalledGrant) (pages : PerClass Nat) : Fitting (lateEnd n g pages s) := by
  refine (setPrinter_undisturbed n _ _).fits (Fits.deductPages ?_ ..)
  split
  · exact h
  · exact (chargeBoth_adjusted g.account _ _ s).undisturbed.fits h

theorem takeProgress_undisturbed (n grant : Nat) (pages : PerClass Nat) (s : State) :
    Undisturbed s (takeProgress n grant pages s) := by
  unfold takeProgress
  split
  · next k _ =>
    have counted := takeCounts_undisturbed n k pages s
    dsimp only
    split
    · exact counted.trans (setPrinter_undisturbed _ _ _)
    · exact counted
  · split
    · exact .refl s
    · exact protocolError_undisturbed n _ _ s

theorem Fits.takeJobEnd (h : Fitting s) (n grant : Nat) (pages : PerClass Nat) (outcome : JobOutcome) :
    Fitting (takeJobEnd n grant pages outcome s) := by
  have error := (protocolError_undisturbed n .jobEnd grant s).fits h
  unfold Machine.takeJobEnd
  split
  · exact ((takeCounts_undisturbed n _ pages s).fits h).endReported n _ grant outcome
  · split
    · split
      · exact h.lateEnd n _ pages
      · exact error
    · exact error

theorem Fits.expireStall (h : Fitting s) (n : Nat) : Fitting (expireStall n s) := by
  unfold Machine.expireStall
  split
  · exact (setPrinter_undisturbed _ _ s).fits h
  · exact (((issue_undisturbed n _ s).trans (recordStalled_undisturbed n _ _)).fits h).endUnfinished n _

theorem Fits.loseHead (h : Fitting s) (n : Nat) : Fitting (loseHead n s) := by
  unfold Machine.loseHead
  split
  · exact h.endUnfinished n _
  · exact h

theorem Fits.flushOne (h : Fitting s) (n : Nat) (k : Handle) : Fitting (flushOne n k s) := by
  unfold Machine.flushOne
  split
  · exact ((enterFinal_undisturbed _ _ _ _).trans (drainingTest_undisturbed n _)).fits
      ((((issue_undisturbed n _ s).trans (recordStalled_undisturbed n k _)).fits h).settleEnd n k)
  · exact (((((leaveQueue_undisturbed n k s).trans (returnReservation_undisturbed _ _)).trans
      (returnNeeds_undisturbed n _ _)).trans (enterFinal_undisturbed _ _ _ _)).trans (drainingTest_undisturbed n _)).fits h

theorem Fits.flushQueue (h : Fitting s) (n fuel : Nat) : Fitting (flushQueue n fuel s).1 := by
  induction fuel generalizing s with
  | zero => exact h
  | succ fuel ih =>
    unfold Machine.flushQueue
    split
    · exact h
    · exact ih (h.flushOne n _)

theorem cancelJob_undisturbed (k : Handle) (j : Job) (s : State) : Undisturbed s (cancelJob k j s).1 := by
  unfold cancelJob
  split
  · exact enterFinal_undisturbed _ _ _ s
  · exact ((((leaveQueue_undisturbed _ k s).trans (returnReservation_undisturbed _ _)).trans
      (returnNeeds_undisturbed _ _ _)).trans (enterFinal_undisturbed _ _ _ _)).trans (afterEnd_undisturbed _ _)
  · exact (setJob_undisturbed _ _ s).trans (issue_undisturbed _ _ _)
  all_goals exact .refl s

end

/-! ### The panel (chapter 4) -/

section

theorem closeSession_undisturbed (n : Nat) (r : CloseReason) (s : State) : Undisturbed s (closeSession n r s) :=
  (setSession_undisturbed n none s).trans (issue_undisturbed n _ _)

theorem closeAccountSession_undisturbed (o : Nat) (s : State) : Undisturbed s (closeAccountSession o s) :=
  .foldl (fun a n => closeSession_undisturbed n _ a) _ s

theorem clearTheWay_undisturbed (n o : Nat) (s : State) : Undisturbed s (clearTheWay n o s) := by
  refine .trans (.foldl (fun a m => ?_) _ s) (setSession_undisturbed n none _)
  split
  · exact .refl a
  · exact closeSession_undisturbed m _ a

theorem takeBadge_undisturbed (n b : Nat) (s : State) : Undisturbed s (takeBadge n b s) := by
  unfold takeBadge
  split
  · exact issue_undisturbed n _ s
  · exact (clearTheWay_undisturbed n _ s).trans ((setSession_undisturbed n _ _).trans (issue_undisturbed n _ _))

theorem withdrawOffers_undisturbed (m : Nat) (s : State) : Undisturbed s (withdrawOffers m s) :=
  .of_groups (fun h => by
    obtain ⟨h1, h2, h3, h4, h5, h6⟩ := h
    refine ⟨h1, h2, h3, h4, ?_, h6⟩
    unfold withdrawOffers
    dsimp only
    exact Table.wf_mapAll _ _ _ h5) rfl rfl

theorem release_undisturbed (n : Nat) (k : Handle) (s : State) : Undisturbed s (release n k s) := by
  have claimed := (reserveBoth_adjusted (s.job k.index).owner (s.job k.index).pages s).undisturbed.trans
    (addNeeds_undisturbed n (jobNeeds s n (s.job k.index)) _)
  rw [release_eq]
  refine .trans (claimed.trans (.trans ?_ (setJob_undisturbed k.index _ _))) ((removeFromLists_undisturbed k _).trans
    ((setPrinter_undisturbed n _ _).trans (promotionCheck_undisturbed n _)))
  exact .of_groups id rfl rfl

theorem takeChoice_undisturbed (n : Nat) (k : Handle) (s : State) : Undisturbed s (takeChoice n k s).1 := by
  unfold takeChoice
  split
  · exact .refl s
  · split
    · exact .refl s
    · exact release_undisturbed n k s

theorem takeChoices_undisturbed (n : Nat) (l : List Handle) (s : State) : Undisturbed s (takeChoices n l s).1 := by
  induction l generalizing s with
  | nil => exact .refl s
  | cons k l ih => exact (takeChoice_undisturbed n k s).trans (ih _)

theorem takeSelect_undisturbed (n : Nat) (c : Choice) (s : State) : Undisturbed s (takeSelect n c s) := by
  unfold takeSelect
  split
  · exact issue_undisturbed n _ s
  · exact (takeChoices_undisturbed n _ s).trans ((issue_undisturbed n _ _).trans (setSession_undisturbed n none _))

end

/-! ### Enrolment (R84 to R87), HELLO and STATUS (R92, R104) -/

section
variable {s : State}

theorem Fits.each {f : State → Lane → State} (step : ∀ a l, Fitting a → Fitting (f a l)) (ls : List Lane) (h : Fitting s) :
    Fitting (ls.foldl f s) := by
  induction ls generalizing s with
  | nil => exact h
  | cons l ls ih => exact ih (step s l h)

theorem Fits.enrolNew (h : Fitting s) (n : Nat) (e : Enrolment) : Fitting (enrolNew n e s) := by
  refine Fits.each (fun a l ha => ?_) _
    (((setPrinter_undisturbed n (enrolledPrinter e) s).trans (setStray_undisturbed n none _)).fits h)
  split
  · exact ha.makeLane n l _
  · exact ha

theorem Fits.reshapeLane (h : Fitting s) (n : Nat) (e : Enrolment) (l : Lane) : Fitting (reshapeLane n e l s) := by
  unfold Machine.reshapeLane
  split
  · exact h.retireLane n l
  · exact h.makeLane n l _
  · exact h

theorem Fits.retypeKept (h : Fitting s) (n : Nat) (e : Enrolment) (l : Lane) : Fitting (retypeKept n e l s) := by
  unfold Machine.retypeKept
  split
  · exact h.changeLaneType n l _
  · exact h

theorem Fits.reenrol (h : Fitting s) (n : Nat) (e : Enrolment) : Fitting (reenrol n e s) := by
  refine ((setPrinter_undisturbed n _ _).trans (compareCapabilities_undisturbed n _)).fits ?_
  refine Fits.each (fun a l ha => ha.retypeKept n e l) _ (Fits.each (fun a l ha => ha.reshapeLane n e l) _ ?_)
  exact (setPrinter_undisturbed n _ s).fits h

theorem dropCallouts_undisturbed (n : Nat) (s : State) : Undisturbed s (dropCallouts n s) := by
  have dropped : Undisturbed s ((s.setCallouts (s.cu.callouts.filter (fun c => c.printer ≠ n))).setDeferrals
      (s.cu.deferrals.filter (fun d => d.printer ≠ n))) := callouts_undisturbed rfl rfl
  exact dropped.trans ((setHistory_undisturbed n 0 _).trans (serveDeferrals_undisturbed _))

theorem closePrinterSession_undisturbed (n : Nat) (s : State) : Undisturbed s (closePrinterSession n s) := by
  unfold closePrinterSession
  split
  · exact closeSession_undisturbed n _ s
  · exact .refl s

theorem clearPrinter_undisturbed (n : Nat) (s : State) : Undisturbed s (clearPrinter n s) :=
  (setPrinter_undisturbed n _ s).trans (.foldl (fun a k => setGrace_undisturbed n k _ a) _ _)

theorem Fits.unenroll (h : Fitting s) (n : Nat) :
    Fitting (clearPrinter n (removeLanes n (dropCallouts n (closePrinterSession n s)))) :=
  (clearPrinter_undisturbed n _).fits (Fits.each (fun _ l ha => ha.removeLane n l) _
    (((closePrinterSession_undisturbed n s).trans (dropCallouts_undisturbed n _)).fits h))

theorem changeAdmin_undisturbed (n : Nat) (a : AdminState) (s : State) : Undisturbed s (changeAdmin n a s) := by
  refine .trans ?_ ((promotionCheck_undisturbed n _).trans (drainingTest_undisturbed n _))
  have moved := setPrinter_undisturbed n { s.printer n with admin := a } s
  split
  · exact moved.trans (serviceRaise_undisturbed n _ _)
  · exact moved

theorem Fits.takeHello (h : Fitting s) (n : Nat) (c : Capabilities) : Fitting (takeHello n c s) :=
  (promotionCheck_undisturbed n _).fits ((((setPrinter_undisturbed n _ s).trans ((compareCapabilities_undisturbed n _).trans
    (setPrinter_undisturbed n _ _))).fits h).loseHead n)

theorem Fits.takeWalkup (h : Fitting s) (n : Nat) : Fitting (takeWalkup n s) := by
  unfold Machine.takeWalkup
  dsimp only
  split
  · exact (setPrinter_undisturbed n _ _).fits (h.deduct n .k _ _)
  · exact h

theorem Fits.takeStatus (h : Fitting s) (n meter : Nat) : Fitting (takeStatus n meter s) := by
  unfold Machine.takeStatus
  dsimp only
  split
  · exact (setPrinter_undisturbed n _ s).fits h
  · split
    · exact ((addCondition_undisturbed n _ s).trans (setPrinter_undisturbed n _ _)).fits h
    · exact ((setPrinter_undisturbed n _ s).fits h).takeWalkup n

end

/-! ### The time base's events and the expiries (R26, R49, R70, R91, R100, R145, R149, R171, R172) -/

section
variable {s : State}

theorem owed_undisturbed (o : Owed) (s : State) : Undisturbed s { s with owed := o } := .of_groups id rfl rfl

theorem timeBase_undisturbed (t : TimeUnit) (s : State) : Undisturbed s { s with tb := t } := .of_groups id rfl rfl

theorem stepTimer_undisturbed (m : Nat) (s : State) : Undisturbed s (stepTimer m s) := by
  unfold stepTimer
  dsimp only
  split
  · split
    · exact (reloadTimer_undisturbed m s).trans (rollover_undisturbed m _)
    · exact setTenant_undisturbed m _ s
  · exact .refl s

theorem takeUnderflow_undisturbed (m : Nat) (s : State) : Undisturbed s (takeUnderflow m s) := by
  unfold takeUnderflow
  split
  · exact (owed_undisturbed _ s).trans (stepTimer_undisturbed m _)
  · exact .refl s

theorem takeJobExpiry_undisturbed (s : State) : Undisturbed s (takeJobExpiry s) := by
  unfold takeJobExpiry
  split
  · refine (owed_undisturbed _ s).trans (.foldl (fun a i => ?_) _ _)
    split
    · exact enterFinal_undisturbed i _ _ a
    · exact .refl a
  · exact .refl s

theorem takeGraceExpiry_undisturbed (s : State) : Undisturbed s (takeGraceExpiry s) := by
  unfold takeGraceExpiry
  split
  · exact .refl s
  · exact (setGrace_undisturbed _ _ _ s).trans (serviceRaise_undisturbed _ _ _)

theorem takeEscalation_undisturbed (s : State) : Undisturbed s (takeEscalation s) := by
  unfold takeEscalation
  split
  · exact .refl s
  · next number rest _ =>
    have taken := owed_undisturbed { s.owed with escalations := rest } s
    dsimp only
    split
    · exact taken
    · split
      · exact taken.trans (.trans (callouts_undisturbed (by rfl) (by rfl)) (raise_undisturbed _ _ _))
      · exact taken

theorem takeSessionTimeout_undisturbed (n : Nat) (s : State) : Undisturbed s (takeSessionTimeout n s) := by
  unfold takeSessionTimeout
  split
  · exact closeSession_undisturbed n _ s
  · exact .refl s

theorem takeSilenceExpiry_undisturbed (n : Nat) (s : State) : Undisturbed s (takeSilenceExpiry n s) := by
  unfold takeSilenceExpiry
  split
  · exact (silenceRunOut_undisturbed n s).trans (setCommands_undisturbed n _ _)
  · exact .refl s

theorem Fits.takeStallExpiry (h : Fitting s) (n : Nat) : Fitting (takeStallExpiry n s) := by
  unfold Machine.takeStallExpiry
  split
  · exact h.expireStall n
  · exact h

theorem takeTimes_undisturbed {f : State → State} (step : ∀ a, Undisturbed a (f a)) (k : Nat) (s : State) :
    Undisturbed s (takeTimes f k s) := by
  induction k generalizing s with
  | zero => exact .refl s
  | succ k ih => exact (step s).trans (ih _)

theorem Fits.takeStallExpiries (ns : List Nat) (h : Fitting s) :
    Fitting (ns.foldl (fun s n => Machine.takeStallExpiry n s) s) := by
  induction ns generalizing s with
  | nil => exact h
  | cons n ns ih => exact ih (h.takeStallExpiry n)

theorem Fits.settleMinuteWork (h : Fitting s) : Fitting (settleMinuteWork s) := by
  unfold Machine.settleMinuteWork
  dsimp only
  refine Fits.takeStallExpiries _ (Undisturbed.fits ?_ h)
  refine .trans ?_ (.foldl (fun a n => takeSessionTimeout_undisturbed n a) _ _)
  refine .trans ?_ (takeTimes_undisturbed takeEscalation_undisturbed _ _)
  refine .trans ?_ (takeTimes_undisturbed takeGraceExpiry_undisturbed _ _)
  exact (Undisturbed.foldl (fun a m => takeUnderflow_undisturbed m a) _ s).trans (takeJobExpiry_undisturbed _)

theorem settleSilence_undisturbed (s : State) : Undisturbed s (settleSilence s) :=
  .foldl (fun a n => takeSilenceExpiry_undisturbed n a) _ s

theorem evaluatePolicy_undisturbed (s : State) : Undisturbed s (evaluatePolicy s) := timeBase_undisturbed _ s

theorem advanceClock_undisturbed (s : State) : Undisturbed s (advanceClock s) := timeBase_undisturbed _ s

theorem stepTimers_undisturbed (s : State) : Undisturbed s (stepTimers s) := by
  refine .foldl (fun a m => ?_) _ s
  dsimp only
  split
  · split
    · exact owed_undisturbed _ a
    · exact stepTimer_undisturbed m a
  · exact .refl a

theorem lowerGrace_undisturbed (s : State) : Undisturbed s (lowerGrace s) :=
  .of_groups (fun h => by
    obtain ⟨h1, h2, h3, h4, h5, h6, h7, h8, h9, h10⟩ := h
    refine ⟨h1, h2, h3, h4, h5, h6, h7, h8, ?_, h10⟩
    unfold lowerGrace
    dsimp only
    exact Table.wf_mapAll _ _ _ h9) rfl rfl

theorem lowerSessions_undisturbed (s : State) : Undisturbed s (lowerSessions s) :=
  .of_groups (fun h => by
    obtain ⟨h1, h2, h3, h4, h5, h6⟩ := h
    refine ⟨h1, h2, h3, h4, ?_, h6⟩
    unfold lowerSessions
    dsimp only
    exact Table.wf_mapAll _ _ _ h5) rfl rfl

/-- A change of every printer's record. -/
theorem mapPrinters_undisturbed (f : Nat → Printer → Printer) (s : State) :
    Undisturbed s { s with ft := { s.ft with printers := Table.mapAll Printer.cold f s.ft.printers } } :=
  .of_groups (fun h => by
    obtain ⟨h1, h2, h3, h4, h5, h6, h7⟩ := h
    exact ⟨h1, h2, h3, h4, h5, Table.wf_mapAll _ _ _ h6, h7⟩) rfl rfl

theorem lowerStalls_undisturbed (s : State) : Undisturbed s (lowerStalls s) := mapPrinters_undisturbed _ s

theorem lowerSilence_undisturbed (s : State) : Undisturbed s (lowerSilence s) := mapPrinters_undisturbed _ s

theorem oweEscalations_undisturbed (s : State) : Undisturbed s (oweEscalations (fillDeadlines s)) :=
  (callouts_undisturbed (by rfl) (by rfl)).trans (owed_undisturbed _ _)

theorem stepCounts_undisturbed (s : State) : Undisturbed s (stepCounts s) := by
  have graces := (stepTimers_undisturbed s).trans (lowerGrace_undisturbed _)
  unfold stepCounts
  dsimp only
  generalize lowerGrace (stepTimers s) = u at graces ⊢
  refine .trans (.trans ?_ (owed_undisturbed _ _)) ((lowerSessions_undisturbed _).trans (lowerStalls_undisturbed _))
  split
  · exact graces.trans (oweEscalations_undisturbed u)
  · exact graces

theorem Fits.minuteTick (h : Fitting s) : Fitting (minuteTick s) := by
  have settled := h.settleMinuteWork
  unfold Machine.minuteTick
  generalize Machine.settleMinuteWork s = u at settled ⊢
  have moved := (owed_undisturbed { u.owed with minute := false } u).trans
    ((advanceClock_undisturbed _).trans (evaluatePolicy_undisturbed _))
  exact (moved.trans (stepCounts_undisturbed _)).fits settled

theorem Fits.settleMinuteEvent (h : Fitting s) : Fitting (settleMinuteEvent s) := by
  unfold Machine.settleMinuteEvent
  split
  · exact h.minuteTick
  · exact h

theorem Fits.secondTick (h : Fitting s) : Fitting (secondTick s) := by
  have settled := ((settleSilence_undisturbed s).fits h).settleMinuteEvent
  unfold Machine.secondTick
  generalize Machine.settleMinuteEvent (settleSilence s) = u at settled ⊢
  have lowered := (lowerSilence_undisturbed u).fits settled
  dsimp only
  generalize lowerSilence u = v at lowered ⊢
  split
  · exact lowered.of_tables id rfl rfl
  · exact (timeBase_undisturbed _ v).fits lowered

theorem Fits.setClockTo (h : Fitting s) (c : Clock) : Fitting (setClockTo c s) :=
  ((timeBase_undisturbed _ _).trans (evaluatePolicy_undisturbed _)).fits h.settleMinuteEvent.settleMinuteWork

end

end Sys2Proof.Machine

/-! Every command keeps every lane's state fitting (settles O10): most owners disturb no lane, and what the estimator's,
the stock's and the fleet's owners change is settled by `Fits`. -/

namespace Sys2Proof.Machine

/-- The outcome of a command leaves every lane's state fitting, where it leaves a state. -/
def LeadsFitting (o : Host.Outcome State Fault Refusal) : Prop := ∀ t, o = .next t → Fitting t

section
variable {s : State}

theorem LeadsFitting.next (h : Fitting s) : LeadsFitting (.next s) := by
  rintro t e
  cases e
  exact h

/-! ### How requests, reports and events are taken -/

theorem setPort_undisturbed (p : PortName) (r : Port) (s : State) : Undisturbed s (s.setPort p r) := .of_groups id rfl rfl

theorem sent_undisturbed (l : List (PortName × PortFrame)) (s : State) : Undisturbed s { s with out := l } :=
  .of_groups id rfl rfl

theorem begin_undisturbed (s : State) : Undisturbed s s.begin := .of_groups id rfl rfl

theorem sendNotice_undisturbed (p : PortName) (k : NoticeSet) (s : State) : Undisturbed s (sendNotice p k s) := by
  unfold sendNotice
  split
  · exact .refl s
  · exact sent_undisturbed _ s

theorem serve_fits {hd : Head} {r : Request} {owner : State → State × Answer} (h : Fitting s)
    (ho : ∀ u, Fitting u → Fitting (owner u).1) : Fitting (serve hd r owner s).1 := by
  unfold serve
  split
  · exact h
  · exact ho s h

theorem issueAnswer_undisturbed (hd : Head) (r : Request) (a : Answer) (s : State) :
    Undisturbed s (issueAnswer hd r a s) :=
  (setPort_undisturbed _ _ s).trans (sent_undisturbed _ _)

theorem request_fits {hd : Head} {r : Request} {owner : State → State × Answer} (h : Fitting s)
    (ho : ∀ u, Fitting u → Fitting (owner u).1) : LeadsFitting (request hd r owner s) := by
  refine .next ?_
  unfold takeRequest
  split
  · exact (sent_undisturbed [] s).fits h
  · dsimp only
    have begun := (begin_undisturbed s).fits h
    split
    · exact begun
    · split
      · exact (issueAnswer_undisturbed hd r _ _).fits (serve_fits ((setPort_undisturbed _ _ _).fits begun) ho)
      · split
        · exact (issueAnswer_undisturbed hd r _ _).fits (serve_fits begun ho)
        · exact begun

/-- A request whose owner disturbs no lane. -/
theorem calmRequest_fits {hd : Head} {r : Request} {owner : State → State × Answer} (h : Fitting s)
    (ho : ∀ u, Undisturbed u (owner u).1) : LeadsFitting (request hd r owner s) :=
  request_fits h fun u => (ho u).fits

/-- A request whose owner only answers. -/
theorem answer_fits {hd : Head} {r : Request} {owner : State → State × Answer} (h : Fitting s)
    (ho : ∀ u, (owner u).1 = u) : LeadsFitting (request hd r owner s) :=
  request_fits h fun u hu => by rw [ho]; exact hu

theorem strayReport_undisturbed (a : Nat) (k : ReportKind) (s : State) : Undisturbed s (strayReport a k s) :=
  (setStray_undisturbed a _ s).trans (raise_undisturbed _ _ _)

theorem takeReport_fits {l : LinkFrame} {k : ReportKind} {ok : Bool} {owner : State → State} (h : Fitting s)
    (ho : ∀ u, Fitting u → Fitting (owner u)) : LeadsFitting (.next (takeReport l k ok owner s)) := by
  refine .next ?_
  unfold takeReport
  split
  · exact (sent_undisturbed [] s).fits h
  · dsimp only
    have begun := (begin_undisturbed s).fits h
    split
    · exact begun
    · split
      · exact (strayReport_undisturbed _ _ _).fits begun
      · split
        · exact begun
        · refine ho _ ((heard_undisturbed _ _).fits ?_)
          split
          · exact (setCommands_undisturbed _ _ _).fits begun
          · exact begun

theorem takeEvent_fits {act : State → State} (h : Fitting s) (ha : ∀ u, Fitting u → Fitting (act u)) :
    LeadsFitting (.next (takeEvent act s)) := by
  refine .next ?_
  unfold takeEvent
  split
  · exact (sent_undisturbed [] s).fits h
  · exact ha _ ((begin_undisturbed s).fits h)

end

/-! ### What the owners' checks keep

A refusal leaves the state, so a property that the state has and the owner's act keeps is kept. -/

section
variable {P : State → Prop} {s : State} {p : PortName} {n : Nat} {ok : Bool}

theorem asTenant_keeps {act : Nat → State × Answer} (h : P s) (hact : ∀ m, P (act m).1) : P (asTenant p act s).1 := by
  unfold asTenant
  split
  · exact hact _
  · exact h

theorem onTenant_keeps {act : Nat → State × Answer} (h : P s) (hact : ∀ m, P (act m).1) : P (onTenant p n act s).1 := by
  unfold onTenant
  split
  · exact hact _
  · split
    · exact hact _
    · exact h

theorem onJob_keeps {k : Handle} {act : Job → State × Answer} (h : P s) (hact : ∀ j, P (act j).1) :
    P (onJob p k act s).1 := by
  unfold onJob
  refine asTenant_keeps h fun m => ?_
  split
  · exact h
  · exact hact _

theorem onAccount_keeps {suits : AccountState → Bool} {act : Account → State × Answer} (h : P s)
    (hact : ∀ a, P (act a).1) : P (onAccount p n ok suits act s).1 := by
  unfold onAccount
  split
  · exact h
  · split
    · exact h
    · exact hact _

theorem onPrinter_keeps {act : Printer → State × Answer} (h : P s) (hact : ∀ r, P (act r).1) :
    P (onPrinter n ok act s).1 := by
  unfold onPrinter
  split
  · exact h
  · split
    · exact h
    · exact hact _

theorem onLane_keeps {l : Lane} {act : LaneRecord → State × Answer} (h : P s)
    (hact : ∀ x, s.lane n l = some x → P (act x).1) : P (onLane n l ok act s).1 := by
  unfold onLane
  refine onPrinter_keeps h fun _ => ?_
  split
  · exact h
  · next x present => exact hact x present

theorem onOrder_keeps {act : Order → State × Answer} (h : P s) (hact : ∀ o, P (act o).1) : P (onOrder n ok act s).1 := by
  unfold onOrder
  split
  · exact h
  · split
    · exact h
    · exact hact _

end

section
variable {s : State}

/-! ### The ports (chapter 10) -/

theorem arrive_undisturbed (p : PortName) (f : RequestFrame) (s : State) : Undisturbed s (arrive p f s) := by
  unfold arrive
  dsimp only
  split
  · exact .refl s
  · split
    · exact sent_undisturbed _ s
    · exact setPort_undisturbed p _ s

theorem linkUp_undisturbed (p : PortName) (s : State) : Undisturbed s (linkUp p s) := by
  unfold linkUp
  dsimp only
  split
  · exact setPort_undisturbed p _ s
  · exact .refl s

theorem leaveAttached_undisturbed (p : PortName) (s : State) : Undisturbed s (leaveAttached p s) := by
  unfold leaveAttached
  split
  · exact ((withdrawOffers_undisturbed _ s).trans (detachRequeue_undisturbed _ _)).trans (raise_undisturbed _ _ _)
  · exact .refl s

theorem linkLoss_undisturbed (p : PortName) (s : State) : Undisturbed s (linkLoss p s) := by
  unfold linkLoss
  dsimp only
  split
  · exact (setPort_undisturbed p _ s).trans (leaveAttached_undisturbed p _)
  · exact setPort_undisturbed p _ s

theorem execPortLinkUp_fits (p : PortName) (h : Fitting s) : LeadsFitting (execPortLinkUp p s) := by
  refine .next ?_
  split
  · exact ((sent_undisturbed [] s).trans (linkUp_undisturbed p _)).fits h
  · exact ((begin_undisturbed s).trans (linkUp_undisturbed p _)).fits h

theorem execPortLinkLoss_fits (p : PortName) (h : Fitting s) : LeadsFitting (execPortLinkLoss p s) := by
  refine .next ?_
  split
  · exact ((sent_undisturbed [] s).trans (setPort_undisturbed p _ _)).fits h
  · exact ((begin_undisturbed s).trans (linkLoss_undisturbed p _)).fits h

theorem attachPort_undisturbed (p : PortName) (s : State) : Undisturbed s (attachPort p s).1 := by
  unfold attachPort
  dsimp only
  split
  · exact .refl s
  · split
    · exact .refl s
    · have attached := (setPort_undisturbed p { s.port p with state := .attached } s).trans
        (sendNotice_undisturbed p ((s.port p).flags &&& (s.port p).mask) _)
      simp only [accept]
      split
      · exact attached.trans (raise_undisturbed _ _ _)
      · exact attached

theorem detachPort_undisturbed (p : PortName) (s : State) : Undisturbed s (detachPort p s).1 :=
  (setPort_undisturbed p _ s).trans (leaveAttached_undisturbed p _)

theorem setMask_undisturbed (p : PortName) (k : NoticeSet) (s : State) : Undisturbed s (setMask p k s).1 := by
  unfold setMask
  split
  · exact .refl s
  · exact (setPort_undisturbed p _ s).trans (sendNotice_undisturbed p _ _)

theorem ackFlags_undisturbed (p : PortName) (k : NoticeSet) (s : State) : Undisturbed s (ackFlags p k s).1 := by
  unfold ackFlags
  split
  · exact .refl s
  · exact setPort_undisturbed p _ s

/-! ### Accounts, tenants and periods (chapters 1 and 2) -/

theorem openAccount_undisturbed (p : PortName) (i : Nat) (b : Option Nat) (l : PerClass Limits) (s : State) :
    Undisturbed s (openAccount p i b l s).1 := by
  unfold openAccount
  split
  · exact .refl s
  · split
    · exact .refl s
    · split
      · exact .refl s
      · exact setAccount_undisturbed i _ s

theorem execSetBadge_fits (hd : Head) (i b : Nat) (h : Fitting s) : LeadsFitting (execSetBadge hd i b s) :=
  calmRequest_fits h fun u => onAccount_keeps (.refl u) fun a => by
    split
    · exact .refl u
    · exact setAccount_undisturbed i _ u

theorem execSuspendAccount_fits (hd : Head) (i : Nat) (h : Fitting s) : LeadsFitting (execSuspendAccount hd i s) :=
  calmRequest_fits h fun u => onAccount_keeps (.refl u) fun _ =>
    (setAccount_undisturbed i _ u).trans (closeAccountSession_undisturbed i _)

theorem execCloseAccount_fits (hd : Head) (i : Nat) (h : Fitting s) : LeadsFitting (execCloseAccount hd i s) :=
  calmRequest_fits h fun u => onAccount_keeps (.refl u) fun a => by
    split
    · exact .refl u
    · exact (closeAccountSession_undisturbed i u).trans (setAccount_undisturbed i _ _)

theorem execAssignTenant_fits (hd : Head) (m : Nat) (w : Option Window) (share : Nat) (g : GroupSet) (h : Fitting s) :
    LeadsFitting (execAssignTenant hd m w share g s) :=
  calmRequest_fits h fun u => by
    split
    · exact .refl u
    · exact setTenant_undisturbed m _ u

theorem execSetCeiling_fits (hd : Head) (m : Nat) (c : PageClass) (x : Option Nat) (h : Fitting s) :
    LeadsFitting (execSetCeiling hd m c x s) :=
  calmRequest_fits h fun u => by
    split
    · exact .refl u
    · exact setTenant_undisturbed m _ u

theorem execClosePeriod_fits (hd : Head) (h : Fitting s) : LeadsFitting (execClosePeriod hd s) :=
  calmRequest_fits h fun u => asTenant_keeps (.refl u) fun m =>
    (rollover_undisturbed m u).trans (reloadTimer_undisturbed m _)

theorem execSetPolicy_fits (hd : Head) (p : PolicyName) (c : PolicyChanges) (h : Fitting s) :
    LeadsFitting (execSetPolicy hd p c s) :=
  calmRequest_fits h fun u => asTenant_keeps (.refl u) fun m => by
    split
    · exact .refl u
    · exact setTenant_undisturbed m _ u

theorem execSetPeriodTimer_fits (hd : Head) (m : Nat) (unit : TimerUnit) (length : Nat) (h : Fitting s) :
    LeadsFitting (execSetPeriodTimer hd m unit length s) :=
  calmRequest_fits h fun u => by
    split
    · exact .refl u
    · exact setTenant_undisturbed m _ u

theorem switchTimer_undisturbed (m : Nat) (run : Bool) (s : State) : Undisturbed s (switchTimer m run s).1 := by
  unfold switchTimer
  dsimp only
  split
  · exact .refl s
  · split
    · exact .refl s
    · exact setTenant_undisturbed m _ s

/-! ### Jobs and the panel (chapters 3 and 4) -/

theorem takeSubmission_undisturbed (m : Nat) (j : Submission) (s : State) : Undisturbed s (takeSubmission m j s).1 := by
  unfold takeSubmission
  split
  · exact (setJob_undisturbed _ _ s).trans (setAccount_undisturbed _ _ _)
  · exact .refl s

theorem execSubmit_fits (hd : Head) (j : Submission) (h : Fitting s) : LeadsFitting (execSubmit hd j s) :=
  calmRequest_fits h fun u => asTenant_keeps (.refl u) fun m => by
    split
    · exact .refl u
    · exact takeSubmission_undisturbed m j u

theorem execCollect_fits (hd : Head) (k : Handle) (h : Fitting s) : LeadsFitting (execCollect hd k s) :=
  calmRequest_fits h fun u => onJob_keeps (.refl u) fun j => by
    split
    · exact freeEntry_undisturbed _ u
    · exact .refl u

theorem execSetPanelTimeout_fits (hd : Head) (m : Nat) (h : Fitting s) : LeadsFitting (execSetPanelTimeout hd m s) :=
  calmRequest_fits h fun u => by
    split
    · exact .refl u
    · exact .of_groups id rfl rfl

/-! ### The fleet (chapter 5) -/

theorem execEnrol_fits (hd : Head) (n : Nat) (e : Enrolment) (h : Fitting s) : LeadsFitting (execEnrol hd n e s) :=
  request_fits h fun u hu => by
    split
    · exact hu
    · split
      · exact hu.enrolNew n e
      · split
        · exact hu
        · exact hu.reenrol n e

theorem execUnenroll_fits (hd : Head) (n : Nat) (h : Fitting s) : LeadsFitting (execUnenroll hd n s) :=
  request_fits h fun u hu => onPrinter_keeps hu fun _ => by
    split
    · exact hu
    · exact hu.unenroll n

theorem execSetAdmin_fits (hd : Head) (n : Nat) (a : AdminState) (h : Fitting s) : LeadsFitting (execSetAdmin hd n a s) :=
  calmRequest_fits h fun u => onPrinter_keeps (.refl u) fun _ => by
    split
    · exact .refl u
    · split
      · exact .refl u
      · exact changeAdmin_undisturbed n a u

theorem execFlushPrinter_fits (hd : Head) (n : Nat) (h : Fitting s) : LeadsFitting (execFlushPrinter hd n s) :=
  request_fits h fun u hu => onPrinter_keeps hu fun _ => by
    split
    · exact hu
    · exact (drainingTest_undisturbed n _).fits (hu.flushQueue n _)

theorem execSetWalkup_fits (hd : Head) (a b : Option Nat) (h : Fitting s) : LeadsFitting (execSetWalkup hd a b s) :=
  calmRequest_fits h fun u => by
    split
    · exact .refl u
    · exact .of_groups id rfl rfl

theorem execClearCondition_fits (hd : Head) (n : Nat) (k : ConditionKind) (h : Fitting s) :
    LeadsFitting (execClearCondition hd n k s) :=
  calmRequest_fits h fun u => onPrinter_keeps (.refl u) fun _ => by
    split
    · exact removeCondition_undisturbed n _ u
    · exact .refl u

theorem condition_undisturbed (n : Nat) (k : ConditionKind) (onset : Bool) (s : State) :
    Undisturbed s ((if onset then addCondition n k else removeCondition n k) s) := by
  split
  · exact addCondition_undisturbed n k s
  · exact removeCondition_undisturbed n k s

/-! ### Lanes and stock (chapters 6 and 7) -/

theorem execSetWeights_fits (hd : Head) (k c : Option (List Nat)) (h : Fitting s) : LeadsFitting (execSetWeights hd k c s) :=
  request_fits h fun u hu => by
    split
    · exact hu
    · exact hu.of_tables id rfl rfl

theorem execSetEstimator_fits (hd : Head) (a b : Option Nat) (h : Fitting s) : LeadsFitting (execSetEstimator hd a b s) :=
  request_fits h fun u hu => by
    split
    · exact hu
    · exact hu.of_tables id rfl rfl

/-- A lane's record replaced by one of the same figures and state: the factor and the marks do not count. -/
theorem Fits.setLane_same {n : Nat} {l : Lane} {x y : LaneRecord} (h : Fitting s) (present : s.lane n l = some x)
    (type : y.type = x.type) (same : ∀ ty, StateFits x ty → StateFits y ty) : Fitting (s.setLane n l (some y)) := by
  refine h.setLane fun hn off z now => ?_
  obtain rfl : y = z := Option.some.inj now
  rw [type]
  exact same _ (h.fits n l x hn off present)

theorem execSetFactor_fits (hd : Head) (n : Nat) (l : Lane) (f : Nat) (h : Fitting s) : LeadsFitting (execSetFactor hd n l f s) :=
  request_fits h fun _ hu => onLane_keeps hu fun _ present => hu.setLane_same present rfl fun _ => id

theorem execAckUncounted_fits (hd : Head) (n : Nat) (l : Lane) (h : Fitting s) : LeadsFitting (execAckUncounted hd n l s) :=
  request_fits h fun _ hu => onLane_keeps hu fun _ present => hu.setLane_same present rfl fun _ => id

theorem execSetType_fits (hd : Head) (u : Nat) (c : TypeChanges) (h : Fitting s) : LeadsFitting (execSetType hd u c s) :=
  request_fits h fun v hv => by
    dsimp only
    split
    · exact hv
    · exact hv.applyType u c

theorem execAdjustStock_fits (hd : Head) (u x : Nat) (h : Fitting s) : LeadsFitting (execAdjustStock hd u x s) :=
  calmRequest_fits h fun v => by
    dsimp only
    split
    · exact .refl v
    · exact ((setType_undisturbed (setType_settingsKept (by rfl) (by rfl) (by rfl))).trans
        (serveWaiters_undisturbed u _)).trans (trigger_undisturbed u _)

theorem execSetLaneType_fits (hd : Head) (n : Nat) (l : Lane) (u : Nat) (h : Fitting s) :
    LeadsFitting (execSetLaneType hd n l u s) :=
  request_fits h fun _ hv => onLane_keeps hv fun _ _ => hv.changeLaneType n l u

theorem execAckOrder_fits (hd : Head) (k : Nat) (h : Fitting s) : LeadsFitting (execAckOrder hd k s) :=
  calmRequest_fits h fun u => onOrder_keeps (.refl u) fun o => by
    split
    · exact .refl u
    · exact setOrders_undisturbed _ u

theorem receive_undisturbed (o : Order) (r : Nat) (s : State) : Undisturbed s (receive o r s) :=
  (((setType_undisturbed (setType_settingsKept (by rfl) (by rfl) (by rfl))).trans (dropOrder_undisturbed o _)).trans
    (serveWaiters_undisturbed o.type _)).trans (serveDeferredTypes_undisturbed _)

theorem execReceiveOrder_fits (hd : Head) (k r : Nat) (h : Fitting s) : LeadsFitting (execReceiveOrder hd k r s) :=
  calmRequest_fits h fun u => onOrder_keeps (.refl u) fun o =>
    (receive_undisturbed o r u).trans (trigger_undisturbed o.type _)

theorem cancelOrder_undisturbed (o : Order) (s : State) : Undisturbed s (cancelOrder o s) :=
  (dropOrder_undisturbed o s).trans (((setType_undisturbed (setType_settingsKept (by rfl) (by rfl) (by rfl))).trans
    (serveDeferredTypes_undisturbed _)).trans (trigger_undisturbed o.type _))

/-! ### Callouts, the link and time (chapters 8, 9 and 11) -/

theorem execSetGrace_fits (hd : Head) (k : ConditionKind) (m : Nat) (h : Fitting s) : LeadsFitting (execSetGrace hd k m s) :=
  calmRequest_fits h fun u => by
    split
    · exact .refl u
    · exact callouts_undisturbed (by rfl) (by rfl)

theorem execSetEscalation_fits (hd : Head) (m : Nat) (h : Fitting s) : LeadsFitting (execSetEscalation hd m s) :=
  calmRequest_fits h fun u => by
    split
    · exact .refl u
    · exact callouts_undisturbed (by rfl) (by rfl)

theorem execAckCallout_fits (hd : Head) (k : Nat) (h : Fitting s) : LeadsFitting (execAckCallout hd k s) :=
  calmRequest_fits h fun u => by
    split
    · exact .refl u
    · split
      · exact .refl u
      · split
        · exact .refl u
        · exact callouts_undisturbed (by rfl) (by rfl)

theorem execClearStray_fits (hd : Head) (a : Option Nat) (h : Fitting s) : LeadsFitting (execClearStray hd a s) :=
  calmRequest_fits h fun u => by
    split
    · exact .refl u
    · cases a with
      | some a => exact setStray_undisturbed a none u
      | none =>
        refine .of_groups (fun hc => ?_) rfl rfl
        obtain ⟨h1, h2, h3, h4, h5, h6, h7, h8, h9, h10, h11, -⟩ := hc
        exact ⟨h1, h2, h3, h4, h5, h6, h7, h8, h9, h10, h11, rfl⟩

theorem execSetClock_fits (hd : Head) (day minute weekday : Nat) (h : Fitting s) :
    LeadsFitting (execSetClock hd day minute weekday s) :=
  request_fits h fun u hu => by
    split
    · exact hu
    · exact hu.setClockTo _

theorem execSetSchedule_fits (hd : Head) (e : List ScheduleEntry) (h : Fitting s) : LeadsFitting (execSetSchedule hd e s) :=
  calmRequest_fits h fun u => by
    split
    · exact .refl u
    · exact (timeBase_undisturbed _ u).trans (evaluatePolicy_undisturbed _)

theorem execResetLineAsserted_fits (inside : Bool) (h : Fitting s) : LeadsFitting (execResetLineAsserted inside s) := by
  refine .next ?_
  split
  · exact (sent_undisturbed [] s).fits h
  · exact resetLine_fits inside h.canonical

theorem execPowerOn_fits (supply : Bool) (h : Fitting s) : LeadsFitting (execPowerOn supply s) := by
  refine .next ?_
  split
  · exact powerUp_fits supply h.canonical
  · exact (sent_undisturbed [] s).fits h

theorem execMainPowerLoss_fits (inside : Bool) (h : Fitting s) : LeadsFitting (execMainPowerLoss inside s) := by
  refine .next ?_
  split
  · exact (sent_undisturbed [] s).fits h
  · exact h.of_tables id rfl rfl

theorem execRetainedSupplyLoss_fits (h : Fitting s) : LeadsFitting (execRetainedSupplyLoss s) := by
  refine .next ?_
  unfold supplyLoss
  split
  · exact h.of_tables id rfl rfl
  · exact h.of_tables id rfl rfl

end

/-! ### The step -/

/-- Every command keeps every lane's state fitting. -/
theorem exec_fits (i : Instr) {s : State} (h : Fitting s) : LeadsFitting (exec i s) := by
  cases i with
  | requestFrameArrival p f => exact takeEvent_fits h fun _ => (arrive_undisturbed p f _).fits
  | portLinkUp p => exact execPortLinkUp_fits p h
  | portLinkLoss p => exact execPortLinkLoss_fits p h
  | attach hd => exact calmRequest_fits h (attachPort_undisturbed _)
  | detach hd => exact calmRequest_fits h (detachPort_undisturbed _)
  | setNoticeMask hd k => exact calmRequest_fits h (setMask_undisturbed _ k)
  | ackNotice hd k => exact calmRequest_fits h (ackFlags_undisturbed _ k)
  | readNotices hd => exact answer_fits h fun _ => rfl
  | readPorts hd => exact answer_fits h fun _ => rfl
  | openAccount hd i b l => exact calmRequest_fits h (openAccount_undisturbed _ i b l)
  | setAccount hd i c => exact calmRequest_fits h fun u => onAccount_keeps (.refl u) fun _ => setAccount_undisturbed i _ u
  | setBadge hd i b => exact execSetBadge_fits hd i b h
  | clearBadge hd i => exact calmRequest_fits h fun u => onAccount_keeps (.refl u) fun _ => setAccount_undisturbed i _ u
  | suspendAccount hd i => exact execSuspendAccount_fits hd i h
  | resumeAccount hd i => exact calmRequest_fits h fun u => onAccount_keeps (.refl u) fun _ => setAccount_undisturbed i _ u
  | closeAccount hd i => exact execCloseAccount_fits hd i h
  | adjustBalance hd i c d =>
    exact calmRequest_fits h fun u => onAccount_keeps (.refl u) fun _ => setAccount_undisturbed i _ u
  | readAccount hd i => exact answer_fits h fun u => by split <;> rfl
  | readClosing hd i => exact answer_fits h fun u => by split <;> rfl
  | readTenant hd m => exact calmRequest_fits h fun u => onTenant_keeps (.refl u) fun _ => .refl u
  | assignTenant hd m w share g => exact execAssignTenant_fits hd m w share g h
  | setCeiling hd m c x => exact execSetCeiling_fits hd m c x h
  | closePeriod hd => exact execClosePeriod_fits hd h
  | setPolicy hd p c => exact execSetPolicy_fits hd p c h
  | readPeriod hd m => exact calmRequest_fits h fun u => onTenant_keeps (.refl u) fun _ => .refl u
  | readPolicy hd m => exact calmRequest_fits h fun u => onTenant_keeps (.refl u) fun _ => .refl u
  | setPeriodTimer hd m unit length => exact execSetPeriodTimer_fits hd m unit length h
  | startTimer hd m => exact calmRequest_fits h (switchTimer_undisturbed m true)
  | stopTimer hd m => exact calmRequest_fits h (switchTimer_undisturbed m false)
  | submit hd j => exact execSubmit_fits hd j h
  | cancel hd k => exact calmRequest_fits h fun u => onJob_keeps (.refl u) fun j => cancelJob_undisturbed k j u
  | listFinished hd => exact calmRequest_fits h fun u => asTenant_keeps (.refl u) fun _ => .refl u
  | collect hd k => exact execCollect_fits hd k h
  | readJob hd k => exact calmRequest_fits h fun u => onJob_keeps (.refl u) fun _ => .refl u
  | listActive hd => exact calmRequest_fits h fun u => asTenant_keeps (.refl u) fun _ => .refl u
  | setPanelTimeout hd m => exact execSetPanelTimeout_fits hd m h
  | enrol hd n e => exact execEnrol_fits hd n e h
  | unenroll hd n => exact execUnenroll_fits hd n h
  | setAdmin hd n a => exact execSetAdmin_fits hd n a h
  | flushPrinter hd n => exact execFlushPrinter_fits hd n h
  | setPrinterTimers hd n a b =>
    exact calmRequest_fits h fun u => onPrinter_keeps (.refl u) fun _ => setPrinter_undisturbed n _ u
  | setWalkup hd a b => exact execSetWalkup_fits hd a b h
  | clearCondition hd n k => exact execClearCondition_fits hd n k h
  | readPrinter hd n => exact answer_fits h fun u => by split <;> rfl
  | setWeights hd k c => exact execSetWeights_fits hd k c h
  | setEstimator hd a b => exact execSetEstimator_fits hd a b h
  | readWeights hd => exact answer_fits h fun _ => rfl
  | readLanes hd n => exact calmRequest_fits h fun u => onPrinter_keeps (.refl u) fun _ => .refl u
  | setFactor hd n l f => exact execSetFactor_fits hd n l f h
  | listUncounted hd => exact answer_fits h fun _ => rfl
  | ackUncounted hd n l => exact execAckUncounted_fits hd n l h
  | setType hd u c => exact execSetType_fits hd u c h
  | adjustStock hd u x => exact execAdjustStock_fits hd u x h
  | setLaneType hd n l u => exact execSetLaneType_fits hd n l u h
  | ackOrder hd k => exact execAckOrder_fits hd k h
  | receiveOrder hd k r => exact execReceiveOrder_fits hd k r h
  | cancelOrder hd k => exact calmRequest_fits h fun u => onOrder_keeps (.refl u) fun o => cancelOrder_undisturbed o u
  | readType hd u => exact answer_fits h fun u => by split <;> rfl
  | listOrders hd => exact answer_fits h fun _ => rfl
  | setGrace hd k m => exact execSetGrace_fits hd k m h
  | setEscalation hd m => exact execSetEscalation_fits hd m h
  | ackCallout hd k => exact execAckCallout_fits hd k h
  | clearHistory hd n k =>
    exact calmRequest_fits h fun u => onPrinter_keeps (.refl u) fun _ => setHistory_undisturbed n _ u
  | listCallouts hd => exact answer_fits h fun _ => rfl
  | readLink hd => exact answer_fits h fun _ => rfl
  | clearStray hd a => exact execClearStray_fits hd a h
  | setClock hd d m w => exact execSetClock_fits hd d m w h
  | setSchedule hd e => exact execSetSchedule_fits hd e h
  | clearAll hd => exact request_fits h fun u _ => coldReset_fits _ u
  | readClock hd => exact answer_fits h fun _ => rfl
  | hello l c n m => exact takeReport_fits h fun _ hu => hu.takeHello _ _
  | status l m => exact takeReport_fits h fun _ hu => hu.takeStatus _ m
  | condition l k onset => exact takeReport_fits h fun _ => (condition_undisturbed _ k onset _).fits
  | level l r => exact takeReport_fits h fun _ hu => hu.takeLevel _ r
  | badge l b => exact takeReport_fits h fun _ => (takeBadge_undisturbed _ b _).fits
  | select l c => exact takeReport_fits h fun _ => (takeSelect_undisturbed _ c _).fits
  | sessionEnd l => exact takeReport_fits h fun _ => (setSession_undisturbed _ none _).fits
  | progress l g p => exact takeReport_fits h fun _ => (takeProgress_undisturbed _ g p _).fits
  | jobEnd l g p o => exact takeReport_fits h fun _ hu => hu.takeJobEnd _ g p o
  | installed l lane => exact takeReport_fits h fun _ hu => hu.install _ lane
  | commandConfirmation a => exact takeEvent_fits h fun _ => (setCommands_undisturbed a _ _).fits
  | secondEvent => exact takeEvent_fits h fun _ => Fits.secondTick
  | minuteEvent => exact takeEvent_fits h fun _ => Fits.minuteTick
  | silenceExpiry n => exact takeEvent_fits h fun _ => (takeSilenceExpiry_undisturbed n _).fits
  | stallExpiry n => exact takeEvent_fits h fun _ hu => hu.takeStallExpiry n
  | periodTimerUnderflow m => exact takeEvent_fits h fun _ => (takeUnderflow_undisturbed m _).fits
  | jobExpiry => exact takeEvent_fits h fun _ => (takeJobExpiry_undisturbed _).fits
  | graceExpiry => exact takeEvent_fits h fun _ => (takeGraceExpiry_undisturbed _).fits
  | calloutEscalation => exact takeEvent_fits h fun _ => (takeEscalation_undisturbed _).fits
  | sessionTimeout n => exact takeEvent_fits h fun _ => (takeSessionTimeout_undisturbed n _).fits
  | resetLineAsserted b => exact execResetLineAsserted_fits b h
  | powerOn b => exact execPowerOn_fits b h
  | mainPowerLoss b => exact execMainPowerLoss_fits b h
  | malformedRequest hd k => exact answer_fits h fun _ => rfl
  | retainedSupplyLoss => exact execRetainedSupplyLoss_fits h

theorem step_fits {s : State} (h : Fitting s) : LeadsFitting (step s) := by
  unfold step
  split
  · exact .next h
  · exact exec_fits _ (h.of_tables id rfl rfl)

/-- Settles O10: the canonical form and the lanes' law are `Fitting` (`fits_nil_iff`), and every command keeps them. -/
theorem stepKeepsLaneStates : Obligations.StepKeepsLaneStates := by
  intro s t h e
  exact (fits_nil_iff t).1 (step_fits ((fits_nil_iff s).2 h) t e)

end Sys2Proof.Machine

/-! A LEVEL report lane by lane (R117, R118): what a reading makes of one lane's record, the lane's own turn, and that the other
lanes' turns leave it alone. -/

namespace Sys2Proof.Machine

/-! ### What a reading makes of a record -/

section
variable {x y : LaneRecord} {e : LaneReading} {capacity tolerance rebase r : Nat}

/-- Two records alike but for the committed need and the claim. -/
theorem unclaimed_eq_iff : y.unclaimed = x.unclaimed ↔
    ∃ c a w, y = { x with committed := c, allocation := a, waiting := w } := by
  constructor
  · intro same
    refine ⟨y.committed, y.allocation, y.waiting, ?_⟩
    cases x
    cases y
    simp only [LaneRecord.unclaimed, LaneRecord.mk.injEq] at same ⊢
    simp [same]
  · rintro ⟨c, a, w, rfl⟩
    rfl

theorem restated_unclaimed (x : LaneRecord) (ty : CartridgeType) : (x.restated ty).unclaimed = x.unclaimed.restated ty := rfl

/-- R118: the estimate's percentage over a confirmed reading. -/
def surplusOver (x : LaneRecord) (capacity r : Nat) : Int := (percentOf x.estimate capacity : Int) - (r : Int)

/-- R118, field by field. -/
theorem calibrated_eq (x : LaneRecord) (capacity r tolerance rebase : Nat) :
    calibrated x capacity r tolerance rebase =
      let d := surplusOver x capacity r
      let rebased := (rebase : Int) < d ∨ d < -(rebase : Int)
      { x with
        factor := if (tolerance : Int) < d then min 96 (x.factor + 1)
          else if d < -(tolerance : Int) then max 32 (x.factor - 1) else x.factor
        estimate := if rebased then r * capacity / 100 else x.estimate
        fraction := if rebased then 0 else x.fraction } := by
  unfold calibrated
  simp only [← surplusOver.eq_def, gt_iff_lt]
  by_cases rebased : (rebase : Int) < surplusOver x capacity r ∨ surplusOver x capacity r < -(rebase : Int)
  · simp only [rebased, if_true]
    split_ifs <;> rfl
  · simp only [rebased, if_false]
    split_ifs <;> rfl

theorem readLane_none (silent : e.reading = none) :
    readLane x e capacity tolerance rebase = { x with emptyFlag := e.empty } := by
  rw [readLane, silent]

/-- R117: a reading that no candidate agrees with is the new candidate. -/
theorem readLane_apart (read : e.reading = some r) (apart : x.candidate.any (readingsAgree r) = false) :
    readLane x e capacity tolerance rebase = { x with emptyFlag := e.empty, candidate := some r } := by
  simp [readLane, read, apart]

/-- R117: a reading that agrees with the candidate is confirmed. -/
theorem readLane_agree (read : e.reading = some r) (agree : x.candidate.any (readingsAgree r) = true) :
    readLane x e capacity tolerance rebase = { calibrated x capacity r tolerance rebase with
      emptyFlag := e.empty, candidate := some r, confirmed := some r } := by
  simp only [readLane, read, agree, if_true, calibrated_eq]
  rfl

/-- What a reading makes of a record does not turn on the claim. -/
theorem readLane_unclaimed (x : LaneRecord) (e : LaneReading) (capacity tolerance rebase : Nat) :
    (readLane x e capacity tolerance rebase).unclaimed = readLane x.unclaimed e capacity tolerance rebase := by
  cases read : e.reading with
  | none => rw [readLane_none read, readLane_none read]; rfl
  | some r =>
    cases agree : x.candidate.any (readingsAgree r) with
    | false =>
      have agree' : x.unclaimed.candidate.any (readingsAgree r) = false := agree
      rw [readLane_apart read agree, readLane_apart read agree']
      rfl
    | true =>
      have agree' : x.unclaimed.candidate.any (readingsAgree r) = true := agree
      rw [readLane_agree read agree, readLane_agree read agree', calibrated_eq, calibrated_eq]
      rfl

/-- R117, R118: what a lane's record is after its entry of a LEVEL report. -/
def ReadAs (x y : LaneRecord) (e : LaneReading) (capacity tolerance rebase : Nat) : Prop :=
  (e.reading = none → y.candidate = x.candidate ∧ y.confirmed = x.confirmed ∧ y.estimate = x.estimate ∧
    y.fraction = x.fraction ∧ y.factor = x.factor) ∧
  (∀ n, e.reading = some n → y.candidate = some n ∧
    ((∀ c, x.candidate = some c → c + 2 < n ∨ n + 2 < c) →
      y.confirmed = x.confirmed ∧ y.estimate = x.estimate ∧ y.fraction = x.fraction ∧ y.factor = x.factor) ∧
    (∀ c, x.candidate = some c → c ≤ n + 2 → n ≤ c + 2 →
      let d := surplusOver x capacity n
      y.confirmed = some n ∧
      y.factor = (if (tolerance : Int) < d then min 96 (x.factor + 1)
        else if d < -(tolerance : Int) then max 32 (x.factor - 1) else x.factor) ∧
      ((rebase : Int) < d ∨ d < -(rebase : Int) → y.estimate = n * capacity / 100 ∧ y.fraction = 0) ∧
      (¬((rebase : Int) < d ∨ d < -(rebase : Int)) → y.estimate = x.estimate ∧ y.fraction = x.fraction)))

theorem readLane_type (x : LaneRecord) (e : LaneReading) (capacity tolerance rebase : Nat) :
    (readLane x e capacity tolerance rebase).type = x.type ∧
      (readLane x e capacity tolerance rebase).emptyFlag = e.empty := by
  cases read : e.reading with
  | none => rw [readLane_none read]; exact ⟨rfl, rfl⟩
  | some r =>
    cases agree : x.candidate.any (readingsAgree r) with
    | false => rw [readLane_apart read agree]; exact ⟨rfl, rfl⟩
    | true => rw [readLane_agree read agree, calibrated_eq]; exact ⟨rfl, rfl⟩

theorem readLane_readAs (x : LaneRecord) (e : LaneReading) (capacity tolerance rebase : Nat) :
    ReadAs x (readLane x e capacity tolerance rebase) e capacity tolerance rebase := by
  refine ⟨fun silent => ?_, fun n read => ?_⟩
  · rw [readLane_none silent]
    exact ⟨rfl, rfl, rfl, rfl, rfl⟩
  · cases agree : x.candidate.any (readingsAgree n) with
    | false =>
      rw [readLane_apart read agree]
      refine ⟨rfl, fun _ => ⟨rfl, rfl, rfl, rfl⟩, fun c held above below => ?_⟩
      rw [held] at agree
      simp [readingsAgree, above, below] at agree
    | true =>
      rw [readLane_agree read agree, calibrated_eq]
      refine ⟨rfl, fun apart => ?_, fun c _ _ _ => ⟨rfl, rfl, fun rebased => ?_, fun kept => ?_⟩⟩
      · obtain ⟨c, held, near⟩ := Option.any_eq_true _ _ |>.1 agree
        have := apart c held
        simp only [readingsAgree, Bool.and_eq_true, decide_eq_true_eq] at near
        omega
      · exact ⟨if_pos rebased, if_pos rebased⟩
      · exact ⟨if_neg kept, if_neg kept⟩

end

/-! ### A lane's turn -/

section
variable {s t u : State} {n : Nat} {l : Lane}

/-- What another lane's turn of a LEVEL report leaves: this lane's record but for its committed need and its claim, every
type's capacity and percentages, and the estimator's limits. -/
structure LaneStands (n : Nat) (l : Lane) (s t : State) : Prop where
  lane : (t.lane n l).map LaneRecord.unclaimed = (s.lane n l).map LaneRecord.unclaimed
  types : SettingsKept s t
  tolerance : t.se.tolerance = s.se.tolerance
  rebaseLimit : t.se.rebaseLimit = s.se.rebaseLimit

theorem LaneStands.refl (n : Nat) (l : Lane) (s : State) : LaneStands n l s s := ⟨rfl, .refl s, rfl, rfl⟩

theorem LaneStands.trans (h : LaneStands n l s t) (h' : LaneStands n l t u) : LaneStands n l s u where
  lane := h'.lane.trans h.lane
  types := h.types.trans h'.types
  tolerance := h'.tolerance.trans h.tolerance
  rebaseLimit := h'.rebaseLimit.trans h.rebaseLimit

theorem Undisturbed.laneStands (h : Undisturbed s t) (n : Nat) (l : Lane) : LaneStands n l s t :=
  ⟨h.lane n l, h.types, h.tolerance, h.rebaseLimit⟩

theorem setLane_laneStands {m : Nat} {l' : Lane} (other : ¬(n = m ∧ l = l')) (z : Option LaneRecord) (s : State) :
    LaneStands n l s (s.setLane m l' z) :=
  ⟨by rw [State.lane_setLane, if_neg other], .of_su rfl, rfl, rfl⟩

theorem recompute_laneStands {m : Nat} {l' : Lane} (other : ¬(n = m ∧ l = l')) (s : State) :
    LaneStands n l s (recompute m l' s) := by
  obtain ⟨same, -⟩ | ⟨x, -, -, changed⟩ := recompute_cases m l' s
  · rw [same]
    exact .refl n l s
  · rw [changed]
    exact (setLane_laneStands other _ s).trans ((laneEffects_undisturbed _).laneStands n l)

/-- R110: the record computed again is the one its figures give, but for the claim. -/
theorem recompute_present {x : LaneRecord} (present : s.lane n l = some x) : ∃ y, (recompute n l s).lane n l = some y ∧
    y.unclaimed = (x.restated (s.ctype x.type)).unclaimed := by
  obtain ⟨same, fits⟩ | ⟨z, found, -, changed⟩ := recompute_cases n l s
  · refine ⟨x, by rw [same, present], ?_⟩
    rw [LaneRecord.restated, ← (stateFits_iff _ _).1 (fits x present)]
  · obtain rfl : z = x := Option.some.inj (found.symm.trans present)
    rw [changed]
    exact (laneEffects_undisturbed _).present (by rw [State.lane_setLane, if_pos ⟨rfl, rfl⟩])

/-- R117: the lane's own turn, from its record but for the claim. -/
theorem takeReading_present {x : LaneRecord} (present : (s.lane n l).map LaneRecord.unclaimed = some x.unclaimed)
    (e : LaneReading) : ∃ y, (takeReading n l e s).lane n l = some y ∧ y.unclaimed =
      ((readLane x e (s.ctype x.type).capacity s.se.tolerance s.se.rebaseLimit).restated (s.ctype x.type)).unclaimed := by
  obtain ⟨z, found, same⟩ := Option.map_eq_some_iff.1 present
  have type : z.type = x.type := LaneRecord.type_of_unclaimed same
  generalize read : readLane z e (s.ctype z.type).capacity s.se.tolerance s.se.rebaseLimit = r
  have like : r.unclaimed = (readLane x e (s.ctype x.type).capacity s.se.tolerance s.se.rebaseLimit).unclaimed := by
    rw [← read, readLane_unclaimed, same, type, ← readLane_unclaimed]
  have kind : r.type = x.type := by rw [← read, (readLane_type ..).1, type]
  obtain ⟨y, now, given⟩ := recompute_present (s := s.setLane n l (some r)) (n := n) (l := l) (x := r)
    (by rw [State.lane_setLane, if_pos ⟨rfl, rfl⟩])
  refine ⟨y, ?_, given.trans ?_⟩
  · rw [takeReading, found]
    dsimp only
    rw [read]
    exact now
  · rw [kind, restated_unclaimed, like]
    rfl

theorem takeReading_absent (absent : s.lane n l = none) (e : LaneReading) : takeReading n l e s = s := by
  rw [takeReading, absent]

theorem takeReading_laneStands {l' : Lane} (other : l ≠ l') (e : LaneReading) (s : State) :
    LaneStands n l s (takeReading n l' e s) := by
  have apart : ¬(n = n ∧ l = l') := fun same => other same.2
  unfold takeReading
  split
  · exact .refl n l s
  · exact (setLane_laneStands apart _ s).trans (recompute_laneStands apart _)

/-- The turns of other lanes. -/
theorem takeReadings_laneStands (r : PerLane LaneReading) {ls : List Lane} (off : l ∉ ls) (s : State) :
    LaneStands n l s (ls.foldl (fun s l => takeReading n l (r.get l) s) s) := by
  induction ls generalizing s with
  | nil => exact .refl n l s
  | cons l' ls ih =>
    exact (takeReading_laneStands (List.ne_of_not_mem_cons off) _ s).trans (ih (List.not_mem_of_not_mem_cons off) _)

/-! ### The report -/

/-- A LEVEL report is the lane's own turn between the others'. -/
theorem takeLevel_turn (n : Nat) (l : Lane) (r : PerLane LaneReading) (s : State) :
    ∃ a, LaneStands n l s a ∧ LaneStands n l (takeReading n l (r.get l) a) (takeLevel n r s) := by
  obtain ⟨before, after, all, off, off'⟩ := lane_turn l
  refine ⟨_, takeReadings_laneStands r off s, ?_⟩
  rw [takeLevel, all, List.foldl_append, List.foldl_cons]
  exact takeReadings_laneStands r off' _

theorem takeLevel_absent (absent : s.lane n l = none) (r : PerLane LaneReading) : (takeLevel n r s).lane n l = none := by
  obtain ⟨a, before, after⟩ := takeLevel_turn n l r s
  have still : a.lane n l = none := by
    have same := before.lane
    rw [absent] at same
    exact Option.map_eq_none_iff.1 same
  have same := after.lane
  rw [takeReading_absent still, still] at same
  exact Option.map_eq_none_iff.1 same

theorem takeLevel_present {x : LaneRecord} (present : s.lane n l = some x) (r : PerLane LaneReading) :
    ∃ y, (takeLevel n r s).lane n l = some y ∧ y.unclaimed = ((readLane x (r.get l) (s.ctype x.type).capacity s.se.tolerance
      s.se.rebaseLimit).restated (s.ctype x.type)).unclaimed := by
  obtain ⟨a, before, after⟩ := takeLevel_turn n l r s
  have still := before.lane
  rw [present] at still
  obtain ⟨z, found, given⟩ := takeReading_present still (r.get l)
  have same := after.lane
  rw [found] at same
  obtain ⟨y, now, kept⟩ := Option.map_eq_some_iff.1 same
  refine ⟨y, now, kept.trans (given.trans ?_)⟩
  rw [before.tolerance, before.rebaseLimit, (before.types x.type).1, LaneRecord.restated, before.types.laneState]
  rfl

theorem exec_level {l : LinkFrame} {r : PerLane LaneReading} (heard : HeardPlainly l s)
    (ok : ∀ lane n, (r.get lane).reading = some n → n ≤ 100) :
    exec (.level l r) s = .next (takeLevel l.address r (restarted l.address s)) := by
  have inRange : readingsOk r = true := List.all_eq_true.2 fun lane _ => by
    cases read : (r.get lane).reading with
    | none => rfl
    | some n => simpa [optInRange, inRange] using ok lane n read
  refine congrArg Host.Outcome.next ?_
  rw [inRange, takeReport_plain l .level _ s (by decide) heard]

/-- R117, R118, R110: the entry of every lane is read as the rules say, and its state is the one its figures give. -/
theorem takeLevel_reads {x : LaneRecord} (present : s.lane n l = some x) (r : PerLane LaneReading) :
    ∃ y, (takeLevel n r s).lane n l = some y ∧ y.type = x.type ∧ y.emptyFlag = (r.get l).empty ∧
      StateFits y (s.ctype x.type) ∧
      ReadAs x y (r.get l) (s.ctype x.type).capacity s.se.tolerance s.se.rebaseLimit := by
  obtain ⟨y, now, like⟩ := takeLevel_present present r
  obtain ⟨type, flag⟩ := readLane_type x (r.get l) (s.ctype x.type).capacity s.se.tolerance s.se.rebaseLimit
  have read := readLane_readAs x (r.get l) (s.ctype x.type).capacity s.se.tolerance s.se.rebaseLimit
  refine ⟨y, now, ?_⟩
  have fits := stateFits_of_unclaimed like (restated_fits _ _)
  obtain ⟨c, a, w, rfl⟩ := unclaimed_eq_iff.1 like
  exact ⟨type, flag, fits, read⟩

end

end Sys2Proof.Machine

/-! INSTALLED (R119): a full cartridge in a lane. The stock is settled for it, its state is computed again and becomes OK, a claim
it still has is given back, and the ordering trigger is tested (settles O53). -/

namespace Sys2Proof.Machine

/-! ### A type's stock and the notices -/

/-- A type's cartridges on hand and allocated are as they were, and no notice flag is cleared. -/
structure StockStands (u : Nat) (s t : State) : Prop where
  onHand : (t.ctype u).onHand = (s.ctype u).onHand
  allocated : (t.ctype u).allocated = (s.ctype u).allocated
  flags : FlagsStay s t

section
variable {s t v : State} {n u : Nat} {l : Lane}

theorem StockStands.refl (u : Nat) (s : State) : StockStands u s s := ⟨rfl, rfl, fun _ _ => id⟩

theorem StockStands.trans (h : StockStands u s t) (h' : StockStands u t v) : StockStands u s v :=
  ⟨h'.onHand.trans h.onHand, h'.allocated.trans h.allocated, h.flags.trans h'.flags⟩

theorem StockStands.of_su (su : t.su = s.su) (flags : FlagsStay s t) : StockStands u s t :=
  ⟨by rw [ctype_congr su], by rw [ctype_congr su], flags⟩

theorem setType_stockStands {u' : Nat} {r : CartridgeType} (onHand : r.onHand = (s.ctype u').onHand)
    (allocated : r.allocated = (s.ctype u').allocated) : StockStands u s (s.setType u' r) := by
  refine ⟨?_, ?_, .of_ports rfl⟩
  all_goals
    rw [State.ctype_setType]
    split
  · next own => rw [own, onHand]
  · rfl
  · next own => rw [own, allocated]
  · rfl

theorem setLane_stockStands (n : Nat) (l : Lane) (z : Option LaneRecord) (s : State) :
    StockStands u s (s.setLane n l z) := .of_su rfl (.of_ports rfl)

theorem ctype_setLane (n : Nat) (l : Lane) (z : Option LaneRecord) (s : State) (u : Nat) :
    (s.setLane n l z).ctype u = s.ctype u := rfl

theorem raise_stockStands (p : PortName) (k : NoticeKind) (s : State) : StockStands u s (raise p k s) :=
  .of_su (raise_frame _ _ _).2.2.2.2.2.1 (flagsStay_raise p k s)

/-- R130, R131: an order changes neither what is on hand nor what is allocated. -/
theorem trigger_stockStands (u' : Nat) (s : State) : StockStands u s (trigger u' s) := by
  have deferred : ∀ q, StockStands u s (s.setDeferredTypes q) := fun q => ⟨rfl, rfl, .of_ports rfl⟩
  have ordered : StockStands u s (raiseOrder u' s) := by
    unfold raiseOrder
    dsimp only
    refine .trans (.trans ?_ (setType_stockStands (by rfl) (by rfl))) (raise_stockStands _ _ _)
    exact ⟨rfl, rfl, .of_ports rfl⟩
  unfold trigger
  dsimp only
  split
  · split
    · exact ordered
    · split
      · exact .refl u s
      · exact deferred _
  · split
    · exact deferred _
    · exact .refl u s

theorem lane_trigger (u : Nat) (s : State) (n : Nat) (l : Lane) : (trigger u s).lane n l = s.lane n l :=
  lane_congr (trigger_frame u s).2.2.2.2.1 n l

/-! ### The effects of a state reached (R111) -/

theorem supplyOutEffect_moves (n : Nat) (l : Lane) (old new : LaneState) (s : State) :
    FleetMoves s (supplyOutEffect n l old new s) := by
  unfold supplyOutEffect
  split
  · exact setSupplyOut_moves n l true s
  · split
    · exact setSupplyOut_moves n l false s
    · exact .refl

theorem calloutEffect_moves (n : Nat) (l : Lane) (old new : LaneState) (s : State) :
    FleetMoves s (calloutEffect n l old new s) := by
  unfold calloutEffect
  split
  · exact raiseItems_moves n .supply [.lane l] s
  · split
    · exact dropItem_moves n .supply (.lane l) s
    · exact .refl

/-- The supply-out mark and the callout item leave the stock and the lane's claim. -/
theorem marks_claim {x : LaneRecord} (present : s.lane n l = some x) (old new : LaneState) :
    let v := calloutEffect n l old new (supplyOutEffect n l old new s)
    (∀ u, StockStands u s v) ∧ ∃ y, v.lane n l = some y ∧ y.claim = x.claim := by
  have moves : FleetMoves s (calloutEffect n l old new (supplyOutEffect n l old new s)) :=
    (supplyOutEffect_moves n l old new s).trans (calloutEffect_moves n l old new _)
  have calm := (supplyOutEffect_calm n l old new s).trans (calloutEffect_calm n l old new _)
  refine ⟨fun u => .of_su moves.apart.1 moves.flagsStay, ?_⟩
  have same := calm.claims n l
  rw [present] at same
  exact Option.map_eq_some_iff.1 same

/-- R129: with no cartridge of the type free, no waiting lane is served. -/
theorem serveWaiters_short (short : (s.ctype u).onHand ≤ (s.ctype u).allocated) : serveWaiters u s = s := by
  unfold serveWaiters
  cases (s.ctype u).waitList.length with
  | zero => rfl
  | succ fuel =>
    rw [serveWaitersN_succ]
    split
    · rfl
    · exact if_neg (not_lt.2 short)

/-- R127: a claim without a cartridge given back, where no other lane can be served. -/
theorem returnClaim_unserved {x : LaneRecord} (present : s.lane n l = some x) (unallocated : x.allocation = false)
    (short : x.waiting = true → (s.ctype x.type).onHand ≤ (s.ctype x.type).allocated) :
    StockStands x.type s (returnClaim n l s) ∧
      ∃ y, (returnClaim n l s).lane n l = some y ∧ y.allocation = false ∧ y.waiting = false := by
  rw [returnClaim_eq, present]
  dsimp only
  split
  · next claimed =>
    have waits : x.waiting = true := by simpa [unallocated] using claimed
    have moved : StockStands x.type s (moveClaim n l (withoutClaim n l x (s.ctype x.type))
        { x with allocation := false, waiting := false } s) :=
      .trans (setType_stockStands (by rfl) (by simp [withoutClaim, unallocated])) (setLane_stockStands _ _ _ _)
    have now : (moveClaim n l (withoutClaim n l x (s.ctype x.type))
        { x with allocation := false, waiting := false } s).lane n l = some { x with allocation := false, waiting := false } := by
      rw [moveClaim, State.lane_setLane, if_pos ⟨rfl, rfl⟩]
    rw [serveWaiters_short (by rw [moved.onHand, moved.allocated]; exact short waits)]
    exact ⟨moved.trans (trigger_stockStands _ _), _, (lane_trigger ..).trans now, rfl, rfl⟩
  · next unclaimed =>
    refine ⟨.refl _ s, x, present, unallocated, ?_⟩
    simpa [unallocated] using unclaimed

/-! ### The state computed again (R110) -/

/-- A full lane's state is OK where its type has a capacity and percentages below 100. -/
theorem laneState_full {x : LaneRecord} {ty : CartridgeType} (full : x.estimate = ty.capacity) (confirmed : x.confirmed = none)
    (flag : x.emptyFlag = false) (capacity : 1 ≤ ty.capacity) (critical : ty.critical ≤ 99) (reorder : ty.reorder ≤ 99) :
    laneState x ty = .ok := by
  have level : effectiveLevel x ty.capacity = ty.capacity := by rw [effectiveLevel, confirmed, full]
  have percent : percentOf ty.capacity ty.capacity = 100 := Nat.mul_div_cancel_left 100 capacity
  have some' : ty.capacity ≠ 0 := by omega
  have above : ¬100 ≤ ty.critical ∧ ¬100 ≤ ty.reorder := by omega
  simp [laneState, level, percent, some', flag, above]

/-- R110, R111: a lane without a cartridge allocated is OK again. A claim goes back if the state changed. -/
theorem recompute_toOk {x : LaneRecord} (present : s.lane n l = some x) (ok : laneState x (s.ctype x.type) = .ok)
    (unallocated : x.allocation = false)
    (short : x.waiting = true → (s.ctype x.type).onHand ≤ (s.ctype x.type).allocated) :
    StockStands x.type s (recompute n l s) ∧ ∃ y, (recompute n l s).lane n l = some y ∧ y.allocation = false ∧
      (x.state ≠ .ok ∨ x.waiting = false → y.waiting = false) := by
  obtain ⟨same, fits⟩ | ⟨z, found, -, changed⟩ := recompute_cases n l s
  · have state : x.state = .ok := ((stateFits_iff _ _).1 (fits x present)).trans ok
    rw [same]
    exact ⟨.refl _ s, x, present, unallocated, fun h => h.resolve_left (not_not.2 state)⟩
  · obtain rfl : z = x := Option.some.inj (found.symm.trans present)
    rw [changed, ok]
    have restated : (s.setLane n l (some (z.restated (s.ctype z.type)))).lane n l = some (z.restated (s.ctype z.type)) := by
      rw [State.lane_setLane, if_pos ⟨rfl, rfl⟩]
    obtain ⟨marked, y, now, claim⟩ := marks_claim restated z.state .ok
    have stands := (setLane_stockStands n l _ s).trans (marked z.type)
    simp only [LaneRecord.claim, Prod.mk.injEq] at claim
    obtain ⟨type, allocation, waiting⟩ := claim
    have kind : y.type = z.type := type
    obtain ⟨back, w, left, none, free⟩ := returnClaim_unserved now (allocation.trans unallocated) fun waits => by
      rw [kind, stands.onHand, stands.allocated]
      exact short (waiting.symm.trans waits)
    rw [kind] at back
    exact ⟨stands.trans back, w, left, none, fun _ => free⟩

/-! ### The stock settled (R119, step 2) -/

section
variable {x : LaneRecord} (present : s.lane n l = some x)
include present

/-- The cartridge installed is the one allocated to the lane. -/
theorem settleInstalled_allocated (allocated : x.allocation = true) : settleInstalled n l s =
    (s.setType x.type { s.ctype x.type with
      onHand := (s.ctype x.type).onHand - 1, allocated := (s.ctype x.type).allocated - 1 }).setLane n l
      (some { x with allocation := false }) := by
  simp only [settleInstalled, present, allocated, if_true]

/-- The cartridge installed is a free one. -/
theorem settleInstalled_free (unallocated : x.allocation = false) (free : (s.ctype x.type).allocated < (s.ctype x.type).onHand) :
    settleInstalled n l s = (s.setType x.type { s.ctype x.type with
      onHand := (s.ctype x.type).onHand - 1, waitList := (s.ctype x.type).waitList.filter (· ≠ ⟨n, l⟩) }).setLane n l
      (some { x with waiting := false }) := by
  simp [settleInstalled, present, unallocated, free]

/-- The cartridge installed is none of the stock's. -/
theorem settleInstalled_uncounted (unallocated : x.allocation = false)
    (short : (s.ctype x.type).onHand ≤ (s.ctype x.type).allocated) :
    settleInstalled n l s = raise .f .supply (s.setLane n l (some { x with uncounted := true })) := by
  simp [settleInstalled, present, unallocated, not_lt.2 short]

end

/-! ### INSTALLED -/

/-- A lane's record after INSTALLED, but for the uncounted mark. -/
structure FullAgain (x y : LaneRecord) (capacity : Nat) : Prop where
  type : y.type = x.type
  estimate : y.estimate = capacity
  fraction : y.fraction = 0
  candidate : y.candidate = none
  confirmed : y.confirmed = none
  emptyFlag : y.emptyFlag = false
  factor : y.factor = x.factor
  state : y.state = .ok
  allocation : y.allocation = false
  waiting : x.state ≠ .ok → y.waiting = false

/-- R119, steps 1 and 2. -/
def refilledAndSettled (n : Nat) (l : Lane) (x : LaneRecord) (s : State) : State :=
  settleInstalled n l (s.setLane n l (some (refilledLane x (s.ctype x.type).capacity)))

theorem refilled_lane {x : LaneRecord} : (s.setLane n l (some (refilledLane x (s.ctype x.type).capacity))).lane n l =
    some (refilledLane x (s.ctype x.type).capacity) := by
  rw [State.lane_setLane, if_pos ⟨rfl, rfl⟩]

theorem install_absent (absent : s.lane n l = none) : install n l s = s := by rw [install, absent]

theorem install_present {x : LaneRecord} (present : s.lane n l = some x) :
    install n l s = trigger x.type (recompute n l (refilledAndSettled n l x s)) := by
  rw [install, present]
  rfl

/-- R119, steps 3 and 4, behind a stock settled: v is the state then, with the lane's record z. -/
theorem settled_full {x z : LaneRecord} (present : v.lane n l = some z) {w b : Bool}
    (settled : z = { refilledLane x (v.ctype x.type).capacity with allocation := false, waiting := w, uncounted := b })
    (capacity : 1 ≤ (v.ctype x.type).capacity) (critical : (v.ctype x.type).critical ≤ 99)
    (reorder : (v.ctype x.type).reorder ≤ 99) (short : w = true → (v.ctype x.type).onHand ≤ (v.ctype x.type).allocated) :
    StockStands x.type v (trigger x.type (recompute n l v)) ∧ ∃ y, (trigger x.type (recompute n l v)).lane n l = some y ∧
      FullAgain x y (v.ctype x.type).capacity ∧ y.uncounted = b ∧ (w = false → y.waiting = false) := by
  subst settled
  have ok := laneState_full (x := { refilledLane x (v.ctype x.type).capacity with
    allocation := false, waiting := w, uncounted := b }) rfl rfl rfl capacity critical reorder
  obtain ⟨stands, y, now, allocation, waiting⟩ := recompute_toOk present ok rfl short
  obtain ⟨y', now', like⟩ := recompute_present present
  obtain rfl : y = y' := Option.some.inj (now.symm.trans now')
  refine ⟨stands.trans (trigger_stockStands _ _), y, (lane_trigger ..).trans now, ?_⟩
  have state : y.state = .ok := (congrArg LaneRecord.state like).trans ok
  obtain ⟨c, a, w', rfl⟩ := unclaimed_eq_iff.1 like
  exact ⟨⟨rfl, rfl, rfl, rfl, rfl, rfl, rfl, state, allocation, fun worse => waiting (.inl worse)⟩, rfl,
    fun free => waiting (.inr free)⟩

theorem exec_installed {l : LinkFrame} (heard : HeardPlainly l s) (lane : Lane) :
    exec (.installed l lane) s = .next (install l.address lane (restarted l.address s)) :=
  congrArg Host.Outcome.next (takeReport_plain l .installed _ s (by decide) heard)

end

/-! ### The three cases of the stock -/

section
variable {s : State} {n : Nat} {l : Lane} {x : LaneRecord} (present : s.lane n l = some x)
  (capacity : 1 ≤ (s.ctype x.type).capacity) (critical : (s.ctype x.type).critical ≤ 99)
  (reorder : (s.ctype x.type).reorder ≤ 99)
include present capacity critical reorder

/-- R119, steps 3 and 4, behind a stock settled: v is the state then. -/
theorem install_settled {v : State} {w b : Bool} (settled : refilledAndSettled n l x s = v) (kept : SettingsKept s v)
    (now : v.lane n l = some
      { refilledLane x (s.ctype x.type).capacity with allocation := false, waiting := w, uncounted := b })
    (short : w = true → (v.ctype x.type).onHand ≤ (v.ctype x.type).allocated) :
    StockStands x.type v (install n l s) ∧ ∃ y, (install n l s).lane n l = some y ∧
      FullAgain x y (s.ctype x.type).capacity ∧ y.uncounted = b ∧ (w = false → y.waiting = false) := by
  obtain ⟨capacity', critical', reorder'⟩ := kept x.type
  rw [install_present present, settled]
  rw [← capacity'] at now capacity ⊢
  rw [← critical'] at critical
  rw [← reorder'] at reorder
  exact settled_full now rfl capacity critical reorder short

theorem install_allocated (allocated : x.allocation = true) (unwaiting : x.waiting = false) :
    ∃ y, (install n l s).lane n l = some y ∧ FullAgain x y (s.ctype x.type).capacity ∧ y.uncounted = x.uncounted ∧
      ((install n l s).ctype x.type).onHand = (s.ctype x.type).onHand - 1 ∧
      ((install n l s).ctype x.type).allocated = (s.ctype x.type).allocated - 1 := by
  have settled := settleInstalled_allocated (refilled_lane (n := n) (l := l) (x := x) (s := s)) allocated
  obtain ⟨stands, y, now, full, uncounted, -⟩ := install_settled present capacity critical reorder settled
    (setType_settingsKept (by rfl) (by rfl) (by rfl)) (w := x.waiting) (b := x.uncounted)
    (by rw [State.lane_setLane, if_pos ⟨rfl, rfl⟩]; rfl) (fun waits => by rw [unwaiting] at waits; cases waits)
  refine ⟨y, now, full, uncounted, stands.onHand.trans ?_, stands.allocated.trans ?_⟩
  all_goals
    rw [ctype_setLane, refilledLane, State.ctype_setType, if_pos rfl]
    rfl

theorem install_free (unallocated : x.allocation = false) (free : (s.ctype x.type).allocated < (s.ctype x.type).onHand) :
    ∃ y, (install n l s).lane n l = some y ∧ FullAgain x y (s.ctype x.type).capacity ∧ y.uncounted = x.uncounted ∧
      ((install n l s).ctype x.type).onHand = (s.ctype x.type).onHand - 1 ∧
      ((install n l s).ctype x.type).allocated = (s.ctype x.type).allocated ∧ y.waiting = false := by
  have settled := settleInstalled_free (refilled_lane (n := n) (l := l) (x := x) (s := s)) unallocated free
  obtain ⟨stands, y, now, full, uncounted, waiting⟩ := install_settled present capacity critical reorder settled
    (setType_settingsKept (by rfl) (by rfl) (by rfl)) (w := false) (b := x.uncounted)
    (by rw [State.lane_setLane, if_pos ⟨rfl, rfl⟩, ← unallocated]; rfl) (fun waits => by cases waits)
  refine ⟨y, now, full, uncounted, stands.onHand.trans ?_, stands.allocated.trans ?_, waiting rfl⟩
  all_goals
    rw [ctype_setLane, refilledLane, State.ctype_setType, if_pos rfl]
    rfl

theorem install_uncounted (unallocated : x.allocation = false)
    (short : (s.ctype x.type).onHand ≤ (s.ctype x.type).allocated) :
    ∃ y, (install n l s).lane n l = some y ∧ FullAgain x y (s.ctype x.type).capacity ∧ y.uncounted = true ∧
      ((install n l s).ctype x.type).onHand = (s.ctype x.type).onHand ∧
      ((install n l s).ctype x.type).allocated = (s.ctype x.type).allocated ∧
      hasNotice ((install n l s).port .f).flags .supply = true := by
  have settled := settleInstalled_uncounted (refilled_lane (n := n) (l := l) (x := x) (s := s)) unallocated short
  have counted : ∀ z, StockStands x.type s (raise .f .supply ((s.setLane n l (some (refilledLane x
      (s.ctype x.type).capacity))).setLane n l z)) := fun z =>
    ((setLane_stockStands ..).trans (setLane_stockStands ..)).trans (raise_stockStands ..)
  obtain ⟨stands, y, now, full, uncounted, -⟩ := install_settled present capacity critical reorder settled
    (.of_su (raise_frame _ _ _).2.2.2.2.2.1) (w := x.waiting) (b := true)
    (by rw [lane_congr (raise_frame _ _ _).2.2.2.2.1, State.lane_setLane, if_pos ⟨rfl, rfl⟩, ← unallocated]; rfl)
    (fun _ => by rw [(counted _).onHand, (counted _).allocated]; exact short)
  exact ⟨y, now, full, uncounted, stands.onHand.trans (counted _).onHand, stands.allocated.trans (counted _).allocated,
    stands.flags .f .supply (hasNotice_raise .f .supply _)⟩

/-- R119: what becomes of the stock, by the lane's claim and the type's free cartridges. -/
theorem install_full (oneClaim : ¬(x.allocation = true ∧ x.waiting = true)) :
    let ty := s.ctype x.type
    let t := install n l s
    ∃ y, t.lane n l = some y ∧ FullAgain x y ty.capacity ∧
      (x.allocation = true → (t.ctype x.type).onHand = ty.onHand - 1 ∧ (t.ctype x.type).allocated = ty.allocated - 1 ∧
        y.uncounted = x.uncounted) ∧
      (x.allocation = false → ty.allocated < ty.onHand → (t.ctype x.type).onHand = ty.onHand - 1 ∧
        (t.ctype x.type).allocated = ty.allocated ∧ y.waiting = false ∧ y.uncounted = x.uncounted) ∧
      (x.allocation = false → ty.onHand ≤ ty.allocated → (t.ctype x.type).onHand = ty.onHand ∧
        (t.ctype x.type).allocated = ty.allocated ∧ y.uncounted = true ∧
        hasNotice (t.port .f).flags .supply = true) := by
  intro ty t
  cases allocation : x.allocation with
  | true =>
    have unwaiting : x.waiting = false := by simpa [allocation] using oneClaim
    obtain ⟨y, now, full, uncounted, onHand, allocated⟩ :=
      install_allocated present capacity critical reorder allocation unwaiting
    exact ⟨y, now, full, fun _ => ⟨onHand, allocated, uncounted⟩, nofun, nofun⟩
  | false =>
    by_cases free : ty.allocated < ty.onHand
    · obtain ⟨y, now, full, uncounted, onHand, allocated, waiting⟩ :=
        install_free present capacity critical reorder allocation free
      exact ⟨y, now, full, nofun, fun _ _ => ⟨onHand, allocated, waiting, uncounted⟩,
        fun _ short => absurd free (not_lt.2 short)⟩
    · obtain ⟨y, now, full, uncounted, onHand, allocated, notice⟩ :=
        install_uncounted present capacity critical reorder allocation (not_lt.1 free)
      exact ⟨y, now, full, nofun, fun _ free' => absurd free' free, fun _ _ => ⟨onHand, allocated, uncounted, notice⟩⟩

end

/-- Settles O53: `takeLevel_reads` for LEVEL, lane by lane, and `install_full` for INSTALLED. -/
theorem levelAndInstalled : Obligations.LevelAndInstalled := by
  refine ⟨fun l r s _ heard ok => ?_, fun l lane s heard absent => ?_, fun l lane x s laws heard present => ?_⟩
  · refine ⟨_, exec_level heard ok, fun lane absent => ?_, fun lane x present => ?_⟩
    · exact takeLevel_absent (s := restarted l.address s) absent r
    · exact takeLevel_reads (s := restarted l.address s) present r
  · rw [exec_installed heard, install_absent (s := restarted l.address s) absent]
  · intro ty capacity critical reorder
    obtain ⟨-, ⟨-, oneClaim, -⟩, -⟩ := laws
    obtain ⟨y, now, full, stock⟩ := install_full (s := restarted l.address s) present capacity critical reorder
      (oneClaim _ _ x present)
    exact ⟨_, y, exec_installed heard lane, now, full.type, full.estimate, full.fraction, full.candidate, full.confirmed,
      full.emptyFlag, full.factor, full.state, full.allocation, full.waiting, stock⟩

end Sys2Proof.Machine
